-- ==== Sys2Proof/Word.lean ====
section
/-! DEFINITION. The byte, the numbers that name the machines of a line (spec/00_scope.md, Tables 0-1 and 0-3),
and the table of a fixed number of like records. -/

namespace Sys2Proof

/-- One byte of a telegram (Table 1-1). -/
abbrev Byte := BitVec 8

abbrev FrameId := Fin 48
abbrev ArticleId := Fin 16
abbrev ZoneId := Fin 8
abbrev RobotId := Fin 12
abbrev DofferId := Fin 8
abbrev CarrierId := Fin 8
abbrev AisleId := Fin 64
/-- A roving group of one frame: 0 to 15 on side A, 16 to 31 on side B (Table 0-3). -/
abbrev GroupId := Fin 32

/-- `n` like records, one for each number below `n`. Held as a list with its length, so that it is plain data and
the kernel can evaluate every operation on it. -/
structure Tab (n : Nat) (α : Type) where
  items : List α
  size : items.length = n
deriving DecidableEq, Repr

variable {n : Nat} {α β : Type}

/-- Every record the same. -/
def Tab.fill (n : Nat) (v : α) : Tab n α := ⟨List.replicate n v, List.length_replicate⟩

/-- Record `i` is `f i`. -/
def Tab.build (f : Fin n → α) : Tab n α := ⟨(List.finRange n).map f, by simp⟩

def Tab.get (t : Tab n α) (i : Fin n) : α := t.items[i.val]'(by rw [t.size]; exact i.isLt)

def Tab.set (t : Tab n α) (i : Fin n) (v : α) : Tab n α := ⟨t.items.set i.val v, by simp [t.size]⟩

def Tab.map (f : α → β) (t : Tab n α) : Tab n β := ⟨t.items.map f, by simp [t.size]⟩

def Tab.modify (t : Tab n α) (i : Fin n) (f : α → α) : Tab n α := t.set i (f (t.get i))

end Sys2Proof
end

