-- ==== Sys2Proof/Syntax.lean ====
section
/-! DEFINITION. The commands: one constructor for each row of spec/opcode_table.json, with the row's operands.
The docstring of a constructor names the row and the telegram or event it stands for. A floor report and a management
telegram carry the node byte, the sequence byte and the payload fields of Table 1-2 as numbers; the five link rows
carry the bytes received; a hand-off carries what one unit hands to another. -/

namespace Sys2Proof

/-- The two serial ports (spec/00 section 0.2). -/
inductive Port where
  | floor
  | uplink
deriving DecidableEq, Repr

/-- A side of a frame; code 0 is A and 1 is B (R1). -/
inductive Side where
  | A
  | B
deriving DecidableEq, Repr

inductive Instr where
  /-- CHECK_ERROR: a port delivers bytes that fail R2 or R3. -/
  | checkError (port : Port) (bytes : List Byte)
  /-- MALFORMED: a port delivers a telegram that fails R4, R5 or R7. -/
  | malformed (port : Port) (bytes : List Byte)
  /-- UNKNOWN_NODE: a port delivers a telegram that fails R6. -/
  | unknownNode (port : Port) (bytes : List Byte)
  /-- FLOOR_MAINTENANCE: the floor port delivers a telegram of unknown kind. -/
  | floorMaintenance (bytes : List Byte)
  /-- DOWN_TELEGRAM: the uplink delivers a telegram for a floor node. -/
  | downTelegram (bytes : List Byte)
  /-- TRANSMIT_COMPLETE: a port has finished sending its oldest entry. -/
  | transmitComplete (port : Port)
  /-- DELIVERY (pulse counter). -/
  | delivery (node seq pulse : Nat)
  /-- DCU_DELIVERY_HANDOFF (frame, ΔL, target reached). -/
  | dcuDeliveryHandoff (f : FrameId) (dL : Nat) (target : Bool)
  /-- SPU_DELIVERY_HANDOFF (frame, ΔL, fill offered). -/
  | spuDeliveryHandoff (f : FrameId) (dL : Nat) (fill : Option Nat)
  /-- SCU_DELIVERY_HANDOFF (frame, ΔL, r, p, mtex). -/
  | scuDeliveryHandoff (f : FrameId) (dL r p mtex : Nat)
  /-- RSU_ROVING_HANDOFF (frame, ΔR). -/
  | rsuRovingHandoff (f : FrameId) (dR : Nat)
  /-- BREAK (side, index). -/
  | breakReport (node seq side index : Nat)
  /-- RUN (side, index). -/
  | runReport (node seq side index : Nat)
  /-- SIDE_STATE (side, first index, count, running bits). -/
  | sideState (node seq side first count : Nat) (bits : List Byte)
  /-- STOPPED. -/
  | stopped (node seq : Nat)
  /-- ROBOT_READY (aisle, position). -/
  | robotReady (node seq aisle position : Nat)
  /-- ROBOT_POS (aisle, position). -/
  | robotPos (node seq aisle position : Nat)
  /-- PIECED (frame, side, index). -/
  | pieced (node seq frame side index : Nat)
  /-- NOT_PIECED (frame, side, index, cause). -/
  | notPieced (node seq frame side index cause : Nat)
  /-- ROBOT_LEFT. -/
  | robotLeft (node seq : Nat)
  /-- DOFFER_READY. -/
  | dofferReady (node seq : Nat)
  /-- DOFF_DONE (frame). -/
  | doffDone (node seq frame : Nat)
  /-- DOFFER_FAULT. -/
  | dofferFault (node seq : Nat)
  /-- CARRIER_READY (load length). -/
  | carrierReady (node seq load : Nat)
  /-- ARRIVED (frame, group). -/
  | arrived (node seq frame group : Nat)
  /-- CHANGE_DONE (frame, group). -/
  | changeDone (node seq frame group : Nat)
  /-- CARRIER_FAULT. -/
  | carrierFault (node seq : Nat)
  /-- TABLE_WRITE: a TABLE-WRITE telegram (table, index, mask, values) without a row of its own. -/
  | tableWrite (seq table index mask : Nat) (values : List Byte)
  /-- FRAME_ENABLE: a TABLE-WRITE to table 0 that writes enabled = 1, and the other fields of `mask`. -/
  | frameEnable (seq index mask : Nat) (values : List Byte)
  /-- FRAME_DISABLE: a TABLE-WRITE to table 0 that writes enabled = 0, and the other fields of `mask`. -/
  | frameDisable (seq index mask : Nat) (values : List Byte)
  /-- FRAME_TABLE_WRITE: any other TABLE-WRITE to table 0. -/
  | frameTableWrite (seq index mask : Nat) (values : List Byte)
  /-- ARTICLE_TABLE_WRITE: a TABLE-WRITE to table 1. -/
  | articleTableWrite (seq index mask : Nat) (values : List Byte)
  /-- ZONE_TABLE_WRITE: a TABLE-WRITE to table 2. -/
  | zoneTableWrite (seq index mask : Nat) (values : List Byte)
  /-- ROBOT_ENABLE: a TABLE-WRITE to table 3 that writes enabled = 1, and the other fields of `mask`. -/
  | robotEnable (seq index mask : Nat) (values : List Byte)
  /-- ROBOT_DISABLE: a TABLE-WRITE to table 3 that writes enabled = 0, and the other fields of `mask`. -/
  | robotDisable (seq index mask : Nat) (values : List Byte)
  /-- ROBOT_ZONE_CHANGE: a TABLE-WRITE to table 3 that writes the zone alone. -/
  | robotZoneChange (seq index zone : Nat)
  /-- DOFFER_ENABLE: a TABLE-WRITE to table 4 that writes enabled = 1, and the other fields of `mask`. -/
  | dofferEnable (seq index mask : Nat) (values : List Byte)
  /-- DOFFER_DISABLE: a TABLE-WRITE to table 4 that writes enabled = 0, and the other fields of `mask`. -/
  | dofferDisable (seq index mask : Nat) (values : List Byte)
  /-- DOFFER_REACH_WRITE: a TABLE-WRITE to table 4 that writes the reach alone. -/
  | dofferReachWrite (seq index reach : Nat)
  /-- CARRIER_ENABLE: a TABLE-WRITE to table 5 that writes enabled = 1, and the other fields of `mask`. -/
  | carrierEnable (seq index mask : Nat) (values : List Byte)
  /-- CARRIER_DISABLE: a TABLE-WRITE to table 5 that writes enabled = 0, and the other fields of `mask`. -/
  | carrierDisable (seq index mask : Nat) (values : List Byte)
  /-- LINE_SETTINGS_WRITE: a TABLE-WRITE to table 6. -/
  | lineSettingsWrite (seq index mask : Nat) (values : List Byte)
  /-- DISPOSITION_TABLE_WRITE: a TABLE-WRITE to table 7. -/
  | dispositionTableWrite (seq index mask : Nat) (values : List Byte)
  /-- TABLE_READ (table, index). -/
  | tableRead (seq table index : Nat)
  /-- STATE_READ (object class, index). -/
  | stateRead (seq cls index : Nat)
  /-- MAP_READ (frame, side, first index, count). -/
  | mapRead (seq frame side first count : Nat)
  /-- LIST_READ (list, first, count). -/
  | listRead (seq list first count : Nat)
  /-- RELEASE_SPINDLE (frame, side, index). -/
  | releaseSpindle (seq frame side index : Nat)
  /-- COUNTS_READ (frame or 0xFF, record, clear-counters). -/
  | countsRead (seq frame record clear : Nat)
  /-- SHIFT_CLOSE (shift number). -/
  | shiftClose (seq shift : Nat)
  /-- HOLD: a FRAME-CMD of command code 0; it also stands for a FRAME-CMD of a code above 3 (log 11). -/
  | hold (seq frame command : Nat)
  /-- RESUME: a FRAME-CMD of command code 1. -/
  | resume (seq frame : Nat)
  /-- DOFF_NOW: a FRAME-CMD of command code 2. -/
  | doffNow (seq frame : Nat)
  /-- GROUP_LOADED: a FRAME-CMD of command code 3 (group, length). -/
  | groupLoaded (seq frame group length : Nat)
  /-- FLAGS_READ (clear). -/
  | flagsRead (seq clear : Nat)
  /-- PART_RESET. -/
  | partReset (seq : Nat)
  /-- LINE_RESET: a line reset of cause LINE-CMD begins; the line-number pins are read. -/
  | lineReset (pins : Fin 32)
  /-- PIN_RESET: RSTN is taken low; the line-number pins are read. -/
  | pinReset (pins : Fin 32)
  /-- SUPPLY_FAIL: the main supply falls to `mv` millivolts, below the fail level. -/
  | supplyFail (mv : Nat)
  /-- SUPPLY_RESET_EXIT: the main supply rises to `mv` millivolts, above the fail level; the pins are read. -/
  | supplyResetExit (mv : Nat) (pins : Fin 32)
  /-- VRET_LOSS: the retention supply is lost. -/
  | vretLoss
  /-- SUPPLY_FALL: the main supply falls to `mv` millivolts. -/
  | supplyFall (mv : Nat)
  /-- SUPPLY_RISE: the main supply rises to `mv` millivolts. -/
  | supplyRise (mv : Nat)
  /-- SNAPSHOT_READ: the SSU's read of the next frame's record. -/
  | snapshotRead
  /-- SECONDS_TICK: the next seconds tick of the line timer. -/
  | secondsTick
  /-- PIECING_DEADLINE_EXPIRY of a robot. -/
  | piecingDeadlineExpiry (k : RobotId)
  /-- MOVE_DEADLINE_EXPIRY of a robot. -/
  | moveDeadlineExpiry (k : RobotId)
  /-- LEAVING_DEADLINE_EXPIRY of a robot. -/
  | leavingDeadlineExpiry (k : RobotId)
  /-- VERIFY_DEADLINE_EXPIRY: the deadline of the earliest verify entry passes. -/
  | verifyDeadlineExpiry
  /-- VERIFY_EXPIRY: the PCD's request to the SMU. -/
  | verifyExpiry (f : FrameId) (side : Side) (index : Nat)
  /-- STOP_TIMER_EXPIRY of a frame. -/
  | stopTimerExpiry (f : FrameId)
  /-- DOFF_TIMER_EXPIRY of a doffer. -/
  | doffTimerExpiry (d : DofferId)
  /-- TRAVEL_TIMER_EXPIRY of a carrier. -/
  | travelTimerExpiry (c : CarrierId)
  /-- CHANGE_TIMER_EXPIRY of a carrier. -/
  | changeTimerExpiry (c : CarrierId)
  /-- PIECING_REQUEST: the PCD asks the SMU to take a piecing, with or without verify. -/
  | piecingRequest (f : FrameId) (side : Side) (index : Nat) (verify : Bool)
  /-- FAILURE_REQUEST: the PCD asks the SMU to take a failed piecing. -/
  | failureRequest (f : FrameId) (side : Side) (index : Nat)
  /-- WITHDRAW_REQUEST: the PCD asks the SMU to withdraw an assignment without an attempt. -/
  | withdrawRequest (f : FrameId) (side : Side) (index : Nat)
  /-- SMU_PIECING_CANCEL: the DCU's notice to the SMU that a frame has left RUNNING or STARTING. -/
  | smuPiecingCancel (f : FrameId)
  /-- PCD_PIECING_CANCEL: the DCU's notice to the PCD that a frame has left RUNNING or STARTING. -/
  | pcdPiecingCancel (f : FrameId)
  /-- STARVE_GROUP: the RSU asks the SMU to starve a group. -/
  | starveGroup (f : FrameId) (g : GroupId)
  /-- SPINDLE_DOFF_COMPLETION: the DCU asks the SMU for the doff completion of a frame. -/
  | spindleDoffCompletion (f : FrameId)
  /-- VERIFY_ENTRY_REMOVE: the SMU asks the PCD to remove a spindle's verify entry. -/
  | verifyEntryRemove (f : FrameId) (side : Side) (index : Nat)
  /-- SATISFIED_NOTICE: the SMU tells the PCD that the assignment naming a spindle is satisfied. -/
  | satisfiedNotice (f : FrameId) (side : Side) (index : Nat)
  /-- BROKEN_NOTICE: the SMU tells the PCD of a new BROKEN spindle. -/
  | brokenNotice (f : FrameId) (side : Side) (index : Nat)
  /-- FRAME_RUNNING_NOTICE: the DCU tells the PCD that a frame has become RUNNING or STARTING. -/
  | frameRunningNotice (f : FrameId)
  /-- GROUP_REEVALUATION: the RSU asks the PCD to re-evaluate a group. -/
  | groupReevaluation (f : FrameId) (g : GroupId)
  /-- FREE_AISLE_NOTICE: the AOU tells the PCD that an aisle can be granted again. -/
  | freeAisleNotice (a : AisleId)
  /-- ROBOT_RELEASE: the PCD gives up a robot's aisle to the AOU. -/
  | robotRelease (k : RobotId) (a : AisleId)
  /-- LAST_ASSIGNED_NOTICE: the SMU tells the RSU that a group has no ASSIGNED spindle. -/
  | lastAssignedNotice (f : FrameId) (g : GroupId)
  /-- ROBOT_RECALL: the AOU recalls a robot from an aisle. -/
  | robotRecall (k : RobotId) (a : AisleId)
  /-- DOFFER_RESERVATION: the DCU asks the AOU to reserve a frame's aisles for a doffer. -/
  | dofferReservation (d : DofferId) (f : FrameId)
  /-- DOFFER_RELEASE: the DCU asks the AOU for a doffer's release. -/
  | dofferRelease (d : DofferId)
  /-- AISLES_HELD_NOTICE: the AOU tells the DCU that a doffer holds the aisles of a frame. -/
  | aislesHeldNotice (d : DofferId) (f : FrameId)
  /-- DAU_DOFF_COMPLETION: the DCU asks the DAU for the doff completion, with the switch indication. -/
  | dauDoffCompletion (f : FrameId) (switched : Bool)
  /-- SPU_DOFF_COMPLETION: the SPU is asked for the doff-completion speed, with the switch indication. -/
  | spuDoffCompletion (f : FrameId) (switched : Bool)
  /-- SPU_RESUME_REQUEST: the SPU is asked for the resume speed; `restart` when RESTART follows it (R137). -/
  | spuResumeRequest (f : FrameId) (restart : Bool)
  /-- MONITORED_BREAK: the SMU hands the SPU one monitored break. -/
  | monitoredBreak (f : FrameId)
  /-- SCU_BREAK: one break item for the SCU. -/
  | scuBreak (f : FrameId)
  /-- SCU_ROVING_END_BREAK: one roving-end break item. -/
  | scuRovingEndBreak (f : FrameId)
  /-- SCU_ROGUE_EVENT: one rogue event item. -/
  | scuRogueEvent (f : FrameId)
  /-- SCU_SUCCESSFUL_PIECING: one successful piecing item. -/
  | scuSuccessfulPiecing (f : FrameId)
  /-- SCU_FAILED_PIECING: one failed piecing item. -/
  | scuFailedPiecing (f : FrameId)
  /-- SCU_DOFF: one doff item. -/
  | scuDoff (f : FrameId)
  /-- SCU_STOPPED_SECOND: one stopped second. -/
  | scuStoppedSecond (f : FrameId)
  /-- SCU_DOFF_WAIT_SECOND: one doff-wait second. -/
  | scuDoffWaitSecond (f : FrameId)
  /-- RSTN_RISES: RSTN rises; the line-number pins are read. -/
  | rstnRises (pins : Fin 32)
deriving DecidableEq, Repr

end Sys2Proof
end

