-- ==== Sys2Proof/Machine/Telegram.lean ====
section
/-! DEFINITION. The telegram (spec/01, Tables 1-1 and 1-2): byte order, check field, layout and kind codes. -/

namespace Sys2Proof

/-- The low `n` bytes of `v`, most significant byte first (spec/01 section 1.2). -/
def beBytes : Nat → Nat → List Byte
  | 0, _ => []
  | n + 1, v => BitVec.ofNat 8 (v / 256 ^ n) :: beBytes n v

/-- The number that bytes spell, most significant byte first. -/
def beNat (bytes : List Byte) : Nat := bytes.foldl (fun acc b => acc * 256 + b.toNat) 0

/-- The number in `len` bytes of a payload from `off` on. -/
def field (payload : List Byte) (off len : Nat) : Nat := beNat ((payload.drop off).take len)

/-- One bit into the check register: generator x^16 + x^12 + x^5 + 1 (R3). -/
def crcBit (reg : BitVec 16) (bit : Bool) : BitVec 16 :=
  if reg.msb != bit then (reg <<< 1) ^^^ 0x1021#16 else reg <<< 1

/-- The bits of a byte enter most significant first (R3). -/
def crcByte (reg : BitVec 16) (b : Byte) : BitVec 16 :=
  [b.getLsbD 7, b.getLsbD 6, b.getLsbD 5, b.getLsbD 4, b.getLsbD 3, b.getLsbD 2, b.getLsbD 1, b.getLsbD 0].foldl crcBit reg

/-- The check field of bytes 0 to 3+n: the register starts at 0xFFFF and is sent as it stands (R3). -/
def crc (bytes : List Byte) : BitVec 16 := bytes.foldl crcByte 0xFFFF#16

/-- One whole telegram. The length field and the check field follow from the rest (Table 1-1). -/
structure Telegram where
  kind : Byte
  node : Byte
  seq : Byte
  payload : List Byte
deriving DecidableEq, Repr

/-- Bytes 0 to 3+n. -/
def Telegram.body (t : Telegram) : List Byte :=
  t.kind :: t.node :: t.seq :: BitVec.ofNat 8 t.payload.length :: t.payload

/-- The telegram as it is sent, check field included (R12). -/
def Telegram.bytes (t : Telegram) : List Byte := t.body ++ beBytes 2 (crc t.body).toNat

/-- A telegram formed from numbers. -/
def telegram (kind node seq : Nat) (payload : List Byte) : Telegram :=
  { kind := BitVec.ofNat 8 kind, node := BitVec.ofNat 8 node, seq := BitVec.ofNat 8 seq, payload }

/-- The receive check (R2, R3): at least 6 bytes, a length field of at most 40 that agrees with the byte count, and the
check field. None is a check error. -/
def Telegram.parse (bytes : List Byte) : Option Telegram :=
  match bytes with
  | k :: nd :: q :: n :: rest =>
    if n.toNat ≤ 40 ∧ rest.length = n.toNat + 2 then
      let t : Telegram := { kind := k, node := nd, seq := q, payload := rest.take n.toNat }
      if beNat (rest.drop n.toNat) = (crc t.body).toNat then some t else none
    else none
  | _ => none

/-- The direction column of Table 1-2. -/
inductive Dir where
  /-- F↑, floor to part -/
  | floorUp
  /-- F↓, part to floor -/
  | floorDown
  /-- M↓, mill station to part -/
  | millDown
  /-- M↑, part to mill station -/
  | millUp
deriving DecidableEq, Repr

/-- The direction of a kind code; none is an unknown kind (Table 1-2). -/
def kindDir (k : Nat) : Option Dir :=
  if (0x01 ≤ k ∧ k ≤ 0x05) ∨ (0x10 ≤ k ∧ k ≤ 0x14) ∨ (0x18 ≤ k ∧ k ≤ 0x1A) ∨ (0x1C ≤ k ∧ k ≤ 0x1F) then some .floorUp
  else if (0x20 ≤ k ∧ k ≤ 0x26) ∨ (0x28 ≤ k ∧ k ≤ 0x30) then some .floorDown
  else if 0x40 ≤ k ∧ k ≤ 0x4A then some .millDown
  else if 0x60 ≤ k ∧ k ≤ 0x62 then some .millUp
  else none

/-- Whether a node number is that of a frame head, robot, doffer or carrier (Table 0-1). -/
def isFloorNode (n : Nat) : Bool :=
  n ≤ 0x2F || (0x40 ≤ n && n ≤ 0x4B) || (0x50 ≤ n && n ≤ 0x57) || (0x58 ≤ n && n ≤ 0x5F)

/-- The broadcast address of the floor (Table 0-1). -/
def floorBroadcast : Nat := 0x7F

/-- The part's own node number on the uplink (Table 0-1). -/
def partNode : Nat := 0xFF

def robotNode (k : RobotId) : Nat := 0x40 + k.val
def dofferNode (d : DofferId) : Nat := 0x50 + d.val
def carrierNode (c : CarrierId) : Nat := 0x58 + c.val

/-- Side codes (R1). -/
def Side.code : Side → Nat
  | .A => 0
  | .B => 1

/-- The side of a code; another code names no side. -/
def sideOf (code : Nat) : Option Side :=
  if code = 0 then some .A else if code = 1 then some .B else none

/-- The number of running-bit bytes of a SIDE-STATE (Table 1-2). -/
def bitBytes (count : Nat) : Nat := (count + 7) / 8

/-- Running bit `j` of a SIDE-STATE: the first is the most significant bit of the first byte (R1). -/
def runningBit (bits : List Byte) (j : Nat) : Bool := ((bits[j / 8]?).getD 0).getLsbD (7 - j % 8)

end Sys2Proof
end

