-- ==== Sys2Proof/Decode.lean ====
section
/-! DEFINITION. From the bytes that a port delivers to the command they spell (the receive checker and the class of a
telegram, spec/01 R2 to R5), total on any bytes; after it the telegram that a command is, from the same tables; and
`decodeTableWord`. The checks that read the part's state (R6, R7) belong to the commands' meanings. -/

namespace Sys2Proof

/-- A floor report by its kind code, when its length is the one Table 1-2 gives (R5). -/
def decodeReport (t : Telegram) : Option Instr :=
  let n := t.node.toNat
  let q := t.seq.toNat
  let p := t.payload
  let len := p.length
  match t.kind.toNat with
  | 0x01 => if len = 2 then some (.delivery n q (field p 0 2)) else none
  | 0x02 => if len = 3 then some (.breakReport n q (field p 0 1) (field p 1 2)) else none
  | 0x03 => if len = 3 then some (.runReport n q (field p 0 1) (field p 1 2)) else none
  | 0x04 =>
    if 5 ≤ len ∧ 1 ≤ field p 3 2 ∧ field p 3 2 ≤ 256 ∧ len = 5 + bitBytes (field p 3 2) then
      some (.sideState n q (field p 0 1) (field p 1 2) (field p 3 2) (p.drop 5))
    else none
  | 0x05 => if len = 0 then some (.stopped n q) else none
  | 0x10 => if len = 3 then some (.robotReady n q (field p 0 1) (field p 1 2)) else none
  | 0x11 => if len = 3 then some (.robotPos n q (field p 0 1) (field p 1 2)) else none
  | 0x12 => if len = 4 then some (.pieced n q (field p 0 1) (field p 1 1) (field p 2 2)) else none
  | 0x13 => if len = 5 then some (.notPieced n q (field p 0 1) (field p 1 1) (field p 2 2) (field p 4 1)) else none
  | 0x14 => if len = 0 then some (.robotLeft n q) else none
  | 0x18 => if len = 0 then some (.dofferReady n q) else none
  | 0x19 => if len = 1 then some (.doffDone n q (field p 0 1)) else none
  | 0x1A => if len = 0 then some (.dofferFault n q) else none
  | 0x1C => if len = 4 then some (.carrierReady n q (field p 0 4)) else none
  | 0x1D => if len = 2 then some (.arrived n q (field p 0 1) (field p 1 1)) else none
  | 0x1E => if len = 2 then some (.changeDone n q (field p 0 1) (field p 1 1)) else none
  | 0x1F => if len = 0 then some (.carrierFault n q) else none
  | _ => none

/-- Whether a table write begins by writing `v` into field 1, a field of one byte. -/
def writesFirst (mask : Nat) (values : List Byte) (v : Nat) : Bool :=
  mask.testBit 0 && (values.head?.map BitVec.toNat == some v)

/-- A TABLE-WRITE by the row it belongs to (log 12). -/
def decodeTableWrite (q table index mask : Nat) (values : List Byte) : Instr :=
  match table with
  | 0 =>
    if writesFirst mask values 1 then .frameEnable q index (mask - 1) values.tail
    else if writesFirst mask values 0 then .frameDisable q index (mask - 1) values.tail
    else .frameTableWrite q index mask values
  | 1 => .articleTableWrite q index mask values
  | 2 => .zoneTableWrite q index mask values
  | 3 =>
    if mask = 2 ∧ values.length = 1 then .robotZoneChange q index (beNat values)
    else if writesFirst mask values 1 then .robotEnable q index (mask - 1) values.tail
    else if writesFirst mask values 0 then .robotDisable q index (mask - 1) values.tail
    else .tableWrite q 3 index mask values
  | 4 =>
    if mask = 2 ∧ values.length = 6 then .dofferReachWrite q index (beNat values)
    else if writesFirst mask values 1 then .dofferEnable q index (mask - 1) values.tail
    else if writesFirst mask values 0 then .dofferDisable q index (mask - 1) values.tail
    else .tableWrite q 4 index mask values
  | 5 =>
    if writesFirst mask values 1 then .carrierEnable q index (mask - 1) values.tail
    else if writesFirst mask values 0 then .carrierDisable q index (mask - 1) values.tail
    else .tableWrite q 5 index mask values
  | 6 => .lineSettingsWrite q index mask values
  | 7 => .dispositionTableWrite q index mask values
  | _ => .tableWrite q table index mask values

/-- A FRAME-CMD by its command byte (R1, R5). -/
def decodeFrameCmd (q : Nat) (p : List Byte) : Option Instr :=
  if p.length < 2 then none
  else if field p 1 1 = 3 then
    (if p.length = 7 then some (.groupLoaded q (field p 0 1) (field p 2 1) (field p 3 4)) else none)
  else if p.length = 2 then
    (match field p 1 1 with
     | 1 => some (.resume q (field p 0 1))
     | 2 => some (.doffNow q (field p 0 1))
     | c => some (.hold q (field p 0 1) c))
  else none

/-- A management telegram by its kind code; none is a length fault (R5). -/
def decodeManagement (t : Telegram) : Option Instr :=
  let q := t.seq.toNat
  let p := t.payload
  let len := p.length
  match t.kind.toNat with
  | 0x40 => if 4 ≤ len then some (decodeTableWrite q (field p 0 1) (field p 1 1) (field p 2 2) (p.drop 4)) else none
  | 0x41 => if len = 2 then some (.tableRead q (field p 0 1) (field p 1 1)) else none
  | 0x42 => if len = 3 then some (.stateRead q (field p 0 1) (field p 1 2)) else none
  | 0x43 => if len = 5 then some (.mapRead q (field p 0 1) (field p 1 1) (field p 2 2) (field p 4 1)) else none
  | 0x44 => if len = 3 then some (.listRead q (field p 0 1) (field p 1 1) (field p 2 1)) else none
  | 0x45 => if len = 4 then some (.releaseSpindle q (field p 0 1) (field p 1 1) (field p 2 2)) else none
  | 0x46 => if len = 3 then some (.countsRead q (field p 0 1) (field p 1 1) (field p 2 1)) else none
  | 0x47 => if len = 2 then some (.shiftClose q (field p 0 2)) else none
  | 0x48 => decodeFrameCmd q p
  | 0x49 => if len = 1 then some (.flagsRead q (field p 0 1)) else none
  | 0x4A => if len = 0 then some (.partReset q) else none
  | _ => none

/-- The command that the bytes delivered by a port spell: the checks R2 to R5 in their order (R8). -/
def decodeTelegram (port : Port) (bytes : List Byte) : Instr :=
  match Telegram.parse bytes with
  | none => .checkError port bytes
  | some t =>
    match port, kindDir t.kind.toNat with
    | .floor, some .floorUp => (decodeReport t).getD (.malformed .floor bytes)
    | .floor, none => .floorMaintenance bytes
    | .floor, _ => .malformed .floor bytes
    | .uplink, dir =>
      if t.node.toNat = partNode then
        (if dir = some .millDown then (decodeManagement t).getD (.malformed .uplink bytes) else .malformed .uplink bytes)
      else if dir = some .millDown ∨ dir = some .millUp then .malformed .uplink bytes
      else .downTelegram bytes

/-- The port on which the telegram of a command arrives. -/
def Instr.port : Instr → Port
  | .delivery .. | .breakReport .. | .runReport .. | .sideState .. | .stopped .. | .robotReady .. | .robotPos ..
  | .pieced .. | .notPieced .. | .robotLeft .. | .dofferReady .. | .doffDone .. | .dofferFault .. | .carrierReady ..
  | .arrived .. | .changeDone .. | .carrierFault .. => .floor
  | _ => .uplink

/-- A TABLE-WRITE telegram. -/
def tableWriteTelegram (q table index mask : Nat) (values : List Byte) : Telegram :=
  telegram 0x40 partNode q (beBytes 1 table ++ beBytes 1 index ++ beBytes 2 mask ++ values)

/-- The telegram that a floor report or a management telegram is, by the same tables; none for every other command. -/
def encodeTelegram : Instr → Option Telegram
  | .delivery n q p => some (telegram 0x01 n q (beBytes 2 p))
  | .breakReport n q sd i => some (telegram 0x02 n q (beBytes 1 sd ++ beBytes 2 i))
  | .runReport n q sd i => some (telegram 0x03 n q (beBytes 1 sd ++ beBytes 2 i))
  | .sideState n q sd first count bits =>
    some (telegram 0x04 n q (beBytes 1 sd ++ beBytes 2 first ++ beBytes 2 count ++ bits))
  | .stopped n q => some (telegram 0x05 n q [])
  | .robotReady n q a p => some (telegram 0x10 n q (beBytes 1 a ++ beBytes 2 p))
  | .robotPos n q a p => some (telegram 0x11 n q (beBytes 1 a ++ beBytes 2 p))
  | .pieced n q f sd i => some (telegram 0x12 n q (beBytes 1 f ++ beBytes 1 sd ++ beBytes 2 i))
  | .notPieced n q f sd i c => some (telegram 0x13 n q (beBytes 1 f ++ beBytes 1 sd ++ beBytes 2 i ++ beBytes 1 c))
  | .robotLeft n q => some (telegram 0x14 n q [])
  | .dofferReady n q => some (telegram 0x18 n q [])
  | .doffDone n q f => some (telegram 0x19 n q (beBytes 1 f))
  | .dofferFault n q => some (telegram 0x1A n q [])
  | .carrierReady n q l => some (telegram 0x1C n q (beBytes 4 l))
  | .arrived n q f g => some (telegram 0x1D n q (beBytes 1 f ++ beBytes 1 g))
  | .changeDone n q f g => some (telegram 0x1E n q (beBytes 1 f ++ beBytes 1 g))
  | .carrierFault n q => some (telegram 0x1F n q [])
  | .tableWrite q t i m vs => some (tableWriteTelegram q t i m vs)
  | .frameEnable q i m vs => some (tableWriteTelegram q 0 i (m + 1) (1#8 :: vs))
  | .frameDisable q i m vs => some (tableWriteTelegram q 0 i (m + 1) (0#8 :: vs))
  | .frameTableWrite q i m vs => some (tableWriteTelegram q 0 i m vs)
  | .articleTableWrite q i m vs => some (tableWriteTelegram q 1 i m vs)
  | .zoneTableWrite q i m vs => some (tableWriteTelegram q 2 i m vs)
  | .robotEnable q i m vs => some (tableWriteTelegram q 3 i (m + 1) (1#8 :: vs))
  | .robotDisable q i m vs => some (tableWriteTelegram q 3 i (m + 1) (0#8 :: vs))
  | .robotZoneChange q i z => some (tableWriteTelegram q 3 i 2 (beBytes 1 z))
  | .dofferEnable q i m vs => some (tableWriteTelegram q 4 i (m + 1) (1#8 :: vs))
  | .dofferDisable q i m vs => some (tableWriteTelegram q 4 i (m + 1) (0#8 :: vs))
  | .dofferReachWrite q i r => some (tableWriteTelegram q 4 i 2 (beBytes 6 r))
  | .carrierEnable q i m vs => some (tableWriteTelegram q 5 i (m + 1) (1#8 :: vs))
  | .carrierDisable q i m vs => some (tableWriteTelegram q 5 i (m + 1) (0#8 :: vs))
  | .lineSettingsWrite q i m vs => some (tableWriteTelegram q 6 i m vs)
  | .dispositionTableWrite q i m vs => some (tableWriteTelegram q 7 i m vs)
  | .tableRead q t i => some (telegram 0x41 partNode q (beBytes 1 t ++ beBytes 1 i))
  | .stateRead q c i => some (telegram 0x42 partNode q (beBytes 1 c ++ beBytes 2 i))
  | .mapRead q f sd first count =>
    some (telegram 0x43 partNode q (beBytes 1 f ++ beBytes 1 sd ++ beBytes 2 first ++ beBytes 1 count))
  | .listRead q l first count => some (telegram 0x44 partNode q (beBytes 1 l ++ beBytes 1 first ++ beBytes 1 count))
  | .releaseSpindle q f sd i => some (telegram 0x45 partNode q (beBytes 1 f ++ beBytes 1 sd ++ beBytes 2 i))
  | .countsRead q f r c => some (telegram 0x46 partNode q (beBytes 1 f ++ beBytes 1 r ++ beBytes 1 c))
  | .shiftClose q n => some (telegram 0x47 partNode q (beBytes 2 n))
  | .hold q f c => some (telegram 0x48 partNode q (beBytes 1 f ++ beBytes 1 c))
  | .resume q f => some (telegram 0x48 partNode q (beBytes 1 f ++ beBytes 1 1))
  | .doffNow q f => some (telegram 0x48 partNode q (beBytes 1 f ++ beBytes 1 2))
  | .groupLoaded q f g l => some (telegram 0x48 partNode q (beBytes 1 f ++ beBytes 1 3 ++ beBytes 1 g ++ beBytes 4 l))
  | .flagsRead q c => some (telegram 0x49 partNode q (beBytes 1 c))
  | .partReset q => some (telegram 0x4A partNode q [])
  | _ => none

/-- The command that a word of spec/opcode_table.json spells: the table gives no row any bits (log 37). -/
def decodeTableWord (_nbits _w : Nat) : Option Instr := none

end Sys2Proof
end

