-- ==== Sys2Proof/Config.lean ====
section
/-! DEFINITION. What the manual leaves open: constants with no body, so that no proof can see a value, and the fixed
supply levels of spec/11, Table 11-1, in millivolts. -/

namespace Sys2Proof.Config

/-- A byte of a reply for which the manual states no value (log 13, log 15); one for each time a byte is drawn. -/
opaque freeByte : Nat → BitVec 8

/-- What the line-number pins read at a line reset that the part begins of itself (R188; log 41); one for each draw. -/
opaque linePins : Nat → Fin 32

/-- What the line timer reads after a count that its 48 bits do not hold (spec/00 section 0.7; log 6). -/
opaque timerPastRange : Nat → Nat

/-- The fail level, 2.85 V. -/
def failLevel : Nat := 2850

/-- The warn level of a code 0 to 7: 3.00 V + 0.05 V × code. -/
def warnLevel (code : Nat) : Nat := 3000 + 50 * code

/-- The recovery level: the warn level plus 0.05 V (R183). -/
def recoveryLevel (code : Nat) : Nat := warnLevel code + 50

/-- The first count that the 48-bit line timer does not hold. -/
def timerRange : Nat := 2 ^ 48

end Sys2Proof.Config
end

