-- ==== Sys2Proof/Machine/State.lean ====
section
/-! DEFINITION. The state of the part, unit by unit (spec/00, Table 0-2), and the state right after a power-on reset.
Every field's docstring names the table of the spec that gives it. -/

namespace Sys2Proof.Machine

/-! ### Line link (spec/01) -/

/-- An entry of the Disposition Table: COPY or NO-COPY, PASS or BLOCK (R10). -/
structure Disposition where
  copy : Bool
  pass : Bool
deriving DecidableEq, Repr

/-- The link counters, in the order of R15. -/
inductive LinkCounter where
  | checkFloor | checkUplink | malformed | unknownNode | downBlocked | upCopyLoss | downPassLoss | partLossUp
  | partLossFloor | stale | duplicate | stoppedFrame
deriving DecidableEq, Repr

/-- The Line Link Unit: Disposition Table (R10), transmit queues with the entry being sent at the head (R13, R14),
link counters (R15), part-origin sequence counters (R12). -/
structure Link where
  disposition : Tab 256 Disposition
  upQueue : List Telegram
  floorQueue : List Telegram
  counters : Tab 12 Nat
  upSeq : Byte
  floorSeq : Byte
deriving DecidableEq, Repr

/-! ### Tables, flags and settings (spec/02) -/

/-- A Frame Table entry (Table 2-3). `nextArticle` is 0xFF for NONE. -/
structure FrameEntry where
  enabled : Nat
  lengthA : Nat
  lengthB : Nat
  aisleA : Nat
  offsetA : Nat
  aisleB : Nat
  offsetB : Nat
  pulseLength : Nat
  groupA : Nat
  groupB : Nat
  article : Nat
  nextArticle : Nat
deriving DecidableEq, Repr

/-- An Article Table entry (Table 2-4). The coefficients are signed 32-bit values, c0 first. -/
structure Article where
  defined : Nat
  density : Nat
  draft : Nat
  doffTarget : Nat
  startUp : Nat
  degree : Nat
  coeffs : Tab 6 (BitVec 32)
  minRpm : Nat
  maxRpm : Nat
  speedStep : Nat
  interval : Nat
  highThreshold : Nat
  lowThreshold : Nat
  quietIntervals : Nat
  attemptLimit : Nat
  repeatLimit : Nat
  lowMark : Nat
deriving DecidableEq, Repr

/-- A Zone Table entry (Table 2-5): the count of the patrol list, its 16 aisle bytes, piecing timeout, verify window. -/
structure ZoneEntry where
  count : Nat
  slots : List Nat
  piecingTimeout : Nat
  verifyWindow : Nat
deriving DecidableEq, Repr

/-- A Robot Table entry (Table 2-5). -/
structure RobotEntry where
  enabled : Nat
  zone : Nat
deriving DecidableEq, Repr

/-- A Doffer Table entry (Table 2-5). The reach is the last one written; bit f is set for frame f. -/
structure DofferEntry where
  enabled : Nat
  reach : BitVec 48
  timeout : Nat
deriving DecidableEq, Repr

/-- A Carrier Table entry (Table 2-5). -/
structure CarrierEntry where
  enabled : Nat
  travelTimeout : Nat
  changeTimeout : Nat
deriving DecidableEq, Repr

/-- Line Settings (Table 2-6). -/
structure Settings where
  alarmEnable : BitVec 16
  stopTimeout : Nat
  warnLevel : Nat
  warnMode : Nat
deriving DecidableEq, Repr

/-- The twelve line flags, in the order of their bits (R37). -/
inductive LineFlag where
  | checkErr | malformed | upCopyLoss | downPassLoss | partLoss | rogueListFull | replSetFull | verifySkipped | arith
  | supplyWarn | restored | lost
deriving DecidableEq, Repr

/-- Alarm kinds (Table 2-10). -/
inductive AlarmKind where
  | rogue | rogueListFull | robotUnresponsive | frameHeld | dofferFault | starved | replSetFull | carrierFault | arith
  | supplyWarn | supplyOk
deriving DecidableEq, Repr

/-- What a unit hands the TSM when it raises an alarm: kind, object class, object index and detail (R36). -/
structure Alarm where
  kind : AlarmKind
  cls : Nat
  index : Nat
  detail : Nat
deriving DecidableEq, Repr

/-- The Table Store: the tables of Table 2-2, the line flags (R37), the wait of a PART-RESET for its reply (R35, note to
R14), and the line number read from the pins at the last reset (Table 10-2). -/
structure Store where
  frames : Tab 48 FrameEntry
  articles : Tab 16 Article
  zones : Tab 8 ZoneEntry
  robots : Tab 12 RobotEntry
  doffers : Tab 8 DofferEntry
  carriers : Tab 8 CarrierEntry
  settings : Settings
  flags : BitVec 16
  /-- With a PART-RESET taken: the uplink entries still to be sent, its reply the last of them; at 0 the line reset has
  begun (R14 note, R35). -/
  resetWait : Option Nat
  lineNumber : Fin 32
  /-- The alarms raised since a line reset has begun, in the order raised, held to be offered behind its STARTUP (R189; log
  55). -/
  heldAlarms : List Alarm
deriving DecidableEq, Repr

/-! ### Delivery arithmetic (spec/03) -/

/-- A frame delivery record (Table 3-1). `former` is the model's own field: after an article switch, the article by which
the DAU works until it has taken the doff completion (R51, R131; log 42). -/
structure Delivery where
  baseline : Bool
  lastPulse : Nat
  lengthResidue : Nat
  rovingResidue : Nat
  cop : Nat
  fill : Nat
  former : Option Article
deriving DecidableEq, Repr

/-! ### Spindle map (spec/04) -/

/-- Spindle states (Table 4-1). -/
inductive SpindleState where
  | vacant | unknown | running | broken | assigned | verify | starved | rogue
deriving DecidableEq, Repr

/-- A spindle record (Table 4-2). -/
structure Spindle where
  state : SpindleState
  attempts : Nat
  repeats : Nat
deriving DecidableEq, Repr

/-- The map of one frame: the records of its populated positions, side by side, and its counts (Table 4-3). A position
at or beyond the end of its list holds no spindle and reads VACANT. -/
structure FrameMap where
  sideA : List Spindle
  sideB : List Spindle
  running : Nat
  populated : Nat
deriving DecidableEq, Repr

/-- Why a spindle became ROGUE (Table 2-8). -/
inductive RogueCause where
  | attempts | repeats
deriving DecidableEq, Repr

/-- An entry of the rogue list (R75). -/
structure RogueEntry where
  frame : FrameId
  side : Side
  index : Nat
  cause : RogueCause
  seconds : Nat
deriving DecidableEq, Repr

/-- The Spindle Map Unit. -/
structure SpindleMap where
  maps : Tab 48 FrameMap
  rogues : List RogueEntry
deriving DecidableEq, Repr

/-! ### Piecing dispatch (spec/05) -/

/-- Robot states (Table 5-1). -/
inductive RobotState where
  | offline | parked | moving | idle | piecing | leaving | unresponsive
deriving DecidableEq, Repr

/-- Sweep directions (Table 5-2). -/
inductive Sweep where
  | up | down
deriving DecidableEq, Repr

/-- The spindle that a robot pieces (Table 5-2). -/
structure Assignment where
  frame : FrameId
  side : Side
  index : Nat
  satisfied : Bool
deriving DecidableEq, Repr

/-- The work in flight when a robot last became UNRESPONSIVE (Table 5-2). -/
inductive FaultRecord where
  | none
  | assignment (frame : FrameId) (side : Side) (index : Nat)
  | move (aisle : Option AisleId)
deriving DecidableEq, Repr

/-- A robot record (Table 5-2). Its zone is the one in force in the Robot Table (R78). -/
structure Robot where
  state : RobotState
  aisle : Option AisleId
  position : Nat
  sweep : Sweep
  assignment : Option Assignment
  leaveTarget : Option AisleId
  deadline : Option Nat
  faultRecord : FaultRecord
deriving DecidableEq, Repr

/-- An entry of the verify list (Table 5-3). -/
structure VerifyEntry where
  frame : FrameId
  side : Side
  index : Nat
  deadline : Nat
deriving DecidableEq, Repr

/-- The Piecing Dispatcher. `enabling` is implied by R21: of each frame, how many frame-running notices in flight, that of its
enable the last of them, the PCD has to take before a floor report for the frame (log 56). -/
structure Dispatcher where
  robots : Tab 12 Robot
  verify : List VerifyEntry
  enabling : Tab 48 Nat
deriving DecidableEq, Repr

/-! ### Aisle occupancy (spec/06) -/

/-- The machine in an aisle, or granted it (Table 6-1). -/
inductive Holder where
  | none
  | robot (k : RobotId)
  | doffer (d : DofferId)
deriving DecidableEq, Repr

/-- An aisle record (Table 6-1). -/
structure Aisle where
  holder : Holder
  reservedBy : Option DofferId
deriving DecidableEq, Repr

/-- An entry of the pending reservation list (Table 6-2). -/
structure PendingReservation where
  doffer : DofferId
  frame : FrameId
  aisles : List AisleId
deriving DecidableEq, Repr

/-- The Aisle Occupancy Unit. `claims` is the frame for which a doffer's reservation stands, which R111 names in the
"aisles held" notice (log 17). -/
structure Occupancy where
  aisles : Tab 64 Aisle
  waiting : List PendingReservation
  claims : Tab 8 (Option FrameId)
deriving DecidableEq, Repr

/-! ### Doff cycle (spec/07) -/

/-- Frame states (Table 7-1). -/
inductive FrameState where
  | offline | running | starting | stopping | doffWait | doffing | held
deriving DecidableEq, Repr

/-- Hold causes (Table 7-2). -/
inductive HoldCause where
  | mill | stopTimeout | doffTimeout | reset
deriving DecidableEq, Repr

/-- A DCU frame record (Table 7-3). -/
structure FrameCycle where
  state : FrameState
  cause : Option HoldCause
  claim : Option DofferId
  stopTimer : Option Nat
  startUp : Nat
deriving DecidableEq, Repr

/-- Doffer states (Table 7-4). -/
inductive DofferState where
  | offline | idle | claiming | doffing | faulted
deriving DecidableEq, Repr

/-- A DCU doffer record (Table 7-5). -/
structure Doffer where
  state : DofferState
  frame : Option FrameId
  held : Bool
  reach : BitVec 48
  reachPending : Option (BitVec 48)
  timer : Option Nat
deriving DecidableEq, Repr

/-- The Doff Cycle Unit, with the doff queue, head first (Table 7-6). -/
structure DoffCycle where
  frames : Tab 48 FrameCycle
  doffers : Tab 8 Doffer
  queue : List FrameId
deriving DecidableEq, Repr

/-! ### Speed program (spec/08) -/

/-- An SPU frame record (Table 8-1). -/
structure SpeedRecord where
  level : Nat
  quiet : Nat
  progress : Nat
  count : Nat
  heldFill : Nat
  fillStep : Nat
  lastRpm : Option Nat
  sat : Bool
  clampLow : Bool
  clampHigh : Bool
  levelChanged : Bool
deriving DecidableEq, Repr

/-- The first-fault record (Table 8-2). -/
structure FirstFault where
  frame : FrameId
  article : ArticleId
  stage : Nat
deriving DecidableEq, Repr

/-- The Speed Program Unit. -/
structure SpeedProgram where
  records : Tab 48 SpeedRecord
  firstFault : Option FirstFault
deriving DecidableEq, Repr

/-! ### Roving supply (spec/09) -/

/-- Supply states (Table 9-2). -/
inductive SupplyState where
  | supplied | queued | unqueued | called | changing
deriving DecidableEq, Repr

/-- A group record (Table 9-1). -/
structure Group where
  remaining : Nat
  state : SupplyState
  sequence : Option (BitVec 16)
  carrier : Option CarrierId
deriving DecidableEq, Repr

/-- An entry of the replenishment set (Table 9-3). -/
structure SetEntry where
  frame : FrameId
  group : GroupId
  sequence : BitVec 16
deriving DecidableEq, Repr

/-- Carrier states (Table 9-4). -/
inductive CarrierState where
  | offline | idle | travel | wait | changing | returning | faulted
deriving DecidableEq, Repr

/-- A carrier record (Table 9-5). -/
structure Carrier where
  state : CarrierState
  trip : Option (FrameId × GroupId)
  load : Nat
  timer : Option Nat
deriving DecidableEq, Repr

/-- The Roving Supply Unit. Only the groups of an enabled frame have a record (R152, R167, R168). -/
structure Supply where
  groups : Tab 48 (Tab 32 (Option Group))
  set : List SetEntry
  nextSequence : BitVec 16
  carriers : Tab 8 Carrier
deriving DecidableEq, Repr

/-! ### Shift counts (spec/10) -/

/-- The twelve counting fields of a count record (Table 10-1). -/
structure Counts where
  delivered : Nat
  possible : Nat
  produced : Nat
  mass : Nat
  breaks : Nat
  rovingEnds : Nat
  piecedOk : Nat
  piecedFailed : Nat
  rogues : Nat
  doffs : Nat
  stoppedSeconds : Nat
  doffWaitSeconds : Nat
deriving DecidableEq, Repr

/-- A current count record with its mass residue (Table 10-1). -/
structure CountRecord where
  counts : Counts
  restored : Bool
  lost : Bool
  saturated : Bool
  massResidue : Nat
deriving DecidableEq, Repr

/-- A closed count record (Table 10-2). -/
structure ClosedRecord where
  counts : Counts
  restored : Bool
  lost : Bool
  saturated : Bool
  shift : Nat
  lineNumber : Fin 32
  efficiency : Nat
deriving DecidableEq, Repr

/-- The Shift Count Unit. -/
structure ShiftCounts where
  current : Tab 48 CountRecord
  closed : Tab 48 ClosedRecord
deriving DecidableEq, Repr

/-! ### Supply supervision and retention (spec/11) -/

/-- The comparator of the main supply (Table 11-2). -/
inductive Comparator where
  | normal | low
deriving DecidableEq, Repr

/-- SSU supervision state (Table 11-2): comparator state, warn reported, snapshot in flight, next frame to copy. -/
structure Supervision where
  comparator : Comparator
  warnReported : Bool
  snapshot : Bool
  nextFrame : FrameId
deriving DecidableEq, Repr

/-- Reset causes (R1). -/
inductive ResetCause where
  | power | dip | lineCmd | pin
deriving DecidableEq, Repr

/-- The image of one frame's current record in the retention store (Table 11-3). -/
structure Image where
  counts : Counts
  saturated : Bool
  massResidue : Nat
deriving DecidableEq, Repr

/-- The retention domain (Table 11-3). -/
structure Retention where
  images : Tab 48 Image
  valid : Bool
  intact : Bool
  cause : ResetCause
  count : Nat
deriving DecidableEq, Repr

/-- Whether the part runs or is held in reset (R186); a reset that RSTN holds keeps its class of DIP or not. -/
inductive Power where
  | on
  | heldBySupply
  | heldByPin (dip : Bool)
deriving DecidableEq, Repr

/-- The state of the part. -/
structure State where
  link : Link
  store : Store
  dau : Tab 48 Delivery
  smu : SpindleMap
  pcd : Dispatcher
  aou : Occupancy
  dcu : DoffCycle
  spu : SpeedProgram
  rsu : Supply
  scu : ShiftCounts
  ssu : Supervision
  retention : Retention
  power : Power
  /-- RSTN is low (Table 0-6). -/
  rstnLow : Bool
  /-- The level of the main supply, mV (Table 0-6). -/
  supply : Nat
  /-- The line timer, ms (spec/00 section 0.7). -/
  timer : Nat
  /-- Seconds ticks of this line timer taken by the DCU (R138; log 5). -/
  ticks : Nat
  /-- Hand-offs made by one unit to another and not yet taken, in the order made (R49, R188; log 1). -/
  inFlight : List Instr
  /-- Free values drawn, bytes (log 13) and pin readings (log 41): the model's own field. -/
  freeUses : Nat
  /-- The commands that wait, first in, first out: the model's own field. -/
  pending : List Instr
deriving DecidableEq, Repr

/-- Reasons to stop with a fault. There is none: no rule of the manual stops the part, so no command raises one. -/
inductive Fault where
deriving DecidableEq, Repr

/-- Reasons to refuse a command. -/
inductive Refusal where
  /-- A row of the table that has no meaning yet: raised by an arm of `exec` alone; safe, since nothing follows. -/
  | notModelled (mnemonic : String)
deriving DecidableEq, Repr

/-! ### The state right after a power-on reset -/

/-- Whether the kind codes 0x01, 0x04 and 0x11 are not copied and 0x20 to 0x30 blocked (R10). -/
def Disposition.initial (k : Fin 256) : Disposition :=
  { copy := !(k.val == 0x01 || k.val == 0x04 || k.val == 0x11), pass := !(decide (0x20 ≤ k.val) && decide (k.val ≤ 0x30)) }

def FrameEntry.initial : FrameEntry :=
  { enabled := 0, lengthA := 0, lengthB := 0, aisleA := 0, offsetA := 0, aisleB := 0, offsetB := 0, pulseLength := 65536,
    groupA := 16, groupB := 16, article := 0, nextArticle := 0xFF }

def Article.initial : Article :=
  { defined := 0, density := 1, draft := 256, doffTarget := 1000, startUp := 0, degree := 0, coeffs := .fill 6 0, minRpm := 0,
    maxRpm := 0, speedStep := 0, interval := 1000, highThreshold := 1, lowThreshold := 0, quietIntervals := 1,
    attemptLimit := 1, repeatLimit := 2, lowMark := 0 }

def ZoneEntry.initial : ZoneEntry :=
  { count := 0, slots := List.replicate 16 0xFF, piecingTimeout := 60, verifyWindow := 10 }

def Settings.initial : Settings := { alarmEnable := 0x07FF, stopTimeout := 20, warnLevel := 2, warnMode := 2 }

def Delivery.initial : Delivery :=
  { baseline := false, lastPulse := 0, lengthResidue := 0, rovingResidue := 0, cop := 0, fill := 0, former := none }

def FrameMap.empty : FrameMap := { sideA := [], sideB := [], running := 0, populated := 0 }

def Robot.initial : Robot :=
  { state := .offline, aisle := none, position := 0, sweep := .up, assignment := none, leaveTarget := none,
    deadline := none, faultRecord := .none }

def Occupancy.initial : Occupancy :=
  { aisles := .fill 64 { holder := .none, reservedBy := none }, waiting := [], claims := .fill 8 none }

def FrameCycle.initial : FrameCycle :=
  { state := .offline, cause := none, claim := none, stopTimer := none, startUp := 0 }

/-- A doffer record right after any reset; the reach in force is the Doffer Table's (R119). -/
def Doffer.initial (reach : BitVec 48) : Doffer :=
  { state := .offline, frame := none, held := false, reach, reachPending := none, timer := none }

def SpeedRecord.initial : SpeedRecord :=
  { level := 0, quiet := 0, progress := 0, count := 0, heldFill := 0, fillStep := 0, lastRpm := none, sat := false,
    clampLow := false, clampHigh := false, levelChanged := false }

def Carrier.initial : Carrier := { state := .offline, trip := none, load := 0, timer := none }

def Counts.zero : Counts :=
  { delivered := 0, possible := 0, produced := 0, mass := 0, breaks := 0, rovingEnds := 0, piecedOk := 0, piecedFailed := 0,
    rogues := 0, doffs := 0, stoppedSeconds := 0, doffWaitSeconds := 0 }

/-- A current record zeroed because the store was not valid (R171). -/
def CountRecord.lostRecord : CountRecord :=
  { counts := .zero, restored := false, lost := true, saturated := false, massResidue := 0 }

/-- The image of a frame while the retention store holds no snapshot of it (log 22). -/
def Image.empty : Image := { counts := .zero, saturated := false, massResidue := 0 }

/-- A closed record after a power-on or dip reset at which the pins read `line` (R172). -/
def ClosedRecord.initial (line : Fin 32) : ClosedRecord :=
  { counts := .zero, restored := false, lost := false, saturated := false, shift := 0, lineNumber := line, efficiency := 0 }

/-- The part with every volatile table, record, list, queue, counter and flag at its power-on reset value, the pins
reading `line`; what the retention domain holds, the levels outside and the waiting commands are given. The reset's own
telegrams and the restore come on top. -/
def State.blank (line : Fin 32) (retention : Retention) (power : Power) (rstnLow : Bool) (supply freeUses : Nat)
    (pending : List Instr) : State :=
  { link :=
      { disposition := .build Disposition.initial, upQueue := [], floorQueue := [], counters := .fill 12 0, upSeq := 0,
        floorSeq := 0 },
    store :=
      { frames := .fill 48 .initial, articles := .fill 16 .initial, zones := .fill 8 .initial,
        robots := .fill 12 { enabled := 0, zone := 0 }, doffers := .fill 8 { enabled := 0, reach := 0, timeout := 30 },
        carriers := .fill 8 { enabled := 0, travelTimeout := 10, changeTimeout := 10 }, settings := .initial, flags := 0,
        resetWait := none, lineNumber := line, heldAlarms := [] },
    dau := .fill 48 .initial,
    smu := { maps := .fill 48 .empty, rogues := [] },
    pcd := { robots := .fill 12 .initial, verify := [], enabling := .fill 48 0 },
    aou := .initial,
    dcu := { frames := .fill 48 .initial, doffers := .fill 8 (.initial 0), queue := [] },
    spu := { records := .fill 48 .initial, firstFault := none },
    rsu := { groups := .fill 48 (.fill 32 none), set := [], nextSequence := 0, carriers := .fill 8 .initial },
    scu := { current := .fill 48 .lostRecord, closed := .fill 48 (.initial line) },
    ssu := { comparator := .low, warnReported := false, snapshot := false, nextFrame := 0 },
    retention, power, rstnLow, supply, timer := 0, ticks := 0, inFlight := [], freeUses, pending }

/-- The retention domain after a power-on reset: every image empty (log 22), the intact mark set (R186), cause POWER and
count 0. -/
def Retention.initial : Retention := { images := .fill 48 .empty, valid := false, intact := true, cause := .power, count := 0 }

/-- The machine right after a power-on reset: STARTUP (line 0, POWER, LOST, count 0) is in the uplink queue (R189), the
broadcast STATE-REQUEST in the floor queue (R53), both with sequence 0 (R12), and the line flag LOST, bit 11, is set
(R187). The pins read 0, RSTN is high and the supply stands just above the fail level (log 8). -/
def State.reset : State :=
  let s := State.blank 0 .initial .on false 2851 0 []
  { s with
    link :=
      { s.link with
        upQueue := [telegram 0x62 partNode 0 [0, 0, 2, 0]], floorQueue := [telegram 0x26 floorBroadcast 0 []],
        upSeq := 1, floorSeq := 1 },
    store := { s.store with flags := 0x0800 } }

end Sys2Proof.Machine
end

