-- ==== Sys2Proof/Machine/Flags.lean ====
section
/-! DEFINITION. The line flags (R37), the link counters (R15) and the flag bytes of replies (Tables 2-7 and 10-3). -/

namespace Sys2Proof.Machine

/-- The bit of a line flag (R37). -/
def LineFlag.bit : LineFlag → Nat
  | .checkErr => 0
  | .malformed => 1
  | .upCopyLoss => 2
  | .downPassLoss => 3
  | .partLoss => 4
  | .rogueListFull => 5
  | .replSetFull => 6
  | .verifySkipped => 7
  | .arith => 8
  | .supplyWarn => 9
  | .restored => 10
  | .lost => 11

/-- The place of a link counter in the list of R15. -/
def LinkCounter.place : LinkCounter → Fin 12
  | .checkFloor => 0
  | .checkUplink => 1
  | .malformed => 2
  | .unknownNode => 3
  | .downBlocked => 4
  | .upCopyLoss => 5
  | .downPassLoss => 6
  | .partLossUp => 7
  | .partLossFloor => 8
  | .stale => 9
  | .duplicate => 10
  | .stoppedFrame => 11

/-- A flag latches (R37). -/
def State.latch (flag : LineFlag) (s : State) : State :=
  { s with store := { s.store with flags := s.store.flags ||| (1#16 <<< flag.bit) } }

/-- Whether a line flag is set. -/
def State.flagSet (flag : LineFlag) (s : State) : Bool := s.store.flags.getLsbD flag.bit

/-- A link counter counts one, pegging at 65,535 (R15). -/
def State.bump (c : LinkCounter) (s : State) : State :=
  { s with link := { s.link with counters := s.link.counters.modify c.place fun n => min (n + 1) 65535 } }

/-- The value of a link counter. -/
def State.counter (c : LinkCounter) (s : State) : Nat := s.link.counters.get c.place

/-- A discard counted as malformed, with its flag (R4). -/
def State.countMalformed (s : State) : State := (s.bump .malformed).latch .malformed

/-- A discard counted as unknown-node, with its flag (R6). -/
def State.countUnknownNode (s : State) : State := (s.bump .unknownNode).latch .malformed

/-- A check error of a port, with its flag (R3). -/
def State.countCheckError (port : Port) (s : State) : State :=
  (s.bump (match port with | .floor => .checkFloor | .uplink => .checkUplink)).latch .checkErr

/-- A report discarded as stale (R15): no flag latches. -/
def State.countStale (s : State) : State := s.bump .stale

/-- A report discarded as duplicate (R61). -/
def State.countDuplicate (s : State) : State := s.bump .duplicate

/-- A report discarded for the frame's state (R58, R125). -/
def State.countStoppedFrame (s : State) : State := s.bump .stoppedFrame

/-- The SAT, CLAMP-LOW and CLAMP-HIGH bits (Table 2-7). -/
def arithBits (sat clampLow clampHigh : Bool) : Nat :=
  (if sat then 1 else 0) + (if clampLow then 2 else 0) + (if clampHigh then 4 else 0)

/-- The SPU flag byte: SAT 0x01, CLAMP-LOW 0x02, CLAMP-HIGH 0x04, LEVEL 0x08 (Table 2-7). -/
def SpeedRecord.flagByte (r : SpeedRecord) : Nat :=
  arithBits r.sat r.clampLow r.clampHigh + (if r.levelChanged then 8 else 0)

/-- The record flags byte: RESTORED 0x01, LOST 0x02, SATURATED 0x04, TOTAL-PEGGED 0x08 (Table 10-3). -/
def recordFlagByte (restored lost saturated pegged : Bool) : Nat :=
  (if restored then 1 else 0) + (if lost then 2 else 0) + (if saturated then 4 else 0) + (if pegged then 8 else 0)

end Sys2Proof.Machine
end

