-- ==== Sys2Proof/Machine/Operands.lean ====
section
/-! DEFINITION. What the fields of a telegram or a table entry name: machines, sides, groups, aisle positions, articles;
and the codes of Table 2-8. -/

namespace Sys2Proof.Machine

/-! ### Frames, sides and groups (spec/02 Table 2-3, spec/09 section 9.1) -/

/-- ceil(a / b). -/
def ceilDiv (a b : Nat) : Nat := (a + b - 1) / b

def sides : List Side := [.A, .B]

/-- The side a checked side byte names (R1). -/
def sideAt (code : Nat) : Side := if code = 0 then .A else .B

def FrameEntry.length (e : FrameEntry) : Side → Nat
  | .A => e.lengthA
  | .B => e.lengthB

/-- The aisle that a side faces. -/
def FrameEntry.aisle (e : FrameEntry) : Side → AisleId
  | .A => Fin.ofNat 64 e.aisleA
  | .B => Fin.ofNat 64 e.aisleB

def FrameEntry.offset (e : FrameEntry) : Side → Nat
  | .A => e.offsetA
  | .B => e.offsetB

/-- The number of groups of a side (spec/09 section 9.1). -/
def FrameEntry.groupCount (e : FrameEntry) : Side → Nat
  | .A => ceilDiv e.lengthA e.groupA
  | .B => ceilDiv e.lengthB e.groupB

/-- The roving group of a spindle: floor(i / GA) on side A, 16 + floor(i / GB) on side B (R56). -/
def FrameEntry.groupOf (e : FrameEntry) (side : Side) (i : Nat) : GroupId :=
  match side with
  | .A => Fin.ofNat 32 (i / e.groupA)
  | .B => Fin.ofNat 32 (16 + i / e.groupB)

/-- Whether a group number is one of the frame's groups (R7). -/
def FrameEntry.hasGroup (e : FrameEntry) (g : Nat) : Bool :=
  decide (g < 16 ∧ g < e.groupCount .A) || decide (16 ≤ g ∧ g < 16 + e.groupCount .B)

/-- The side that a group lies on. -/
def groupSide (g : GroupId) : Side := if g.val < 16 then .A else .B

/-- The sides that a frame has. -/
def FrameEntry.presentSides (e : FrameEntry) : List Side := sides.filter fun sd => decide (0 < e.length sd)

def State.entry (s : State) (f : FrameId) : FrameEntry := s.store.frames.get f

def State.enabled (s : State) (f : FrameId) : Bool := (s.entry f).enabled == 1

/-- The frame of a checked frame number. -/
def frameAt (n : Nat) : FrameId := Fin.ofNat 48 n

/-- Whether a number names an enabled frame. -/
def State.frameEnabled (s : State) (n : Nat) : Bool := if h : n < 48 then s.enabled ⟨n, h⟩ else false

/-- The number of the article in force at a frame. -/
def State.articleId (s : State) (f : FrameId) : ArticleId := Fin.ofNat 16 (s.entry f).article

/-- The article in force at a frame. -/
def State.article (s : State) (f : FrameId) : Article := s.store.articles.get (s.articleId f)

/-- The aisle position of a spindle: the side's aisle offset plus its index (R80). -/
def State.aislePosition (s : State) (f : FrameId) (side : Side) (i : Nat) : Nat := (s.entry f).offset side + i

/-! ### Frame states (spec/07) -/

def State.cycle (s : State) (f : FrameId) : FrameCycle := s.dcu.frames.get f

def State.frameState (s : State) (f : FrameId) : FrameState := (s.cycle f).state

/-- RUNNING or STARTING. -/
def FrameState.spins : FrameState → Bool
  | .running | .starting => true
  | _ => false

/-- STOPPING, DOFF-WAIT, DOFFING or HELD (R138). -/
def FrameState.stands : FrameState → Bool
  | .stopping | .doffWait | .doffing | .held => true
  | _ => false

/-! ### Spindles (spec/04) -/

def Spindle.vacant : Spindle := { state := .vacant, attempts := 0, repeats := 0 }

def FrameMap.side (m : FrameMap) : Side → List Spindle
  | .A => m.sideA
  | .B => m.sideB

def FrameMap.setSide (m : FrameMap) (side : Side) (l : List Spindle) : FrameMap :=
  match side with
  | .A => { m with sideA := l }
  | .B => { m with sideB := l }

def State.map (s : State) (f : FrameId) : FrameMap := s.smu.maps.get f

/-- A spindle's record; a position that holds no spindle reads VACANT (spec/04). -/
def State.spindle (s : State) (f : FrameId) (side : Side) (i : Nat) : Spindle :=
  (((s.map f).side side)[i]?).getD .vacant

/-! ### Groups (spec/09) -/

def State.groupRecord (s : State) (f : FrameId) (g : GroupId) : Option Group := (s.rsu.groups.get f).get g

/-- A group's remaining roving; a group without a record has none. -/
def State.remaining (s : State) (f : FrameId) (g : GroupId) : Nat :=
  match s.groupRecord f g with
  | some r => r.remaining
  | none => 0

/-- Whether any spindle of a group is ASSIGNED (R73). -/
def State.groupAssigned (s : State) (f : FrameId) (g : GroupId) : Bool :=
  let side := groupSide g
  ((s.map f).side side).zipIdx.any fun (sp, i) => sp.state == .assigned && (s.entry f).groupOf side i == g

/-! ### Zones (spec/02 Table 2-5) -/

/-- The aisles of a patrol list, in order. -/
def ZoneEntry.patrol (z : ZoneEntry) : List AisleId := (z.slots.take z.count).map (Fin.ofNat 64)

def State.patrol (s : State) (z : ZoneId) : List AisleId := (s.store.zones.get z).patrol

/-- The zone whose patrol list holds an aisle; an aisle in no list has none. -/
def State.zoneOf (s : State) (a : AisleId) : Option ZoneId := (List.finRange 8).find? fun z => (s.patrol z).contains a

/-- The zone that a robot serves: the one in force in the Robot Table (R78). -/
def State.robotZone (s : State) (k : RobotId) : ZoneId := Fin.ofNat 8 (s.store.robots.get k).zone

def State.robot (s : State) (k : RobotId) : Robot := s.pcd.robots.get k
/-- The frame-running notices that the PCD has to take before a floor report for a frame (R21; log 56). -/
def State.enablesDue (s : State) (f : FrameId) : Nat := s.pcd.enabling.get f
def State.doffer (s : State) (d : DofferId) : Doffer := s.dcu.doffers.get d
def State.carrier (s : State) (c : CarrierId) : Carrier := s.rsu.carriers.get c
def State.aisleRecord (s : State) (a : AisleId) : Aisle := s.aou.aisles.get a
def State.speed (s : State) (f : FrameId) : SpeedRecord := s.spu.records.get f
def State.deliveryRecord (s : State) (f : FrameId) : Delivery := s.dau.get f

/-! ### Codes (Table 2-8) -/

def FrameState.code : FrameState → Nat
  | .offline => 0 | .running => 1 | .starting => 2 | .stopping => 3 | .doffWait => 4 | .doffing => 5 | .held => 6

def HoldCause.code : HoldCause → Nat
  | .mill => 0 | .stopTimeout => 1 | .doffTimeout => 2 | .reset => 3

def SpindleState.code : SpindleState → Nat
  | .vacant => 0 | .unknown => 1 | .running => 2 | .broken => 3 | .assigned => 4 | .verify => 5 | .starved => 6 | .rogue => 7

def RobotState.code : RobotState → Nat
  | .offline => 0 | .parked => 1 | .moving => 2 | .idle => 3 | .piecing => 4 | .leaving => 5 | .unresponsive => 6

def DofferState.code : DofferState → Nat
  | .offline => 0 | .idle => 1 | .claiming => 2 | .doffing => 3 | .faulted => 4

def CarrierState.code : CarrierState → Nat
  | .offline => 0 | .idle => 1 | .travel => 2 | .wait => 3 | .changing => 4 | .returning => 5 | .faulted => 6

def SupplyState.code : SupplyState → Nat
  | .supplied => 0 | .queued => 1 | .unqueued => 2 | .called => 3 | .changing => 4

def RogueCause.code : RogueCause → Nat
  | .attempts => 0 | .repeats => 1

def ResetCause.code : ResetCause → Nat
  | .power => 0 | .dip => 1 | .lineCmd => 2 | .pin => 3

end Sys2Proof.Machine
end

