-- ==== Sys2Proof/Machine/Ops.lean ====
section
/-! DEFINITION. The operations that the units share: transmit queues and originated telegrams (R9 to R14), replies (R16),
alarms (R36), the line timer, hand-offs and their order, and records. -/

namespace Sys2Proof.Machine

/-! ### Transmit queues (R13) -/

def State.setUpQueue (q : List Telegram) (s : State) : State := { s with link := { s.link with upQueue := q } }
def State.setFloorQueue (q : List Telegram) (s : State) : State := { s with link := { s.link with floorQueue := q } }

/-- A forwarded copy is admitted while fewer than 56 entries are held (R13). -/
def State.offerCopy (t : Telegram) (s : State) : State :=
  if s.link.upQueue.length < 56 then s.setUpQueue (s.link.upQueue ++ [t])
  else (s.bump .upCopyLoss).latch .upCopyLoss

/-- A REPLY, ALARM or STARTUP is admitted while fewer than 64 entries are held (R13). -/
def State.offerUp (t : Telegram) (s : State) : State :=
  if s.link.upQueue.length < 64 then s.setUpQueue (s.link.upQueue ++ [t])
  else (s.bump .partLossUp).latch .partLoss

/-- A pass-through telegram is admitted while fewer than 48 entries are held (R13). -/
def State.offerPass (t : Telegram) (s : State) : State :=
  if s.link.floorQueue.length < 48 then s.setFloorQueue (s.link.floorQueue ++ [t])
  else (s.bump .downPassLoss).latch .downPassLoss

/-- A part command is admitted while fewer than 64 entries are held (R13). -/
def State.offerFloor (t : Telegram) (s : State) : State :=
  if s.link.floorQueue.length < 64 then s.setFloorQueue (s.link.floorQueue ++ [t])
  else (s.bump .partLossFloor).latch .partLoss

/-- A part command to a floor node. The sequence counter advances whether or not the queue admits it (R12). -/
def State.sendFloor (node kind : Nat) (payload : List Byte) (s : State) : State :=
  let t : Telegram := { kind := BitVec.ofNat 8 kind, node := BitVec.ofNat 8 node, seq := s.link.floorSeq, payload }
  State.offerFloor t { s with link := { s.link with floorSeq := s.link.floorSeq + 1 } }

/-- An ALARM or STARTUP on the uplink (R12). -/
def State.sendUp (kind : Nat) (payload : List Byte) (s : State) : State :=
  let t : Telegram := { kind := BitVec.ofNat 8 kind, node := BitVec.ofNat 8 partNode, seq := s.link.upSeq, payload }
  State.offerUp t { s with link := { s.link with upSeq := s.link.upSeq + 1 } }

/-! ### Telegrams of the part (Table 1-2) -/

def sendSpeed (f : FrameId) (rpm : Nat) : State → State := State.sendFloor f.val 0x20 (beBytes 2 rpm)
def sendStopDoff (f : FrameId) : State → State := State.sendFloor f.val 0x21 []
def sendRestart (f : FrameId) : State → State := State.sendFloor f.val 0x22 []
def sendHoldFrame (f : FrameId) : State → State := State.sendFloor f.val 0x23 []
def sendRovingStop (f : FrameId) (side : Side) (i : Nat) : State → State :=
  State.sendFloor f.val 0x24 (beBytes 1 side.code ++ beBytes 2 i)
def sendRovingFree (f : FrameId) (side : Side) (i : Nat) : State → State :=
  State.sendFloor f.val 0x25 (beBytes 1 side.code ++ beBytes 2 i)
def sendStateRequest (node : Nat) : State → State := State.sendFloor node 0x26 []
def sendAssign (k : RobotId) (f : FrameId) (side : Side) (i position : Nat) : State → State :=
  State.sendFloor (robotNode k) 0x28 (beBytes 1 f.val ++ beBytes 1 side.code ++ beBytes 2 i ++ beBytes 2 position)
def sendAbandon (k : RobotId) : State → State := State.sendFloor (robotNode k) 0x29 []
def sendMove (k : RobotId) (a : AisleId) : State → State := State.sendFloor (robotNode k) 0x2A (beBytes 1 a.val)
/-- LEAVE names the target aisle, 0xFF for none. -/
def sendLeave (k : RobotId) (target : Option AisleId) : State → State :=
  State.sendFloor (robotNode k) 0x2B (beBytes 1 ((target.map Fin.val).getD 0xFF))
def sendDoffGo (d : DofferId) (f : FrameId) : State → State := State.sendFloor (dofferNode d) 0x2C (beBytes 1 f.val)
def sendDoffCancel (d : DofferId) : State → State := State.sendFloor (dofferNode d) 0x2D []
def sendCarrierGo (c : CarrierId) (f : FrameId) (g : GroupId) : State → State :=
  State.sendFloor (carrierNode c) 0x2E (beBytes 1 f.val ++ beBytes 1 g.val)
def sendChangeGo (c : CarrierId) : State → State := State.sendFloor (carrierNode c) 0x2F []
def sendCarrierAbort (c : CarrierId) : State → State := State.sendFloor (carrierNode c) 0x30 []

/-! ### Replies (R16) and alarms (R36) -/

/-- Result codes (Table 2-1). -/
inductive Result where
  | ok | badTable | badIndex | badValue | inUse | badState | busy | badLength
deriving DecidableEq, Repr

def Result.code : Result → Nat
  | .ok => 0 | .badTable => 1 | .badIndex => 2 | .badValue => 3 | .inUse => 4 | .badState => 5 | .busy => 6 | .badLength => 7

/-- The REPLY telegram to a management telegram of sequence `seq`. -/
def replyTelegram (seq : Nat) (result : Result) (fieldNo : Nat) (data : List Byte) : Telegram :=
  telegram 0x60 partNode seq (beBytes 1 result.code ++ beBytes 1 fieldNo ++ data)

/-- One REPLY: the sequence byte of the telegram answered, a result, the first offending field for BAD-VALUE, and the data
that OK returns (R12, R16). -/
def State.reply (seq : Nat) (result : Result) (fieldNo : Nat) (data : List Byte) (s : State) : State :=
  s.offerUp (replyTelegram seq result fieldNo data)

def State.replyOk (seq : Nat) (data : List Byte) (s : State) : State := s.reply seq .ok 0 data
/-- A refusal other than BAD-VALUE: no field number and no data. -/
def State.refuse (seq : Nat) (result : Result) (s : State) : State := s.reply seq result 0 []
def State.badValue (seq fieldNo : Nat) (s : State) : State := s.reply seq .badValue fieldNo []

def AlarmKind.code : AlarmKind → Nat
  | .rogue => 0 | .rogueListFull => 1 | .robotUnresponsive => 2 | .frameHeld => 3 | .dofferFault => 4 | .starved => 5
  | .replSetFull => 6 | .carrierFault => 7 | .arith => 8 | .supplyWarn => 9 | .supplyOk => 10

/-- One ALARM telegram (R36). -/
def sendAlarm (a : Alarm) : State → State :=
  State.sendUp 0x61 (beBytes 1 a.kind.code ++ beBytes 1 a.cls ++ beBytes 2 a.index ++ beBytes 2 a.detail)

/-- An alarm waits behind those held for the STARTUP of the line reset (R189). -/
def State.holdAlarm (a : Alarm) (s : State) : State :=
  { s with store := { s.store with heldAlarms := s.store.heldAlarms ++ [a] } }

/-- An alarm is sent if its kind is enabled; otherwise nothing is sent, counted or kept (R36). Once a line reset has begun it
is held for the reset's STARTUP (R189; log 55). -/
def State.alarm (kind : AlarmKind) (cls index detail : Nat) (s : State) : State :=
  if s.store.settings.alarmEnable.getLsbD kind.code then
    if s.store.resetWait = some 0 then s.holdAlarm { kind, cls, index, detail } else sendAlarm { kind, cls, index, detail } s
  else s

/-- The held alarms are offered in the order raised (R189). -/
def State.offerHeld (s : State) : State :=
  s.store.heldAlarms.foldl (fun s a => sendAlarm a s) { s with store := { s.store with heldAlarms := [] } }

/-! ### The line timer (spec/00 section 0.7) -/

/-- What the 48-bit line timer reads at a count (log 6). -/
def timerReading (t : Nat) : Nat :=
  if t < Config.timerRange then t else Config.timerPastRange t % Config.timerRange

/-- The line timer has reached `t`: it stands there or further on (log 5). -/
def State.reach (t : Nat) (s : State) : State := { s with timer := timerReading (max s.timer t) }

/-- Milliseconds left to a deadline; none left once it has passed (log 14). -/
def State.left (s : State) (deadline : Nat) : Nat := deadline - s.timer

def seconds (n : Nat) : Nat := 1000 * n
def minutes (n : Nat) : Nat := 60000 * n

/-! ### Hand-offs between units (R49, R188; log 1, log 2, log 3) -/

/-- A unit hands something to another. -/
def State.emit (h : Instr) (s : State) : State := { s with inFlight := s.inFlight ++ [h] }

def State.emitAll (hs : List Instr) (s : State) : State := { s with inFlight := s.inFlight ++ hs }

/-- A hand-off leaves the ones in flight: its oldest copy, if any. -/
def State.drop (h : Instr) (s : State) : State := { s with inFlight := s.inFlight.erase h }

/-- The unit takes, in the order made, every hand-off in flight that satisfies `p`. -/
def State.takeMatching (p : Instr → Bool) (app : Instr → State → State) (s : State) : State :=
  (s.inFlight.filter p).foldl (fun s h => app h s) { s with inFlight := s.inFlight.filter fun h => !p h }

/-- The hand-offs of the same channel made before `c`, when `c` is in flight. -/
def State.ahead (lane : Instr → Bool) (c : Instr) (s : State) : List Instr :=
  if s.inFlight.contains c then (s.inFlight.takeWhile fun h => h != c).filter lane else []

/-- The unit takes hand-off `c`, after those of its channel made before it. -/
def State.takeInOrder (lane : Instr → Bool) (app : Instr → State → State) (c : Instr) (s : State) : State :=
  let hs := s.ahead lane c ++ [c]
  hs.foldl (fun s h => app h s) (hs.foldl (fun s h => s.drop h) s)

/-- Nothing reaches a unit while the part is held in reset (R186; log 28). -/
def State.whenOn (k : State → State) (s : State) : State := if s.power = .on then k s else s

/-- A unit takes hand-off `c`. -/
def State.handoff (c : Instr) (k : State → State) (s : State) : State := s.whenOn fun s => k (s.drop c)

/-- A unit takes hand-off `c` in the order of its channel. -/
def State.handoffInOrder (lane : Instr → Bool) (app : Instr → State → State) (c : Instr) (s : State) : State :=
  s.whenOn (State.takeInOrder lane app c)

/-! ### Free values (log 13, log 41) -/

/-- The next `n` free bytes. -/
def State.freeBytes (n : Nat) (s : State) : List Byte := (List.range n).map fun j => Config.freeByte (s.freeUses + j)

/-- What the line-number pins read at a line reset that the part begins of itself. -/
def State.freePins (s : State) : Fin 32 := Config.linePins s.freeUses

/-- `n` free values have been drawn. -/
def State.drew (n : Nat) (s : State) : State := { s with freeUses := s.freeUses + n }

/-! ### Records -/

def State.setMap (f : FrameId) (m : FrameMap) (s : State) : State :=
  { s with smu := { s.smu with maps := s.smu.maps.set f m } }
def State.setRogues (l : List RogueEntry) (s : State) : State := { s with smu := { s.smu with rogues := l } }
def State.setRobot (k : RobotId) (r : Robot) (s : State) : State :=
  { s with pcd := { s.pcd with robots := s.pcd.robots.set k r } }
def State.setVerify (l : List VerifyEntry) (s : State) : State := { s with pcd := { s.pcd with verify := l } }
def State.setEnabling (f : FrameId) (n : Nat) (s : State) : State :=
  { s with pcd := { s.pcd with enabling := s.pcd.enabling.set f n } }
def State.setAisle (a : AisleId) (r : Aisle) (s : State) : State :=
  { s with aou := { s.aou with aisles := s.aou.aisles.set a r } }
def State.setCycle (f : FrameId) (r : FrameCycle) (s : State) : State :=
  { s with dcu := { s.dcu with frames := s.dcu.frames.set f r } }
def State.setDoffer (d : DofferId) (r : Doffer) (s : State) : State :=
  { s with dcu := { s.dcu with doffers := s.dcu.doffers.set d r } }
def State.setQueue (q : List FrameId) (s : State) : State := { s with dcu := { s.dcu with queue := q } }
def State.setSpeed (f : FrameId) (r : SpeedRecord) (s : State) : State :=
  { s with spu := { s.spu with records := s.spu.records.set f r } }
def State.setDelivery (f : FrameId) (r : Delivery) (s : State) : State := { s with dau := s.dau.set f r }
def State.setGroup (f : FrameId) (g : GroupId) (r : Option Group) (s : State) : State :=
  { s with rsu := { s.rsu with groups := s.rsu.groups.modify f fun t => t.set g r } }
def State.setSet (l : List SetEntry) (s : State) : State := { s with rsu := { s.rsu with set := l } }
def State.setCarrier (c : CarrierId) (r : Carrier) (s : State) : State :=
  { s with rsu := { s.rsu with carriers := s.rsu.carriers.set c r } }
def State.setCount (f : FrameId) (r : CountRecord) (s : State) : State :=
  { s with scu := { s.scu with current := s.scu.current.set f r } }
def State.setEntry (f : FrameId) (e : FrameEntry) (s : State) : State :=
  { s with store := { s.store with frames := s.store.frames.set f e } }

end Sys2Proof.Machine
end

