-- ==== Sys2Proof/Machine/Aisles.lean ====
section
/-! DEFINITION. The Aisle Occupancy Unit (spec/06): robot grants and releases (R107, R108), reservations and recalls
(R109, R110), the hold step (R111), doffer releases and the scan of the pending list (R112, R113). -/

namespace Sys2Proof.Machine

/-! ### Aisle sets -/

/-- The aisles that a frame faces, in ascending number (R109). -/
def FrameEntry.aisleSet (e : FrameEntry) : List AisleId :=
  let faced := e.presentSides.map e.aisle
  (List.finRange 64).filter fun a => faced.contains a

/-- The aisles reserved for a doffer, in ascending number. -/
def State.reservedFor (s : State) (d : DofferId) : List AisleId :=
  (List.finRange 64).filter fun a => (s.aisleRecord a).reservedBy == some d

/-- The aisles held by a doffer, in ascending number. -/
def State.heldBy (s : State) (d : DofferId) : List AisleId :=
  (List.finRange 64).filter fun a => (s.aisleRecord a).holder == .doffer d

/-- The aisle of which a robot is holder. -/
def State.aisleOf (s : State) (k : RobotId) : Option AisleId :=
  (List.finRange 64).find? fun a => (s.aisleRecord a).holder == .robot k

def State.setHolder (a : AisleId) (h : Holder) (s : State) : State := s.setAisle a { s.aisleRecord a with holder := h }

def State.setReserved (a : AisleId) (d : Option DofferId) (s : State) : State :=
  s.setAisle a { s.aisleRecord a with reservedBy := d }

def State.setWaiting (l : List PendingReservation) (s : State) : State := { s with aou := { s.aou with waiting := l } }

def State.setClaimed (d : DofferId) (f : Option FrameId) (s : State) : State :=
  { s with aou := { s.aou with claims := s.aou.claims.set d f } }

/-! ### From reservation to hold (R111) -/

/-- The hold step for a doffer: with every aisle of its reservation without holder it holds them all, and the DCU is told
(R111). -/
def State.holdStep (d : DofferId) (s : State) : State :=
  let set := s.reservedFor d
  if set ≠ [] ∧ set.all (fun a => (s.aisleRecord a).holder == .none) = true then
    let s := set.foldl (fun s a => s.setHolder a (.doffer d)) s
    match s.aou.claims.get d with
    | some f => s.emit (.aislesHeldNotice d f)
    | none => s
  else s

/-! ### Robots (R107, R108) -/

/-- A robot release of an aisle (R108). -/
def State.takeRobotRelease (k : RobotId) (a : AisleId) (s : State) : State :=
  if (s.aisleRecord a).holder = .robot k then
    let s := s.setHolder a .none
    match (s.aisleRecord a).reservedBy with
    | none => s.emit (.freeAisleNotice a)
    | some d => s.holdStep d
  else s

/-- The PCD's releases. -/
def aouFirst : Instr → Bool
  | .robotRelease .. => true
  | _ => false

def aouTakeRobot (s : State) : Instr → State
  | .robotRelease k a => s.takeRobotRelease k a
  | _ => s

/-- The AOU has taken the releases that the PCD made before it asks again (log 3). -/
def State.aouReady (s : State) : State := s.takeMatching aouFirst fun h s => aouTakeRobot s h

/-- The answer to a robot grant and the records after it (R107). -/
def State.robotGrant (k : RobotId) (a : AisleId) (s : State) : Bool × State :=
  let s := s.aouReady
  let r := s.aisleRecord a
  if r.holder = .robot k then (true, s)
  else if r.holder = .none ∧ r.reservedBy = none then
    let old := s.aisleOf k
    let s := s.setHolder a (.robot k)
    match old with
    | some b => (true, s.takeRobotRelease k b)
    | none => (true, s)
  else (false, s)

/-- ROBOT_RELEASE (R108). -/
def execRobotRelease (k : RobotId) (a : AisleId) (s : State) : Host.Outcome State Fault Refusal :=
  .next (s.handoffInOrder aouFirst (fun h s => aouTakeRobot s h) (.robotRelease k a))

/-! ### Doffers (R109 to R113) -/

/-- An aisle set is reserved for a doffer: the reservation, the recalls in ascending aisle number, the hold step (R109,
R110). -/
def State.reserveSet (d : DofferId) (f : FrameId) (set : List AisleId) (s : State) : State :=
  let s := (set.foldl (fun s a => s.setReserved a (some d)) s).setClaimed d (some f)
  let recalls := set.filterMap fun a =>
    match (s.aisleRecord a).holder with
    | .robot k => some (Instr.robotRecall k a)
    | _ => none
  (s.emitAll recalls).holdStep d

/-- Whether no aisle of a set is reserved by another doffer (R109, R113). -/
def State.setOpen (s : State) (d : DofferId) (set : List AisleId) : Bool :=
  set.all fun a =>
    match (s.aisleRecord a).reservedBy with
    | some e => e == d
    | none => true

/-- The scan of the pending reservation list: one pass from the head (R113). -/
def State.scan (s : State) : State :=
  s.aou.waiting.foldl
    (fun s p =>
      if s.setOpen p.doffer p.aisles then (s.setWaiting (s.aou.waiting.erase p)).reserveSet p.doffer p.frame p.aisles
      else s)
    s

/-- The aisles that a doffer holds or has reserved, in ascending number. -/
def State.claimedBy (s : State) (d : DofferId) : List AisleId :=
  (List.finRange 64).filter fun a => (s.heldBy d).contains a || (s.reservedFor d).contains a

/-- Stages 1 and 2 of a doffer release: clear and scan (R112). -/
def State.endClaim (d : DofferId) (s : State) : State :=
  let held := s.heldBy d
  let reserved := s.reservedFor d
  let s := s.setWaiting (s.aou.waiting.filter fun p => p.doffer != d)
  let s := held.foldl (fun s a => s.setHolder a .none) s
  let s := (reserved.foldl (fun s a => s.setReserved a none) s).setClaimed d none
  if reserved ≠ [] then s.scan else s

/-- The free-aisle notices of stage 3: the cleared aisles without holder and without reservation (R112, R113). -/
def State.freeNotices (s : State) (cleared : List AisleId) : List Instr :=
  (cleared.filter fun a => (s.aisleRecord a).holder == .none && (s.aisleRecord a).reservedBy == none).map
    Instr.freeAisleNotice

/-- A doffer release: clear, scan, notices (R112). -/
def State.takeDofferRelease (d : DofferId) (s : State) : State :=
  let cleared := s.claimedBy d
  let s := s.endClaim d
  s.emitAll (s.freeNotices cleared)

/-- Whether a doffer has a reservation, a hold or a pending entry (R109). -/
def State.hasClaim (s : State) (d : DofferId) : Bool :=
  s.reservedFor d != [] || s.heldBy d != [] || s.aou.waiting.any fun p => p.doffer == d

/-- A request joins the reservations or the pending list (R109). -/
def State.placeClaim (d : DofferId) (f : FrameId) (s : State) : State :=
  let set := (s.entry f).aisleSet
  if s.setOpen d set then s.reserveSet d f set
  else s.setWaiting (s.aou.waiting ++ [{ doffer := d, frame := f, aisles := set }])

/-- The "aisles held" notices in flight for a doffer. -/
def heldNoticeOf (d : DofferId) : Instr → Bool
  | .aislesHeldNotice e _ => e == d
  | _ => false

/-- A doffer's reservation request for a frame (R109). A doffer that still has a claim is released in the same event, whose
free-aisle notices come after the recalls and the "aisles held" notices (R115). An "aisles held" notice in flight to the
doffer is of a former claim, and finds no matching one (R111, R127; log 3). -/
def State.takeReservation (d : DofferId) (f : FrameId) (s : State) : State :=
  let s := { s with inFlight := s.inFlight.filter fun h => !heldNoticeOf d h }
  if s.hasClaim d then
    let cleared := s.claimedBy d
    let s := s.endClaim d
    let notices := s.freeNotices cleared
    (s.placeClaim d f).emitAll notices
  else s.placeClaim d f

/-- The DCU's requests to the AOU, in the order made (log 3). -/
def dcuToAou : Instr → Bool
  | .dofferReservation .. | .dofferRelease .. => true
  | _ => false

def aouTakeDoffer (s : State) : Instr → State
  | .dofferReservation d f => s.takeReservation d f
  | .dofferRelease d => s.takeDofferRelease d
  | _ => s

/-- DOFFER_RESERVATION (R109). -/
def execDofferReservation (d : DofferId) (f : FrameId) (s : State) : Host.Outcome State Fault Refusal :=
  .next (s.handoffInOrder dcuToAou (fun h s => aouTakeDoffer s h) (.dofferReservation d f))

/-- DOFFER_RELEASE (R112). -/
def execDofferRelease (d : DofferId) (s : State) : Host.Outcome State Fault Refusal :=
  .next (s.handoffInOrder dcuToAou (fun h s => aouTakeDoffer s h) (.dofferRelease d))

end Sys2Proof.Machine
end

