-- ==== Sys2Proof/Machine/Counts.lean ====
section
/-! DEFINITION. The Shift Count Unit (spec/10): the items it takes (R173 to R175), the close of a shift (R176 to R178) and
the data of its reads (R180, R181). -/

namespace Sys2Proof.Machine

/-! ### Counting with pegging (R173) -/

/-- The largest value of a field of `bits` bits. -/
def largest (bits : Nat) : Nat := 2 ^ bits - 1

/-- A field of `bits` bits raised by `d`, pegging. -/
def raise (bits n d : Nat) : Nat := min (n + d) (largest bits)

/-- Whether an item that raises a field by `d` sets SATURATED: it finds the field at its largest value, or would raise it
beyond (R173; log 26). -/
def pegs (bits n d : Nat) : Bool := decide (largest bits ≤ n) || decide (largest bits < n + d)

/-- The single events that the SCU counts (R174). -/
inductive Event where
  | break_ | rovingEnd | piecedOk | piecedFailed | rogue | doff | stoppedSecond | doffWaitSecond
deriving DecidableEq, Repr

/-- One more of an event (R173, R174). -/
def CountRecord.count (r : CountRecord) (e : Event) : CountRecord :=
  let c := r.counts
  match e with
  | .break_ =>
    { r with counts := { c with breaks := raise 24 c.breaks 1 }, saturated := r.saturated || pegs 24 c.breaks 1 }
  | .rovingEnd =>
    { r with counts := { c with rovingEnds := raise 24 c.rovingEnds 1 }, saturated := r.saturated || pegs 24 c.rovingEnds 1 }
  | .piecedOk =>
    { r with counts := { c with piecedOk := raise 24 c.piecedOk 1 }, saturated := r.saturated || pegs 24 c.piecedOk 1 }
  | .piecedFailed =>
    { r with counts := { c with piecedFailed := raise 24 c.piecedFailed 1 },
             saturated := r.saturated || pegs 24 c.piecedFailed 1 }
  | .rogue =>
    { r with counts := { c with rogues := raise 16 c.rogues 1 }, saturated := r.saturated || pegs 16 c.rogues 1 }
  | .doff =>
    { r with counts := { c with doffs := raise 16 c.doffs 1 }, saturated := r.saturated || pegs 16 c.doffs 1 }
  | .stoppedSecond =>
    { r with counts := { c with stoppedSeconds := raise 24 c.stoppedSeconds 1 },
             saturated := r.saturated || pegs 24 c.stoppedSeconds 1 }
  | .doffWaitSecond =>
    { r with counts := { c with doffWaitSeconds := raise 24 c.doffWaitSeconds 1 },
             saturated := r.saturated || pegs 24 c.doffWaitSeconds 1 }

/-- A delivery of ΔL at `r` running and `p` populated spindles of `mtex` millitex (R46, R47). -/
def CountRecord.deliver (rec : CountRecord) (dL r p mtex : Nat) : CountRecord :=
  let c := rec.counts
  let m := dL * r * mtex + rec.massResidue
  { rec with
    counts :=
      { c with
        delivered := raise 40 c.delivered dL,
        possible := raise 48 c.possible (dL * p),
        produced := raise 48 c.produced (dL * r),
        mass := raise 40 c.mass (m / 1000000) },
    saturated :=
      rec.saturated || pegs 40 c.delivered dL || pegs 48 c.possible (dL * p) || pegs 48 c.produced (dL * r)
        || pegs 40 c.mass (m / 1000000),
    massResidue := m % 1000000 }

def State.count (s : State) (f : FrameId) : CountRecord := s.scu.current.get f

/-- The SCU counts one event of a frame, whether or not the frame is enabled (R174). -/
def State.countEvent (e : Event) (f : FrameId) (s : State) : State := s.setCount f ((s.count f).count e)

/-- The SCU takes a delivery hand-off, discarded once the frame is disabled (R46, R49, R174). -/
def State.takeCountDelivery (f : FrameId) (dL r p mtex : Nat) (s : State) : State :=
  if s.enabled f then s.setCount f ((s.count f).deliver dL r p mtex) else s

/-! ### The rows -/

/-- The channel of a frame's deliveries to the SCU (R49). -/
def scuLane (f : FrameId) : Instr → Bool
  | .scuDeliveryHandoff g .. => g == f
  | _ => false

/-- The channel of the SMU's items for a frame to the SCU (R175). -/
def smuToScu (f : FrameId) : Instr → Bool
  | .scuBreak g | .scuRovingEndBreak g | .scuRogueEvent g => g == f
  | _ => false

/-- The channel of the PCD's items for a frame to the SCU (R175). -/
def pcdToScu (f : FrameId) : Instr → Bool
  | .scuSuccessfulPiecing g | .scuFailedPiecing g => g == f
  | _ => false

/-- The channel of the DCU's items to the SCU, of all frames: those of a seconds tick are made, and so taken, in ascending
frame number (R175; log 3). -/
def dcuToScu : Instr → Bool
  | .scuDoff _ | .scuStoppedSecond _ | .scuDoffWaitSecond _ => true
  | _ => false

/-- The SCU takes an item (R174). -/
def scuTake (s : State) : Instr → State
  | .scuDeliveryHandoff f dL r p mtex => s.takeCountDelivery f dL r p mtex
  | .scuBreak f => s.countEvent .break_ f
  | .scuRovingEndBreak f => s.countEvent .rovingEnd f
  | .scuRogueEvent f => s.countEvent .rogue f
  | .scuSuccessfulPiecing f => s.countEvent .piecedOk f
  | .scuFailedPiecing f => s.countEvent .piecedFailed f
  | .scuDoff f => s.countEvent .doff f
  | .scuStoppedSecond f => s.countEvent .stoppedSecond f
  | .scuDoffWaitSecond f => s.countEvent .doffWaitSecond f
  | _ => s

/-- SCU_DELIVERY_HANDOFF (R46, R47, R49). -/
def execScuDeliveryHandoff (f : FrameId) (dL r p mtex : Nat) (s : State) : Host.Outcome State Fault Refusal :=
  .next (s.handoffInOrder (scuLane f) (fun h s => scuTake s h) (.scuDeliveryHandoff f dL r p mtex))

/-- SCU_BREAK (R174, R175). -/
def execScuBreak (f : FrameId) (s : State) : Host.Outcome State Fault Refusal :=
  .next (s.handoffInOrder (smuToScu f) (fun h s => scuTake s h) (.scuBreak f))

/-- SCU_ROVING_END_BREAK (R174, R175). -/
def execScuRovingEndBreak (f : FrameId) (s : State) : Host.Outcome State Fault Refusal :=
  .next (s.handoffInOrder (smuToScu f) (fun h s => scuTake s h) (.scuRovingEndBreak f))

/-- SCU_ROGUE_EVENT (R174, R175). -/
def execScuRogueEvent (f : FrameId) (s : State) : Host.Outcome State Fault Refusal :=
  .next (s.handoffInOrder (smuToScu f) (fun h s => scuTake s h) (.scuRogueEvent f))

/-- SCU_SUCCESSFUL_PIECING (R174, R175). -/
def execScuSuccessfulPiecing (f : FrameId) (s : State) : Host.Outcome State Fault Refusal :=
  .next (s.handoffInOrder (pcdToScu f) (fun h s => scuTake s h) (.scuSuccessfulPiecing f))

/-- SCU_FAILED_PIECING (R174, R175). -/
def execScuFailedPiecing (f : FrameId) (s : State) : Host.Outcome State Fault Refusal :=
  .next (s.handoffInOrder (pcdToScu f) (fun h s => scuTake s h) (.scuFailedPiecing f))

/-- SCU_DOFF (R174, R175). -/
def execScuDoff (f : FrameId) (s : State) : Host.Outcome State Fault Refusal :=
  .next (s.handoffInOrder dcuToScu (fun h s => scuTake s h) (.scuDoff f))

/-- SCU_STOPPED_SECOND (R174, R175). -/
def execScuStoppedSecond (f : FrameId) (s : State) : Host.Outcome State Fault Refusal :=
  .next (s.handoffInOrder dcuToScu (fun h s => scuTake s h) (.scuStoppedSecond f))

/-- SCU_DOFF_WAIT_SECOND (R174, R175). -/
def execScuDoffWaitSecond (f : FrameId) (s : State) : Host.Outcome State Fault Refusal :=
  .next (s.handoffInOrder dcuToScu (fun h s => scuTake s h) (.scuDoffWaitSecond f))

/-! ### The close of a shift (R176 to R178) -/

/-- The efficiency in basis points (R178). -/
def efficiency (produced possible : Nat) : Nat := if possible = 0 then 0 else produced * 10000 / possible

/-- The closed record that a close of shift `n` makes of a current record (R177). -/
def CountRecord.close (r : CountRecord) (n : Nat) (line : Fin 32) : ClosedRecord :=
  { counts := r.counts, restored := r.restored, lost := r.lost, saturated := r.saturated, shift := n, lineNumber := line,
    efficiency := efficiency r.counts.produced r.counts.possible }

/-- The current record after a close: the mass residue is kept (R177). -/
def CountRecord.fresh (r : CountRecord) : CountRecord :=
  { counts := .zero, restored := false, lost := false, saturated := false, massResidue := r.massResidue }

/-- A close of shift `n` acts on all 48 frames within one event (R177). -/
def State.closeShift (n : Nat) (s : State) : State :=
  { s with
    scu :=
      { closed := s.scu.current.map fun r => r.close n s.store.lineNumber, current := s.scu.current.map CountRecord.fresh } }

/-! ### Reads (R180, R181) -/

/-- A value at a width of `n` bytes, pegged at its largest value. -/
def peggedBytes (n v : Nat) : List Byte := beBytes n (min v (largest (8 * n)))

/-- What a read returns of one record or of a total (Table 10-3). -/
structure CountView where
  counts : Counts
  restored : Bool
  lost : Bool
  saturated : Bool

/-- Whether a value exceeds a width in Table 10-3 (R181). -/
def exceeds (bits v : Nat) : Bool := decide (largest bits < v)

/-- Whether an amount of a view exceeds its width in Table 10-3. -/
def CountView.amountsPegged (v : CountView) : Bool :=
  exceeds 40 v.counts.delivered || exceeds 48 v.counts.possible || exceeds 48 v.counts.produced || exceeds 40 v.counts.mass

/-- Whether an event count of a view exceeds its width in Table 10-3. -/
def CountView.eventsPegged (v : CountView) : Bool :=
  exceeds 24 v.counts.breaks || exceeds 24 v.counts.rovingEnds || exceeds 24 v.counts.piecedOk || exceeds 24 v.counts.piecedFailed
    || exceeds 16 v.counts.rogues || exceeds 16 v.counts.doffs || exceeds 24 v.counts.stoppedSeconds
    || exceeds 24 v.counts.doffWaitSeconds

/-- Records 0 and 2: the amounts and an efficiency. -/
def CountView.amounts (v : CountView) (frame eff : Nat) : List Byte :=
  beBytes 1 frame ++ beBytes 1 (recordFlagByte v.restored v.lost v.saturated v.amountsPegged)
    ++ peggedBytes 5 v.counts.delivered ++ peggedBytes 6 v.counts.possible ++ peggedBytes 6 v.counts.produced
    ++ peggedBytes 5 v.counts.mass ++ beBytes 2 eff

/-- Records 1 and 3: the events. -/
def CountView.events (v : CountView) (frame : Nat) : List Byte :=
  beBytes 1 frame ++ beBytes 1 (recordFlagByte v.restored v.lost v.saturated v.eventsPegged)
    ++ peggedBytes 3 v.counts.breaks ++ peggedBytes 3 v.counts.rovingEnds ++ peggedBytes 3 v.counts.piecedOk
    ++ peggedBytes 3 v.counts.piecedFailed ++ peggedBytes 2 v.counts.rogues ++ peggedBytes 2 v.counts.doffs
    ++ peggedBytes 3 v.counts.stoppedSeconds ++ peggedBytes 3 v.counts.doffWaitSeconds

def CountRecord.view (r : CountRecord) : CountView :=
  { counts := r.counts, restored := r.restored, lost := r.lost, saturated := r.saturated }

def ClosedRecord.view (r : ClosedRecord) : CountView :=
  { counts := r.counts, restored := r.restored, lost := r.lost, saturated := r.saturated }

/-- The sum of two records, field by field, without loss (R181). -/
def Counts.plus (a b : Counts) : Counts :=
  { delivered := a.delivered + b.delivered, possible := a.possible + b.possible, produced := a.produced + b.produced,
    mass := a.mass + b.mass, breaks := a.breaks + b.breaks, rovingEnds := a.rovingEnds + b.rovingEnds,
    piecedOk := a.piecedOk + b.piecedOk, piecedFailed := a.piecedFailed + b.piecedFailed, rogues := a.rogues + b.rogues,
    doffs := a.doffs + b.doffs, stoppedSeconds := a.stoppedSeconds + b.stoppedSeconds,
    doffWaitSeconds := a.doffWaitSeconds + b.doffWaitSeconds }

/-- The line total of records: sums, and the union of the flags (R181). -/
def total (views : List CountView) : CountView :=
  { counts := views.foldl (fun acc v => acc.plus v.counts) .zero, restored := views.any CountView.restored,
    lost := views.any CountView.lost, saturated := views.any CountView.saturated }

/-- The data of a COUNTS-READ of one frame (R180). -/
def State.frameCounts (s : State) (f : FrameId) (record : Nat) : List Byte :=
  let cur := s.count f
  let old := s.scu.closed.get f
  let label := beBytes 2 old.shift ++ beBytes 1 old.lineNumber.val
  match record with
  | 0 => cur.view.amounts f.val (efficiency cur.counts.produced cur.counts.possible)
  | 1 => cur.view.events f.val
  | 2 => old.view.amounts f.val old.efficiency ++ label
  | _ => old.view.events f.val ++ label

/-- The data of a COUNTS-READ of the line total, frame 0xFF (R181). -/
def State.lineCounts (s : State) (record : Nat) : List Byte :=
  let cur := total (s.scu.current.items.map CountRecord.view)
  let old := total (s.scu.closed.items.map ClosedRecord.view)
  let label := beBytes 2 (s.scu.closed.get 0).shift ++ beBytes 1 (s.scu.closed.get 0).lineNumber.val
  match record with
  | 0 => cur.amounts 0xFF (efficiency cur.counts.produced cur.counts.possible)
  | 1 => cur.events 0xFF
  | 2 => old.amounts 0xFF (efficiency old.counts.produced old.counts.possible) ++ label
  | _ => old.events 0xFF ++ label

end Sys2Proof.Machine
end

