-- ==== Sys2Proof/Machine/LineLink.lean ====
section
/-! DEFINITION. The Line Link Unit: acceptance of floor reports and their copies (R5 to R9), the classes that go no
further (R3 to R8, R11), and the transmit queues' release of entries (R14). -/

namespace Sys2Proof.Machine

/-! ### Acceptance (R5 to R8) -/

/-- Whether the node byte names an enabled frame head (R6). -/
def State.headOk (s : State) (n : Nat) : Bool := s.frameEnabled n

/-- Whether the node byte names an enabled robot (R6). -/
def State.robotOk (s : State) (n : Nat) : Bool :=
  decide (0x40 ≤ n) && decide (n ≤ 0x4B) && (s.store.robots.get (Fin.ofNat 12 (n - 0x40))).enabled == 1

/-- Whether the node byte names an enabled doffer (R6). -/
def State.dofferOk (s : State) (n : Nat) : Bool :=
  decide (0x50 ≤ n) && decide (n ≤ 0x57) && (s.store.doffers.get (Fin.ofNat 8 (n - 0x50))).enabled == 1

/-- Whether the node byte names an enabled carrier (R6). -/
def State.carrierOk (s : State) (n : Nat) : Bool :=
  decide (0x58 ≤ n) && decide (n ≤ 0x5F) && (s.store.carriers.get (Fin.ofNat 8 (n - 0x58))).enabled == 1

/-- A side byte and a spindle index of a frame (R7). -/
def FrameEntry.spindleOk (e : FrameEntry) (sd i : Nat) : Bool := decide (sd ≤ 1) && decide (i < e.length (sideAt sd))

/-- A frame field of an outcome (R7). -/
def State.frameFieldOk (s : State) (f sd i : Nat) : Bool := s.frameEnabled f && (s.entry (frameAt f)).spindleOk sd i

/-- The part of the length check of R5 that the fields of a report leave open. -/
def reportLengthOk : Instr → Bool
  | .sideState _ _ _ _ count bits => decide (1 ≤ count) && decide (count ≤ 256) && bits.length == bitBytes count
  | _ => true

/-- The node check of a floor report (R6). -/
def State.nodeOk (s : State) : Instr → Bool
  | .delivery n .. | .breakReport n .. | .runReport n .. | .sideState n .. | .stopped n .. => s.headOk n
  | .robotReady n .. | .robotPos n .. | .pieced n .. | .notPieced n .. | .robotLeft n .. => s.robotOk n
  | .dofferReady n .. | .doffDone n .. | .dofferFault n .. => s.dofferOk n
  | .carrierReady n .. | .arrived n .. | .changeDone n .. | .carrierFault n .. => s.carrierOk n
  | _ => false

/-- The field checks of a floor report (R7). -/
def State.fieldsOk (s : State) : Instr → Bool
  | .breakReport n _ sd i | .runReport n _ sd i => (s.entry (frameAt n)).spindleOk sd i
  | .sideState n _ sd first count _ =>
    decide (sd ≤ 1) && decide (first + count ≤ (s.entry (frameAt n)).length (sideAt sd))
  | .robotReady _ _ a p | .robotPos _ _ a p => decide (a < 64) && decide (p < 2048)
  | .pieced _ _ f sd i => s.frameFieldOk f sd i
  | .notPieced _ _ f sd i cause => s.frameFieldOk f sd i && decide (cause ≤ 7)
  | .doffDone _ _ f => s.frameEnabled f
  | .carrierReady _ _ l => decide (1000 ≤ l) && decide (l ≤ 4000000)
  | .arrived _ _ f g | .changeDone _ _ f g => s.frameEnabled f && (s.entry (frameAt f)).hasGroup g
  | _ => true

/-- What the checks of R5 to R7 make of a floor report. -/
inductive Verdict where
  | accepted | malformed | unknownNode
deriving DecidableEq, Repr

/-- The checks in their order; the first that fails decides (R8). -/
def State.verdict (s : State) (i : Instr) : Verdict :=
  if !reportLengthOk i then .malformed
  else if !s.nodeOk i then .unknownNode
  else if !s.fieldsOk i then .malformed
  else .accepted

/-- Whether the up disposition of a kind code is COPY (R10). -/
def State.copies (s : State) (kind : Byte) : Bool := (s.link.disposition.get (Fin.ofNat 256 kind.toNat)).copy

/-- The forwarded copy of an accepted telegram, where its kind's disposition is COPY (R9). -/
def State.copyTelegram (t : Telegram) (s : State) : State := if s.copies t.kind then s.offerCopy t else s

/-- The forwarded copy of an accepted floor report (R9). -/
def State.copyReport (i : Instr) (s : State) : State :=
  match encodeTelegram i with
  | some t => s.copyTelegram t
  | none => s

/-- What the ports deliver reaches the LLU while the part runs; from the moment a line reset has begun until it has been
taken, a telegram is discarded and counted under no cause, copied nowhere and handed to no unit (R2, R189; log 45). -/
def State.hears (k : State → State) (s : State) : State :=
  s.whenOn fun s => if s.store.resetWait = some 0 then s else k s

/-- A floor report reaches the part: the checks, the copy, then its owner takes it (R8, R9). -/
def State.report (i : Instr) (owner : State → State) (s : State) : State :=
  s.hears fun s =>
    match s.verdict i with
    | .malformed => s.countMalformed
    | .unknownNode => s.countUnknownNode
    | .accepted => owner (s.copyReport i)

/-! ### Management telegrams reach the TSM (R9, R16, R35) -/

/-- Whether the TSM takes management telegrams: not while a PART-RESET waits (R35). -/
def State.takesManagement (s : State) : Bool := s.store.resetWait.isNone

/-- A management telegram reaches the part, and the TSM takes it unless a PART-RESET waits (R35). -/
def State.management (k : State → State) (s : State) : State :=
  s.whenOn fun s => if s.takesManagement then k s else s

/-! ### Bytes delivered by a port (log 9) -/

/-- A received telegram's node byte, sequence byte and kind, as read from its bytes. -/
def received (bytes : List Byte) : Option Telegram := Telegram.parse bytes

/-- R6 for floor maintenance and down telegrams. -/
def relayNodeOk (port : Port) (n : Nat) : Bool := isFloorNode n || (port == .uplink && n == floorBroadcast)

/-- CHECK_ERROR: bytes that fail R2 or R3 are discarded and counted under their port (R3). -/
def execCheckError (port : Port) (bytes : List Byte) (s : State) : Host.Outcome State Fault Refusal :=
  .next (s.hears fun s => if (received bytes).isNone then s.countCheckError port else s)

/-- A malformed telegram: counted and flagged (R4, R5, R7); a management telegram with a length fault is then answered
BAD-LENGTH by the TSM (R5). -/
def State.discardMalformed (port : Port) (t : Telegram) (s : State) : State :=
  let s := s.countMalformed
  if port = .uplink ∧ t.node.toNat = partNode ∧ kindDir t.kind.toNat = some .millDown ∧ s.takesManagement = true then
    s.refuse t.seq.toNat .badLength
  else s

/-- MALFORMED: bytes that pass R2 and R3 and fail R4, R5 or R7. -/
def execMalformed (port : Port) (bytes : List Byte) (s : State) : Host.Outcome State Fault Refusal :=
  .next (s.hears fun s =>
    match received bytes with
    | none => s
    | some t =>
      match decodeTelegram port bytes with
      | .malformed _ _ => s.discardMalformed port t
      | i => if port = .floor ∧ (decodeReport t).isSome = true ∧ s.verdict i = .malformed then s.countMalformed else s)

/-- UNKNOWN_NODE: bytes that pass R2 to R5 and fail the node check (R6). -/
def execUnknownNode (port : Port) (bytes : List Byte) (s : State) : Host.Outcome State Fault Refusal :=
  .next (s.hears fun s =>
    match received bytes with
    | none => s
    | some t =>
      match decodeTelegram port bytes with
      | .floorMaintenance _ => if relayNodeOk .floor t.node.toNat then s else s.countUnknownNode
      | .downTelegram _ => if relayNodeOk .uplink t.node.toNat then s else s.countUnknownNode
      | i => if port = .floor ∧ (decodeReport t).isSome = true ∧ s.verdict i = .unknownNode then s.countUnknownNode else s)

/-- FLOOR_MAINTENANCE: a telegram of unknown kind whose node passes its check is copied by its disposition and goes no
further (R9); with another node it is counted as unknown-node (R6, R8). -/
def execFloorMaintenance (bytes : List Byte) (s : State) : Host.Outcome State Fault Refusal :=
  .next (s.hears fun s =>
    match received bytes with
    | none => s
    | some t =>
      if kindDir t.kind.toNat ≠ none then s
      else if relayNodeOk .floor t.node.toNat then s.copyTelegram t
      else s.countUnknownNode)

/-- Whether an uplink telegram is of the class of down telegrams (R4). -/
def isDown (t : Telegram) : Bool :=
  t.node.toNat != partNode
    && (match kindDir t.kind.toNat with
        | some .millDown | some .millUp => false
        | _ => true)

/-- An accepted down telegram is passed down or blocked by the disposition of its kind (R11). -/
def State.relayDown (t : Telegram) (s : State) : State :=
  if (s.link.disposition.get (Fin.ofNat 256 t.kind.toNat)).pass then s.offerPass t else s.bump .downBlocked

/-- DOWN_TELEGRAM: passed down or blocked (R11); with a node that fails its check it is counted as unknown-node (R6,
R8). -/
def execDownTelegram (bytes : List Byte) (s : State) : Host.Outcome State Fault Refusal :=
  .next (s.hears fun s =>
    match received bytes with
    | none => s
    | some t =>
      if !isDown t then s
      else if relayNodeOk .uplink t.node.toNat then s.relayDown t
      else s.countUnknownNode)

/-! ### The end of a transmission (R14) -/

/-- One uplink entry fewer stands before the line reset that a PART-RESET asks for; with none left its reply has been
sent, and the reset has begun (R14 note). -/
def State.replySent (s : State) : State :=
  match s.store.resetWait with
  | some (n + 1) => { s with store := { s.store with resetWait := some n } }
  | _ => s

/-- TRANSMIT_COMPLETE: the port has sent the oldest entry of its queue, which leaves it (R14; log 30). -/
def execTransmitComplete (port : Port) (s : State) : Host.Outcome State Fault Refusal :=
  .next (s.whenOn fun s =>
    match port with
    | .floor => s.setFloorQueue s.link.floorQueue.tail
    | .uplink => if s.link.upQueue.isEmpty then s else (s.setUpQueue s.link.upQueue.tail).replySent)

end Sys2Proof.Machine
end

