-- ==== Sys2Proof/Machine/SpindleMap.lean ====
section
/-! DEFINITION. The Spindle Map Unit (spec/04): changes of state and their notices (R55 to R57), rogue spindles (R75, R76),
the reports BREAK, RUN and SIDE-STATE (R58 to R63), the requests of the other units (R64 to R74, R77), and enable, disable
and line reset (R53, R54). -/

namespace Sys2Proof.Machine

/-! ### Changes of state (R55, R57) -/

/-- One spindle's change: where, the state it leaves and the state it enters. -/
structure Change where
  side : Side
  index : Nat
  before : SpindleState
  after : SpindleState
deriving DecidableEq, Repr

/-- A spindle that enters RUNNING has its attempt count set to 0 (R57). -/
def Spindle.settle (sp : Spindle) : Spindle := if sp.state = .running then { sp with attempts := 0 } else sp

/-- One spindle's record replaced, with the running count kept by R55. -/
def FrameMap.put (m : FrameMap) (side : Side) (i : Nat) (sp : Spindle) : FrameMap :=
  match (m.side side)[i]? with
  | none => m
  | some old =>
    { m.setSide side ((m.side side).set i sp) with
      running :=
        m.running + (if sp.state = .running then 1 else 0) - (if old.state = .running then 1 else 0) }

/-- How many spindles of a side are RUNNING. -/
def runningIn (l : List Spindle) : Nat := l.countP fun sp => sp.state == .running

/-- Every spindle's record replaced by what `upd` makes of it, with the running count kept by R55. -/
def FrameMap.remap (m : FrameMap) (upd : Side → Nat → Spindle → Spindle) : FrameMap :=
  let a := m.sideA.mapIdx (upd .A)
  let b := m.sideB.mapIdx (upd .B)
  { m with
    sideA := a, sideB := b,
    running := m.running + (runningIn a + runningIn b) - (runningIn m.sideA + runningIn m.sideB) }

/-- The changes that a remap makes on a side. -/
def changesOf (side : Side) (upd : Side → Nat → Spindle → Spindle) (l : List Spindle) : List Change :=
  (l.mapIdx fun i sp => { side, index := i, before := sp.state, after := (upd side i sp).state : Change })

/-- The notices of an event's changes, after them and once for each spindle and group concerned (R57): a new BROKEN
spindle to the PCD; to the RSU a group that has lost its last ASSIGNED spindle. DESIGN CHOICE (log 38): R57 gives them no order
and R85 has them taken as they were made; the BROKEN notices stand before the last-assigned ones, side A before side B, each
side in ascending index. -/
def State.notices (f : FrameId) (changes : List Change) (s : State) : State :=
  let broken := changes.filterMap fun c =>
    if c.after = .broken ∧ c.before ≠ .broken then some (Instr.brokenNotice f c.side c.index) else none
  let groups := (changes.filterMap fun c =>
    if c.before = .assigned ∧ c.after ≠ .assigned then some ((s.entry f).groupOf c.side c.index) else none).eraseDups
  let last := (groups.filter fun g => !s.groupAssigned f g).map (Instr.lastAssignedNotice f)
  s.emitAll (broken ++ last)

/-- One spindle takes a new record, with the notices of the change (R57). -/
def State.change (f : FrameId) (side : Side) (i : Nat) (sp : Spindle) (s : State) : State :=
  let old := s.spindle f side i
  (s.setMap f ((s.map f).put side i sp.settle)).notices f [{ side, index := i, before := old.state, after := sp.state }]

/-- Many spindles of a frame change in one event (R57). -/
def State.changeMany (f : FrameId) (upd : Side → Nat → Spindle → Spindle) (s : State) : State :=
  let m := s.map f
  let upd' : Side → Nat → Spindle → Spindle := fun side i sp =>
    let sp' := upd side i sp
    if sp'.state = sp.state then sp' else sp'.settle
  (s.setMap f (m.remap upd')).notices f (changesOf .A upd' m.sideA ++ changesOf .B upd' m.sideB)

/-! ### Classification (R56) -/

/-- Whether the roving group of a spindle has run out. -/
def State.groupEmpty (s : State) (f : FrameId) (side : Side) (i : Nat) : Bool :=
  s.remaining f ((s.entry f).groupOf side i) == 0

/-- The state of a spindle that a rule makes BROKEN: STARVED where its group has run out (R56). -/
def State.brokenState (s : State) (f : FrameId) (side : Side) (i : Nat) : SpindleState :=
  if s.groupEmpty f side i then .starved else .broken

/-- A rule makes a spindle BROKEN (R56). -/
def State.makeBroken (f : FrameId) (side : Side) (i : Nat) (sp : Spindle) (s : State) : State :=
  s.change f side i { sp with state := s.brokenState f side i }

/-! ### Rogue spindles (R75, R76) -/

/-- The detail of a ROGUE alarm (Table 2-10). -/
def rogueDetail (side : Side) (i : Nat) (cause : RogueCause) : Nat :=
  side.code * 1024 + i + (match cause with | .attempts => 0 | .repeats => 0x8000)

/-- A rogue spindle is listed if there is room; else the flag latches and the alarm is raised (R75 steps 3 and 4). -/
def State.listRogue (f : FrameId) (side : Side) (i : Nat) (cause : RogueCause) (s : State) : State :=
  if s.smu.rogues.length < 128 then
    s.setRogues (s.smu.rogues ++ [{ frame := f, side, index := i, cause, seconds := s.timer / 1000 }])
  else (s.latch .rogueListFull).alarm .rogueListFull 0 f.val (rogueDetail side i cause)

/-- A rule makes a spindle ROGUE, its counts as they stand in `sp` (R75). -/
def State.makeRogue (f : FrameId) (side : Side) (i : Nat) (cause : RogueCause) (sp : Spindle) (s : State) : State :=
  let s := s.change f side i { sp with state := .rogue }
  let s := sendRovingStop f side i s
  let s := s.listRogue f side i cause
  let s := s.alarm .rogue 0 f.val (rogueDetail side i cause)
  s.emit (.scuRogueEvent f)

/-- A spindle's rogue list entry, if any, leaves (R62, R77). -/
def State.unlistRogue (f : FrameId) (side : Side) (i : Nat) (s : State) : State :=
  s.setRogues (s.smu.rogues.filter fun e => !(e.frame == f && e.side == side && e.index == i))

/-- A failed attempt: the attempt count rises, and the spindle is ROGUE at the limit of the article in force or BROKEN
below it (R60, R66, R69, R68). -/
def State.failAttempt (f : FrameId) (side : Side) (i : Nat) (s : State) : State :=
  let sp := s.spindle f side i
  let raised := { sp with attempts := sp.attempts + 1 }
  if (s.article f).attemptLimit ≤ raised.attempts then s.makeRogue f side i .attempts raised
  else s.makeBroken f side i raised

/-! ### What the SMU takes before any other event of a frame (R70, R131) -/

/-- The cancel of a frame's piecing: ASSIGNED and VERIFY spindles become BROKEN or STARVED (R70). -/
def State.cancelSpindles (f : FrameId) (s : State) : State :=
  s.changeMany f fun side i sp =>
    if sp.state = .assigned ∨ sp.state = .verify then { sp with state := s.brokenState f side i } else sp

/-- The doff completion of a frame (R74). -/
def State.doffSpindles (f : FrameId) (s : State) : State :=
  s.changeMany f fun _ _ sp =>
    match sp.state with
    | .vacant => sp
    | .rogue => { state := .rogue, attempts := 0, repeats := 0 }
    | .starved => { state := .starved, attempts := 0, repeats := 0 }
    | _ => { state := .running, attempts := 0, repeats := 0 }

/-- The DCU's cancels and doff completions of a frame. -/
def smuFirst (f : FrameId) : Instr → Bool
  | .smuPiecingCancel g | .spindleDoffCompletion g => g == f
  | _ => false

def smuTakeFirst (s : State) : Instr → State
  | .smuPiecingCancel f => s.cancelSpindles f
  | .spindleDoffCompletion f => s.doffSpindles f
  | _ => s

/-- The SMU has taken the cancels and doff completions of a frame that the DCU has made (R70, R131; log 3). -/
def State.smuReady (f : FrameId) (s : State) : State := s.takeMatching (smuFirst f) fun h s => smuTakeFirst s h

/-! ### Reports (R58 to R63) -/

/-- A BREAK that the SMU takes, by the spindle's state (R59 to R61). -/
def State.takeBreak (f : FrameId) (side : Side) (i : Nat) (s : State) : State :=
  let sp := s.spindle f side i
  match sp.state with
  | .vacant => s.countMalformed
  | .unknown => s.makeBroken f side i sp
  | .running =>
    if s.groupEmpty f side i then (s.change f side i { sp with state := .starved }).emit (.scuRovingEndBreak f)
    else if s.frameState f = .running then
      let counted := (s.emit (.scuBreak f)).emit (.monitoredBreak f)
      let raised := { sp with repeats := min (sp.repeats + 1) 15 }
      if (s.article f).repeatLimit ≤ raised.repeats then counted.makeRogue f side i .repeats raised
      else counted.change f side i { raised with state := .broken }
    else (s.emit (.scuBreak f)).change f side i { sp with state := .broken }
  | .verify => (s.emit (.verifyEntryRemove f side i)).failAttempt f side i
  | .broken | .assigned | .starved | .rogue => s.countDuplicate

/-- A RUN that the SMU takes, by the spindle's state (R61, R62). -/
def State.takeRun (f : FrameId) (side : Side) (i : Nat) (s : State) : State :=
  let sp := s.spindle f side i
  let up := { sp with state := SpindleState.running }
  match sp.state with
  | .vacant => s.countMalformed
  | .running => s.countDuplicate
  | .assigned => (s.emit (.satisfiedNotice f side i)).change f side i up
  | .verify => (s.emit (.verifyEntryRemove f side i)).change f side i up
  | .rogue => (s.change f side i up).unlistRogue f side i
  | .unknown | .broken | .starved => s.change f side i up

/-- The checks that the SMU makes of a BREAK or RUN (R58): a VACANT spindle, then the frame state. -/
def State.spindleReport (f : FrameId) (side : Side) (i : Nat) (take : State → State) (s : State) : State :=
  let s := s.smuReady f
  if (s.spindle f side i).state = .vacant then s.countMalformed
  else if !(s.frameState f).spins then s.countStoppedFrame
  else take s

/-- BREAK (R58 to R61). -/
def execBreak (node seq side index : Nat) (s : State) : Host.Outcome State Fault Refusal :=
  let f := frameAt node
  let sd := sideAt side
  .next (s.report (.breakReport node seq side index) (State.spindleReport f sd index (State.takeBreak f sd index)))

/-- RUN (R58, R61, R62). -/
def execRun (node seq side index : Nat) (s : State) : Host.Outcome State Fault Refusal :=
  let f := frameAt node
  let sd := sideAt side
  .next (s.report (.runReport node seq side index) (State.spindleReport f sd index (State.takeRun f sd index)))

/-- What a SIDE-STATE makes of a spindle in its range (R63). -/
def State.resolve (s : State) (f : FrameId) (bits : List Byte) (first : Nat) (side : Side) (i : Nat) (sp : Spindle) :
    Spindle :=
  if sp.state = .unknown then
    { sp with state := if runningBit bits (i - first) then .running else s.brokenState f side i }
  else sp

/-- A SIDE-STATE reaches the SMU (R58, R63). -/
def State.takeSideState (f : FrameId) (side : Side) (first count : Nat) (bits : List Byte) (s : State) : State :=
  let s := s.smuReady f
  if (List.range count).any fun j => (s.spindle f side (first + j)).state == .vacant then s.countMalformed
  else
    s.changeMany f fun sd i sp =>
      if sd = side ∧ first ≤ i ∧ i < first + count then s.resolve f bits first sd i sp else sp

/-- SIDE_STATE (R58, R63). -/
def execSideState (node seq side first count : Nat) (bits : List Byte) (s : State) : Host.Outcome State Fault Refusal :=
  .next (s.report (.sideState node seq side first count bits)
    (State.takeSideState (frameAt node) (sideAt side) first count bits))

/-! ### Requests of the Piecing Dispatcher (R64 to R70) -/

/-- A piecing, with or without verify (R65). -/
def State.takePiecing (f : FrameId) (side : Side) (i : Nat) (verify : Bool) (s : State) : State :=
  let sp := s.spindle f side i
  if sp.state = .assigned then s.change f side i { sp with state := if verify then .verify else .running } else s

/-- A failed piecing (R66). -/
def State.takeFailure (f : FrameId) (side : Side) (i : Nat) (s : State) : State :=
  let sp := s.spindle f side i
  if sp.state = .assigned then
    if s.groupEmpty f side i then s.change f side i { sp with state := .starved } else s.failAttempt f side i
  else s

/-- An assignment withdrawn without an attempt (R67). -/
def State.takeWithdraw (f : FrameId) (side : Side) (i : Nat) (s : State) : State :=
  let sp := s.spindle f side i
  if sp.state = .assigned then s.makeBroken f side i sp else s

/-- A verify expiry (R69). -/
def State.takeVerifyExpiry (f : FrameId) (side : Side) (i : Nat) (s : State) : State :=
  if (s.spindle f side i).state = .verify then s.failAttempt f side i else s

/-- The channel of the PCD's requests about one frame to the SMU (log 3). -/
def pcdToSmu (f : FrameId) : Instr → Bool
  | .piecingRequest g .. | .failureRequest g .. | .withdrawRequest g .. | .verifyExpiry g .. => g == f
  | _ => false

/-- The SMU takes a request of that channel, after the cancels of its frame. -/
def smuTake (s : State) : Instr → State
  | .piecingRequest f side i verify => (s.smuReady f).takePiecing f side i verify
  | .failureRequest f side i => (s.smuReady f).takeFailure f side i
  | .withdrawRequest f side i => (s.smuReady f).takeWithdraw f side i
  | .verifyExpiry f side i => (s.smuReady f).takeVerifyExpiry f side i
  | _ => s

/-- The answer to an assign request and the map after it; what the PCD asked of the frame before, and the frame's cancels,
are taken first (R64; log 3). -/
def State.assignRequest (f : FrameId) (side : Side) (i : Nat) (s : State) : Bool × State :=
  let s := (s.takeMatching (pcdToSmu f) fun h s => smuTake s h).smuReady f
  let sp := s.spindle f side i
  if sp.state = .broken ∧ (s.frameState f).spins = true then (true, s.change f side i { sp with state := .assigned })
  else (false, s)

/-- PIECING_REQUEST (R65). -/
def execPiecingRequest (f : FrameId) (side : Side) (i : Nat) (verify : Bool) (s : State) :
    Host.Outcome State Fault Refusal :=
  .next (s.handoffInOrder (pcdToSmu f) (fun h s => smuTake s h) (.piecingRequest f side i verify))

/-- FAILURE_REQUEST (R66). -/
def execFailureRequest (f : FrameId) (side : Side) (i : Nat) (s : State) : Host.Outcome State Fault Refusal :=
  .next (s.handoffInOrder (pcdToSmu f) (fun h s => smuTake s h) (.failureRequest f side i))

/-- WITHDRAW_REQUEST (R67). -/
def execWithdrawRequest (f : FrameId) (side : Side) (i : Nat) (s : State) : Host.Outcome State Fault Refusal :=
  .next (s.handoffInOrder (pcdToSmu f) (fun h s => smuTake s h) (.withdrawRequest f side i))

/-- VERIFY_EXPIRY (R69). -/
def execVerifyExpiry (f : FrameId) (side : Side) (i : Nat) (s : State) : Host.Outcome State Fault Refusal :=
  .next (s.handoffInOrder (pcdToSmu f) (fun h s => smuTake s h) (.verifyExpiry f side i))

/-- SMU_PIECING_CANCEL (R70). -/
def execSmuPiecingCancel (f : FrameId) (s : State) : Host.Outcome State Fault Refusal :=
  .next (s.handoffInOrder (smuFirst f) (fun h s => smuTakeFirst s h) (.smuPiecingCancel f))

/-! ### Requests of the Roving Supply and Doff Cycle Units (R71 to R74) -/

/-- The starve of a group, taken while its figure is 0 (R71, R169; log 18). -/
def State.starve (f : FrameId) (g : GroupId) (s : State) : State :=
  let s := s.smuReady f
  if s.remaining f g = 0 then
    s.changeMany f fun side i sp =>
      if sp.state = .broken ∧ (s.entry f).groupOf side i = g then { sp with state := .starved } else sp
  else s

/-- The unstarve of a refilled group (R72). -/
def State.unstarve (f : FrameId) (g : GroupId) (s : State) : State :=
  let s := s.smuReady f
  s.changeMany f fun side i sp =>
    if sp.state = .starved ∧ (s.entry f).groupOf side i = g then { sp with state := .broken } else sp

/-- STARVE_GROUP (R71). -/
def execStarveGroup (f : FrameId) (g : GroupId) (s : State) : Host.Outcome State Fault Refusal :=
  .next (s.handoff (.starveGroup f g) (State.starve f g))

/-- SPINDLE_DOFF_COMPLETION (R74). -/
def execSpindleDoffCompletion (f : FrameId) (s : State) : Host.Outcome State Fault Refusal :=
  .next (s.handoffInOrder (smuFirst f) (fun h s => smuTakeFirst s h) (.spindleDoffCompletion f))

/-! ### Release, enable, disable and line reset (R53, R54, R77) -/

/-- A RELEASE-SPINDLE that the TSM has checked: the result and the state after it (R77). -/
def State.release (f : FrameId) (side : Side) (i : Nat) (s : State) : Result × State :=
  let s := s.smuReady f
  let sp := s.spindle f side i
  if sp.state = .rogue then
    let s := s.makeBroken f side i { state := .rogue, attempts := 0, repeats := 0 }
    let s := sendRovingFree f side i s
    (.ok, s.unlistRogue f side i)
  else (.badState, s)

/-- The map of a frame at its enable: every populated spindle UNKNOWN (R54). -/
def FrameMap.enabled (e : FrameEntry) : FrameMap :=
  let unknown : Spindle := { state := .unknown, attempts := 0, repeats := 0 }
  { sideA := List.replicate e.lengthA unknown, sideB := List.replicate e.lengthB unknown, running := 0,
    populated := e.lengthA + e.lengthB }

/-- The SMU's part of an enable (R21, R54). -/
def State.enableMap (f : FrameId) (s : State) : State := s.setMap f (.enabled (s.entry f))

/-- The SMU's part of a disable: every spindle VACANT, with the RSU's notice for each group that loses its ASSIGNED spindles
(R22, R54, R57). -/
def State.disableMap (f : FrameId) (s : State) : State :=
  let m := s.map f
  let gone : Side → Nat → Spindle → Spindle := fun _ _ _ => .vacant
  let s := (s.setMap f .empty).notices f (changesOf .A gone m.sideA ++ changesOf .B gone m.sideB)
  s.setRogues (s.smu.rogues.filter fun e => e.frame != f)

/-- A spindle after a line reset (R53). -/
def Spindle.lineReset (sp : Spindle) : Spindle :=
  match sp.state with
  | .vacant | .rogue => sp
  | _ => { sp with state := .unknown }

/-- The SMU's part of a line reset, but for the broadcast; it makes no notice of R57 (R53; log 52). -/
def State.lineResetMaps (s : State) : State :=
  { s with
    smu :=
      { s.smu with
        maps := s.smu.maps.map fun m =>
          { m with sideA := m.sideA.map Spindle.lineReset, sideB := m.sideB.map Spindle.lineReset, running := 0 } } }

end Sys2Proof.Machine
end

