-- ==== Sys2Proof/Machine/Delivery.lean ====
section
/-! DEFINITION. The Delivery Arithmetic Unit (spec/03): the stages of a DELIVERY (R39 to R43, R48), its hand-offs (Table 3-2)
and the doff completion (R51). -/

namespace Sys2Proof.Machine

/-! ### Doff completion, enable and reset (R38, R51) -/

/-- The delivery record after a doff completion: cop and fill 0; after a switch ρR is 0, and the DAU works by the article
in force (R51). -/
def Delivery.doff (r : Delivery) (switched : Bool) : Delivery :=
  { r with
    cop := 0, fill := 0, rovingResidue := if switched then 0 else r.rovingResidue,
    former := if switched then none else r.former }

/-- The DAU takes the doff completion of a frame, and the SPU is then asked for its speed (R51, R130 step 5). -/
def State.takeDauDoff (f : FrameId) (switched : Bool) (s : State) : State :=
  if s.enabled f then
    (s.setDelivery f ((s.deliveryRecord f).doff switched)).emit (.spuDoffCompletion f switched)
  else s

/-- The doff completions of a frame asked of the DAU. -/
def dauFirst (f : FrameId) : Instr → Bool
  | .dauDoffCompletion g _ => g == f
  | _ => false

def dauTake (s : State) : Instr → State
  | .dauDoffCompletion f switched => s.takeDauDoff f switched
  | _ => s

/-- The DAU has taken the doff completions of a frame, as it has before the SPU is asked for its speed (R130, R131; log
3). -/
def State.dauReady (f : FrameId) (s : State) : State := s.takeMatching (dauFirst f) fun h s => dauTake s h

/-- DAU_DOFF_COMPLETION (R51). -/
def execDauDoffCompletion (f : FrameId) (switched : Bool) (s : State) : Host.Outcome State Fault Refusal :=
  .next (s.handoffInOrder (dauFirst f) (fun h s => dauTake s h) (.dauDoffCompletion f switched))

/-- The DAU's part of an enable, with the mass residue that stands beside the count record (R21, R38, R50; log 46). -/
def State.enableDelivery (f : FrameId) (s : State) : State :=
  (s.setDelivery f .initial).setCount f { s.scu.current.get f with massResidue := 0 }

/-- The DAU's part of a line reset (R38). -/
def State.lineResetDeliveries (s : State) : State := { s with dau := s.dau.map fun r => { r with baseline := false } }

/-! ### The stages (R40 to R43, R48) -/

/-- The pulse difference of stage 1: forward by one wrap at most (R40). -/
def pulseDifference (now last : Nat) : Nat := (now % 65536 + (65536 - last % 65536)) % 65536

/-- T of stage 2 (R41). -/
def pulseLengthSum (dP lp residue : Nat) : Nat := dP * lp + residue

/-- The fill of a cop (R42). -/
def fillOf (cop target : Nat) : Nat := min (cop * 65536 / target) 65535

/-- Whether the DCU is offered "target reached" (R43). -/
def offersTarget (st : FrameState) (cop target : Nat) : Bool := st.spins && decide (target ≤ cop)

/-- The fill offered to the SPU (R43). -/
def offeredFill (st : FrameState) (cop target fill step : Nat) : Option Nat :=
  if st.spins = true ∧ cop < target ∧ fill / 1024 ≠ step then some fill else none

/-- The article by which the DAU works: the one in force, but the former one after a switch until it has taken the doff
completion (R51; log 42). -/
def State.dauArticle (s : State) (f : FrameId) : Article := (s.deliveryRecord f).former.getD (s.article f)

/-- The frame state by which the DAU offers: DOFFING until it has taken the doff completion (R43, R51; log 42). -/
def State.dauFrameState (s : State) (f : FrameId) : FrameState :=
  if s.inFlight.any (dauFirst f) then .doffing else s.frameState f

/-- Stage 1 to 5 of a DELIVERY of counter value `pulse` (R39 to R43, R48). -/
def State.deliver (f : FrameId) (pulse : Nat) (s : State) : State :=
  let r := s.deliveryRecord f
  let p := pulse % 65536
  if !r.baseline then s.setDelivery f { r with baseline := true, lastPulse := p }
  else
    let art := s.dauArticle f
    let t := pulseLengthSum (pulseDifference p r.lastPulse) (s.entry f).pulseLength r.lengthResidue
    let dL := t / 65536
    let r := { r with lastPulse := p, lengthResidue := t % 65536 }
    if dL = 0 then s.setDelivery f r
    else
      let cop := min (r.cop + dL) 4294967295
      let fill := fillOf cop art.doffTarget
      let q := dL * 256 + r.rovingResidue
      let dR := q / art.draft
      let s := s.setDelivery f { r with cop, fill, rovingResidue := q % art.draft }
      let st := s.dauFrameState f
      let s := s.emitAll
        [.dcuDeliveryHandoff f dL (offersTarget st cop art.doffTarget),
         .spuDeliveryHandoff f dL (offeredFill st cop art.doffTarget fill (s.speed f).fillStep),
         .scuDeliveryHandoff f dL (s.map f).running (s.map f).populated art.density]
      if 0 < dR then s.emit (.rsuRovingHandoff f dR) else s

/-- A DELIVERY reaches the DAU, which reads the counts of the SMU as they stand; a doff completion in flight to the DAU or to
the SMU may be taken before or after it (R39, R51, R55, R131; log 3). -/
def State.takeDelivery (f : FrameId) (pulse : Nat) (s : State) : State := s.deliver f pulse

/-- DELIVERY (R39 to R43, R48). -/
def execDelivery (node seq pulse : Nat) (s : State) : Host.Outcome State Fault Refusal :=
  .next (s.report (.delivery node seq pulse) (State.takeDelivery (frameAt node) pulse))

end Sys2Proof.Machine
end

