-- ==== Sys2Proof/Machine/Piecing.lean ====
section
/-! DEFINITION. The Piecing Dispatcher (spec/05): candidates and choices (R80 to R86), readiness and arrival (R87 to R90),
outcomes (R91 to R95), the verify list (R96 to R98), cancels (R99, R100), recalls and leaves (R101 to R103), robot disable
(R105) and reset (R78). -/

namespace Sys2Proof.Machine

def State.modRobot (k : RobotId) (upd : Robot → Robot) (s : State) : State := s.setRobot k (upd (s.robot k))

/-- The deadline that a robot entering MOVING, PIECING or LEAVING is given (R79). -/
def State.robotDeadline (s : State) (k : RobotId) : Nat :=
  s.timer + seconds (s.store.zones.get (s.robotZone k)).piecingTimeout

/-! ### Satisfied assignments and removals (R94, R97) -/

def VerifyEntry.names (e : VerifyEntry) (f : FrameId) (side : Side) (i : Nat) : Bool :=
  e.frame == f && e.side == side && e.index == i

/-- The entry of a spindle leaves, if present (R97). -/
def State.removeVerify (f : FrameId) (side : Side) (i : Nat) (s : State) : State :=
  s.setVerify (s.pcd.verify.filter fun e => !e.names f side i)

/-- The satisfied notice of a spindle (R94). -/
def State.takeSatisfied (f : FrameId) (side : Side) (i : Nat) (s : State) : State :=
  let named := fun k =>
    match (s.robot k).assignment with
    | some x => x.frame == f && x.side == side && x.index == i
    | none => false
  match (List.finRange 12).find? named with
  | some k => s.modRobot k fun r => { r with assignment := r.assignment.map fun x => { x with satisfied := true } }
  | none => s.removeVerify f side i

/-- The notices of the SMU about one spindle's former assignment or verification. -/
def aboutSpindle (f : FrameId) (side : Side) (i : Nat) : Instr → Bool
  | .satisfiedNotice g sd j | .verifyEntryRemove g sd j => g == f && sd == side && j == i
  | _ => false

def pcdTakeAbout (s : State) : Instr → State
  | .satisfiedNotice f side i => s.takeSatisfied f side i
  | .verifyEntryRemove f side i => s.removeVerify f side i
  | _ => s

/-! ### Candidates (R80) -/

structure Candidate where
  frame : FrameId
  side : Side
  index : Nat
deriving DecidableEq, Repr

/-- Condition 5: the group has roving, is not CHANGING, and has no carrier in WAIT. -/
def State.groupWorkable (s : State) (f : FrameId) (g : GroupId) : Bool :=
  match s.groupRecord f g with
  | none => false
  | some r =>
    decide (0 < r.remaining) && r.state != .changing
      && !((List.finRange 8).any fun c => (s.carrier c).state == .wait && (s.carrier c).trip == some (f, g))

/-- The candidates on one side of a frame, in index order. -/
def State.sideCandidates (s : State) (f : FrameId) (side : Side) : List Candidate :=
  ((s.map f).side side).zipIdx.filterMap fun (sp, i) =>
    if sp.state = .broken ∧ s.groupWorkable f ((s.entry f).groupOf side i) = true then some { frame := f, side, index := i }
    else none

/-- The candidates in an aisle for a robot of zone `z`, in frame order (R80). -/
def State.candidates (s : State) (z : ZoneId) (a : AisleId) : List Candidate :=
  if (s.patrol z).contains a && (s.aisleRecord a).reservedBy == none then
    (List.finRange 48).flatMap fun f =>
      if (s.frameState f).spins then
        ((s.entry f).presentSides.filter fun side => (s.entry f).aisle side == a).flatMap (s.sideCandidates f)
      else []
  else []

def State.candidatePosition (s : State) (c : Candidate) : Nat := s.aislePosition c.frame c.side c.index

/-! ### The in-aisle choice (R81, R82) -/

/-- The first candidate of a list whose position no other is strictly better than. -/
def best (better : Nat → Nat → Bool) (pos : Candidate → Nat) : List Candidate → Option Candidate
  | [] => none
  | c :: cs =>
    match best better pos cs with
    | none => some c
    | some d => if better (pos d) (pos c) then some d else some c

/-- The smallest aisle position at or above `p`, lower frame first. -/
def lookUp (pos : Candidate → Nat) (p : Nat) (cs : List Candidate) : Option Candidate :=
  best (fun x y => decide (x < y)) pos (cs.filter fun c => decide (p ≤ pos c))

/-- The largest aisle position at or below `p`, lower frame first. -/
def lookDown (pos : Candidate → Nat) (p : Nat) (cs : List Candidate) : Option Candidate :=
  best (fun x y => decide (y < x)) pos (cs.filter fun c => decide (pos c ≤ p))

/-- The direction and the candidate of the in-aisle choice (R81). -/
def inAisleChoice (pos : Candidate → Nat) (p : Nat) (dir : Sweep) (cs : List Candidate) : Option (Sweep × Candidate) :=
  match dir with
  | .up =>
    match lookUp pos p cs with
    | some c => some (.up, c)
    | none => (lookDown pos p cs).map fun c => (.down, c)
  | .down =>
    match lookDown pos p cs with
    | some c => some (.down, c)
    | none => (lookUp pos p cs).map fun c => (.up, c)

/-- A robot is sent to the spindle that the SMU has granted it (R82). What the SMU told of that spindle before the grant is
taken before it (log 3). -/
def State.assign (k : RobotId) (c : Candidate) (s : State) : State :=
  let s := s.takeMatching (aboutSpindle c.frame c.side c.index) fun h s => pcdTakeAbout s h
  let s := s.modRobot k fun r =>
    { r with assignment := some { frame := c.frame, side := c.side, index := c.index, satisfied := false } }
  let s := sendAssign k c.frame c.side c.index (s.candidatePosition c) s
  s.modRobot k fun r => { r with state := .piecing, deadline := some (s.robotDeadline k) }

/-! ### The aisle choice (R83, R84) -/

/-- A patrol list in cyclic order from the aisle after `a`, without `a`; from the head where `a` is not in it. -/
def cycleAfter (l : List AisleId) : Option AisleId → List AisleId
  | none => l
  | some a => if l.contains a then (l.dropWhile (· != a)).tail ++ l.takeWhile (· != a) else l

/-- Whether an aisle meets the three conditions of the aisle choice. -/
def State.qualifies (s : State) (k : RobotId) (a : AisleId) : Bool :=
  (s.aisleRecord a).holder == .none && (s.aisleRecord a).reservedBy == none && !(s.candidates (s.robotZone k) a).isEmpty

/-- The first qualifying aisle of a run that the AOU grants to the robot. -/
def State.grantAlong (k : RobotId) : List AisleId → State → Option AisleId × State
  | [], s => (none, s)
  | a :: rest, s =>
    let s := s.aouReady
    if s.qualifies k a then
      match s.robotGrant k a with
      | (true, s) => (some a, s)
      | (false, s) => State.grantAlong k rest s
    else State.grantAlong k rest s

/-- A robot holds a newly granted aisle and is MOVING to it (R84). -/
def State.startMove (k : RobotId) (a : AisleId) (s : State) : State :=
  s.modRobot k fun r => { r with state := .moving, aisle := some a, deadline := some (s.robotDeadline k) }

/-- The aisle choice for an IDLE or PARKED robot (R83, R84). -/
def State.aisleChoice (k : RobotId) (s : State) : State :=
  let r := s.robot k
  let run := cycleAfter (s.patrol (s.robotZone k)) (if r.state = .idle then r.aisle else none)
  match s.grantAlong k run with
  | (some a, s) => (sendMove k a s).startMove k a
  | (none, s) => s

/-- The in-aisle choice with its requests to the SMU; a refused spindle is left out, and with none left the aisle choice is
made (R81, R82). `fuel` is the number of candidates. -/
def State.inAisle (k : RobotId) (a : AisleId) : Nat → List Candidate → State → State
  | 0, _, s => s.aisleChoice k
  | fuel + 1, refused, s =>
    let cs := (s.candidates (s.robotZone k) a).filter fun c => !refused.contains c
    let r := s.robot k
    match inAisleChoice s.candidatePosition r.position r.sweep cs with
    | none => s.aisleChoice k
    | some (dir, c) =>
      let s := s.modRobot k fun r => { r with sweep := dir }
      match s.assignRequest c.frame c.side c.index with
      | (true, s) => s.assign k c
      | (false, s) => State.inAisle k a fuel (c :: refused) s

/-! ### Re-evaluation (R85, R86) -/

/-- One robot's turn in a re-evaluation. -/
def State.turn (k : RobotId) (s : State) : State :=
  let r := s.robot k
  match r.state, r.aisle with
  | .idle, some a => s.inAisle k a (s.candidates (s.robotZone k) a).length []
  | .idle, none => s.aisleChoice k
  | .parked, _ => s.aisleChoice k
  | _, _ => s

/-- The re-evaluation of a zone: its robots in ascending number (R86). -/
def State.reevaluate (z : ZoneId) (s : State) : State :=
  (List.finRange 12).foldl (fun s k => if s.robotZone k = z then s.turn k else s) s

/-- The re-evaluation of several zones, in ascending number (R85). -/
def State.reevaluateZones (zs : List ZoneId) (s : State) : State :=
  (List.finRange 8).foldl (fun s z => if zs.contains z then s.reevaluate z else s) s

/-- The re-evaluation of the zones of some aisles; an aisle in no zone causes none (R85). -/
def State.reevaluateAisles (as : List AisleId) (s : State) : State := s.reevaluateZones (as.filterMap s.zoneOf)

/-! ### Ends of assignments and of holds -/

/-- The PCD gives up a robot's aisle, if it holds one (R108). -/
def State.giveUpAisle (k : RobotId) (s : State) : State :=
  match (s.robot k).aisle with
  | some a => (s.modRobot k fun r => { r with aisle := none }).emit (.robotRelease k a)
  | none => s

/-- An unsatisfied assignment is withdrawn without an attempt (R67). -/
def State.withdraw (k : RobotId) (s : State) : State :=
  match (s.robot k).assignment with
  | some x => if x.satisfied then s else s.emit (.withdrawRequest x.frame x.side x.index)
  | none => s

/-! ### Recall and leave (R101, R102) -/

/-- LEAVE is sent to a recalled robot toward the first aisle that qualifies (R101). -/
def State.leave (k : RobotId) (a : AisleId) (s : State) : State :=
  let s := s.aouReady
  let target := (cycleAfter (s.patrol (s.robotZone k)) (some a)).find? fun b => s.qualifies k b
  let s := sendLeave k target s
  s.modRobot k fun r => { r with state := .leaving, leaveTarget := target, deadline := some (s.robotDeadline k) }

/-- The AOU recalls a robot from an aisle (R101). A robot that has given up the aisle, its release not yet taken by the AOU,
is in none of the states of R101, and the recall has no effect (log 49). -/
def State.recall (k : RobotId) (a : AisleId) (s : State) : State :=
  match (s.robot k).state with
  | .piecing =>
    let s := sendAbandon k (s.withdraw k)
    (s.modRobot k fun r => { r with assignment := none, deadline := none }).leave k a
  | .idle | .moving => s.leave k a
  | .leaving | .offline | .parked | .unresponsive => s

/-- The AOU's recalls. -/
def pcdFirst : Instr → Bool
  | .robotRecall .. => true
  | _ => false

def pcdTakeRecall (s : State) : Instr → State
  | .robotRecall k a => s.recall k a
  | _ => s

/-- The PCD has taken the AOU's recalls (R110; log 3). -/
def State.takeRecalls (s : State) : State := s.takeMatching pcdFirst fun h s => pcdTakeRecall s h

/-! ### Cancel (R99, R100) -/

/-- The robots whose assignment names a spindle of a frame. -/
def State.robotsOn (s : State) (f : FrameId) : List RobotId :=
  (List.finRange 12).filter fun k =>
    (s.robot k).state == .piecing && (match (s.robot k).assignment with | some x => x.frame == f | none => false)

/-- ABANDON to each robot at work on a frame, which goes IDLE, and the frame's verify entries leave (R99). DESIGN CHOICE (log
38): R99 gives the ABANDONs no order; they go out in ascending robot number. -/
def State.abandonFrame (f : FrameId) (s : State) : State :=
  let s := (s.robotsOn f).foldl
    (fun s k => (sendAbandon k s).modRobot k fun r => { r with state := .idle, assignment := none, deadline := none }) s
  s.setVerify (s.pcd.verify.filter fun e => e.frame != f)

/-- The PCD's cancels of some frames, with one re-evaluation of the zones concerned (R99). -/
def State.cancelFrames (fs : List FrameId) (s : State) : State :=
  let zones := (fs.flatMap s.robotsOn).map s.robotZone
  (fs.foldl (fun s f => s.abandonFrame f) s).reevaluateZones zones

/-- The PCD's cancel of a frame, with the re-evaluation of the zones concerned (R99). -/
def State.cancelPiecing (f : FrameId) (s : State) : State := s.cancelFrames [f]

/-- A cancel of a frame that `also` picks, or of one that spins again: a choice could name its spindles (R82, R118). -/
def State.cancelDue (s : State) (also : FrameId → Bool) : Instr → Bool
  | .pcdPiecingCancel f => also f || (s.frameState f).spins
  | _ => false

/-- The frame of a cancel. -/
def cancelledFrame : Instr → Option FrameId
  | .pcdPiecingCancel f => some f
  | _ => none

/-- The PCD takes the cancels of the frames `fs` with those in flight that are due, all before it re-evaluates (R118; log
3). -/
def State.takeCancels (fs : List FrameId) (also : FrameId → Bool) (s : State) : State :=
  let due := s.cancelDue also
  let taken := fs ++ (s.inFlight.filter due).filterMap cancelledFrame
  { s with inFlight := s.inFlight.filter fun h => !due h }.cancelFrames taken

/-- The PCD has taken the recalls, and the cancels of the frames that spin again, as it has before any choice (R110, R118;
log 3). -/
def State.pcdReady (s : State) : State := s.takeRecalls.takeCancels [] fun _ => false

/-- The PCD has taken the recalls and a frame's cancels, as it has before any event for that frame (R110, R118; log 3). -/
def State.pcdReadyFor (f : FrameId) (s : State) : State := s.takeRecalls.takeCancels [] fun g => g == f

/-- A cancel of a frame reaches the PCD (R99, R118). -/
def State.takeCancel (f : FrameId) (s : State) : State := s.takeRecalls.takeCancels [f] fun _ => false

/-- The PCD has taken the recalls, and the cancels of the frame that a robot works on, as it has before any event for that
robot. -/
def State.pcdReadyRobot (k : RobotId) (s : State) : State :=
  match (s.pcdReady.robot k).assignment with
  | some x => s.pcdReadyFor x.frame
  | none => s.pcdReady

/-- ROBOT_RECALL (R101). -/
def execRobotRecall (k : RobotId) (a : AisleId) (s : State) : Host.Outcome State Fault Refusal :=
  .next (s.handoffInOrder pcdFirst (fun h s => pcdTakeRecall s h) (.robotRecall k a))

/-! ### Notices (R85, R94, R97) -/

/-- The notices of the SMU to the PCD. -/
def smuToPcd : Instr → Bool
  | .brokenNotice .. | .satisfiedNotice .. | .verifyEntryRemove .. => true
  | _ => false

/-- The notices of the DCU to the PCD about a frame. -/
def dcuToPcd (f : FrameId) : Instr → Bool
  | .pcdPiecingCancel g | .frameRunningNotice g => g == f
  | _ => false

/-- The free-aisle notices of the AOU. -/
def aouToPcd : Instr → Bool
  | .freeAisleNotice .. => true
  | _ => false

/-- What the PCD takes before a notice or request: the recalls, and the cancels of its frame or of the frames that spin again
(R110, R118; log 3). -/
def State.readyForNotice : Instr → State → State
  | .brokenNotice f .. | .satisfiedNotice f .. | .verifyEntryRemove f .. | .groupReevaluation f _ => State.pcdReadyFor f
  | .frameRunningNotice _ | .freeAisleNotice _ => State.pcdReady
  | _ => id

/-- A frame-running notice is one fewer of those up to the frame's enable (R21; log 56). -/
def State.noteRunning (f : FrameId) (s : State) : State := s.setEnabling f (s.enablesDue f - 1)

/-- What the PCD does with a notice or request. -/
def pcdTake (s : State) : Instr → State
  | .brokenNotice f side _ => s.reevaluateAisles [(s.entry f).aisle side]
  | .satisfiedNotice f side i => s.takeSatisfied f side i
  | .verifyEntryRemove f side i => s.removeVerify f side i
  | .pcdPiecingCancel f => s.takeCancel f
  | .frameRunningNotice f => (s.noteRunning f).reevaluateAisles ((s.entry f).presentSides.map (s.entry f).aisle)
  | .groupReevaluation f g => s.reevaluateAisles [(s.entry f).aisle (groupSide g)]
  | .freeAisleNotice a => s.reevaluateAisles [a]
  | _ => s

/-- One notice. It stays in flight while the PCD takes what comes before it: one about a spindle that a choice on the way
assigns is taken there, before the grant, and a cancel of a frame that spins again before the choice; neither is taken again
(R82, R94, R118; log 3). -/
def State.takeNotice (flying : Bool) (c : Instr) (s : State) : State :=
  let due := fun t : State => !flying || t.inFlight.contains c
  let ready := s.readyForNotice c
  if due s = false then s else if due ready = false then ready else pcdTake (ready.drop c) c

/-- A notice that reaches the PCD, after those of its channel made before it, one by one (R85). -/
def State.takeNotices (lane : Instr → Bool) (c : Instr) (s : State) : State :=
  s.whenOn fun s => (s.ahead lane c ++ [c]).foldl (fun t h => t.takeNotice (s.inFlight.contains c) h) s

/-! ### The enable of a frame (R21) -/

/-- The PCD's part of an enable is what its frame-running notice asks: that notice, and those of the frame made before it, are
to be taken before any floor report for the frame (R21, R118; log 56). -/
def State.enableDispatch (f : FrameId) (s : State) : State :=
  s.setEnabling f (s.inFlight.count (.frameRunningNotice f))

/-- The PCD has applied its part of a frame's enable, as it has before any floor report for the frame (R21; log 56). -/
def State.enableApplied (f : FrameId) (s : State) : State :=
  (List.replicate (s.enablesDue f) (Instr.frameRunningNotice f)).foldl (fun s c => s.takeNotices (dcuToPcd f) c) s

/-- The PCD has taken what stands before a floor report for a frame: the frame's enable, the recalls and the frame's cancels
(R21, R110, R118). -/
def State.pcdReadyForReport (f : FrameId) (s : State) : State := (s.enableApplied f).pcdReadyFor f

/-! ### The rows of the notices -/

/-- PCD_PIECING_CANCEL (R99). -/
def execPcdPiecingCancel (f : FrameId) (s : State) : Host.Outcome State Fault Refusal :=
  .next (s.takeNotices (dcuToPcd f) (.pcdPiecingCancel f))

/-- VERIFY_ENTRY_REMOVE (R97). -/
def execVerifyEntryRemove (f : FrameId) (side : Side) (i : Nat) (s : State) : Host.Outcome State Fault Refusal :=
  .next (s.takeNotices smuToPcd (.verifyEntryRemove f side i))

/-- SATISFIED_NOTICE (R94). -/
def execSatisfiedNotice (f : FrameId) (side : Side) (i : Nat) (s : State) : Host.Outcome State Fault Refusal :=
  .next (s.takeNotices smuToPcd (.satisfiedNotice f side i))

/-- BROKEN_NOTICE (R85). -/
def execBrokenNotice (f : FrameId) (side : Side) (i : Nat) (s : State) : Host.Outcome State Fault Refusal :=
  .next (s.takeNotices smuToPcd (.brokenNotice f side i))

/-- FRAME_RUNNING_NOTICE (R85). -/
def execFrameRunningNotice (f : FrameId) (s : State) : Host.Outcome State Fault Refusal :=
  .next (s.takeNotices (dcuToPcd f) (.frameRunningNotice f))

/-- GROUP_REEVALUATION (R85). -/
def execGroupReevaluation (f : FrameId) (g : GroupId) (s : State) : Host.Outcome State Fault Refusal :=
  .next (s.takeNotices (fun _ => false) (.groupReevaluation f g))

/-- FREE_AISLE_NOTICE (R85, R113). -/
def execFreeAisleNotice (a : AisleId) (s : State) : Host.Outcome State Fault Refusal :=
  .next (s.takeNotices aouToPcd (.freeAisleNotice a))

/-! ### Robot reports (R87 to R93, R102) -/

/-- The robot of a checked robot node. -/
def robotAt (node : Nat) : RobotId := Fin.ofNat 12 (node - 0x40)

/-- A robot that is ready and stands in aisle `a` at position `p` (R87). -/
def State.robotIsReady (k : RobotId) (a : AisleId) (p : Nat) (s : State) : State :=
  let s := s.modRobot k fun r => { r with position := p, sweep := .up }
  let patrol := s.patrol (s.robotZone k)
  match (if patrol.contains a then s.robotGrant k a else (false, s)) with
  | (true, s) =>
    (s.modRobot k fun r => { r with state := .idle, aisle := some a }).reevaluate (s.robotZone k)
  | (false, s) =>
    match s.grantAlong k (cycleAfter patrol (some a)) with
    | (some b, s) => (sendLeave k (some b) s).startMove k b
    | (none, s) => ((sendLeave k none s).modRobot k fun r => { r with state := .parked }).reevaluate (s.robotZone k)

/-- A ROBOT-READY by the robot's state (R87, R88). -/
def State.takeRobotReady (k : RobotId) (a : AisleId) (p : Nat) (s : State) : State :=
  let s := s.pcdReadyRobot k
  match (s.robot k).state with
  | .offline | .unresponsive => s.robotIsReady k a p
  | .parked | .moving | .idle | .piecing | .leaving =>
    let s := (s.withdraw k).modRobot k fun r => { r with assignment := none, leaveTarget := none, deadline := none }
    (s.giveUpAisle k).robotIsReady k a p

/-- ROBOT_READY (R87, R88). -/
def execRobotReady (node seq aisle position : Nat) (s : State) : Host.Outcome State Fault Refusal :=
  .next (s.report (.robotReady node seq aisle position)
    (State.takeRobotReady (robotAt node) (Fin.ofNat 64 aisle) position))

/-- A ROBOT-POS by the robot's state (R89). -/
def State.takeRobotPos (k : RobotId) (a : AisleId) (p : Nat) (s : State) : State :=
  let s := s.pcdReadyRobot k
  let r := s.robot k
  if r.aisle = some a then
    match r.state with
    | .moving =>
      (s.modRobot k fun r => { r with state := .idle, position := p, deadline := none }).reevaluate (s.robotZone k)
    | .idle | .piecing => s.modRobot k fun r => { r with position := p }
    | .offline | .parked | .leaving | .unresponsive => s.countStale
  else s.countStale

/-- ROBOT_POS (R89). -/
def execRobotPos (node seq aisle position : Nat) (s : State) : Host.Outcome State Fault Refusal :=
  .next (s.report (.robotPos node seq aisle position)
    (State.takeRobotPos (robotAt node) (Fin.ofNat 64 aisle) position))

/-! ### The verify list (R96) -/

/-- An entry placed in deadline order, after those of an equal deadline. -/
def insertVerify (e : VerifyEntry) (l : List VerifyEntry) : List VerifyEntry :=
  l.takeWhile (fun x => decide (x.deadline ≤ e.deadline)) ++ e :: l.dropWhile (fun x => decide (x.deadline ≤ e.deadline))

/-- A verify entry is placed while the list holds fewer than 32, and replaces one of the same spindle; whether it was placed
(R96; log 24). -/
def State.placeVerify (f : FrameId) (side : Side) (i : Nat) (deadline : Nat) (s : State) : Bool × State :=
  if s.pcd.verify.length < 32 then
    let others := s.pcd.verify.filter fun e => !e.names f side i
    (true, s.setVerify (insertVerify { frame := f, side, index := i, deadline } others))
  else (false, s.latch .verifySkipped)

/-! ### Outcomes (R91 to R93) -/

/-- The assignment that an outcome of a robot ends, if it is taken as one (R91). -/
def State.outcomeOf (s : State) (k : RobotId) (f : FrameId) (side : Side) (i : Nat) : Option Assignment :=
  match (s.robot k).state, (s.robot k).assignment with
  | .piecing, some x => if x.frame = f ∧ x.side = side ∧ x.index = i then some x else none
  | _, _ => none

/-- An outcome drops the deadline, ends the assignment and leaves the robot IDLE at the spindle (R91). -/
def State.endAssignment (k : RobotId) (f : FrameId) (side : Side) (i : Nat) (s : State) : State :=
  s.modRobot k fun r =>
    { r with state := .idle, assignment := none, deadline := none, position := s.aislePosition f side i }

/-- A PIECED, taken after the PCD's part of an enable of its frame (R21, R91, R92). -/
def State.takePieced (k : RobotId) (f : FrameId) (side : Side) (i : Nat) (s : State) : State :=
  let s := s.pcdReadyForReport f
  match s.outcomeOf k f side i with
  | none => s.countStale
  | some x =>
    let s := s.endAssignment k f side i
    let s :=
      if x.satisfied then s
      else
        match s.placeVerify f side i (s.timer + seconds (s.store.zones.get (s.robotZone k)).verifyWindow) with
        | (placed, s) => s.emit (.piecingRequest f side i placed)
    (s.emit (.scuSuccessfulPiecing f)).reevaluate (s.robotZone k)

/-- PIECED (R91, R92). -/
def execPieced (node seq frame side index : Nat) (s : State) : Host.Outcome State Fault Refusal :=
  .next (s.report (.pieced node seq frame side index)
    (State.takePieced (robotAt node) (frameAt frame) (sideAt side) index))

/-- The failure of a robot's attempt at a spindle: the SMU takes it before the robot is sent on, so that a spindle made
BROKEN is a candidate at once; the SCU is handed one failed piecing (R66, R93; log 50). -/
def State.failPiecing (f : FrameId) (side : Side) (i : Nat) (s : State) : State :=
  ((s.emit (.failureRequest f side i)).emit (.scuFailedPiecing f)).takeMatching (pcdToSmu f) fun h s => smuTake s h

/-- A NOT-PIECED, taken after the PCD's part of an enable of its frame (R21, R91, R93). -/
def State.takeNotPieced (k : RobotId) (f : FrameId) (side : Side) (i : Nat) (s : State) : State :=
  let s := s.pcdReadyForReport f
  match s.outcomeOf k f side i with
  | none => s.countStale
  | some x =>
    let s := s.endAssignment k f side i
    let s := if x.satisfied then s.countStale else s.failPiecing f side i
    s.reevaluate (s.robotZone k)

/-- NOT_PIECED (R91, R93). The cause does not change the outcome's effects. -/
def execNotPieced (node seq frame side index cause : Nat) (s : State) : Host.Outcome State Fault Refusal :=
  .next (s.report (.notPieced node seq frame side index cause)
    (State.takeNotPieced (robotAt node) (frameAt frame) (sideAt side) index))

/-- A ROBOT-LEFT (R102). -/
def State.takeRobotLeft (k : RobotId) (s : State) : State :=
  let s := s.pcdReady
  if (s.robot k).state = .leaving then
    let target := (s.robot k).leaveTarget
    let s := (s.modRobot k fun r => { r with deadline := none, leaveTarget := none }).giveUpAisle k
    match (match target with | some b => s.robotGrant k b | none => (false, s)), target with
    | (true, s), some b => s.startMove k b
    | (_, s), _ =>
      match s.grantAlong k (s.patrol (s.robotZone k)) with
      | (some b, s) => (sendMove k b s).startMove k b
      | (none, s) => ((sendLeave k none s).modRobot k fun r => { r with state := .parked }).reevaluate (s.robotZone k)
  else s.countStale

/-- ROBOT_LEFT (R102). -/
def execRobotLeft (node seq : Nat) (s : State) : Host.Outcome State Fault Refusal :=
  .next (s.report (.robotLeft node seq) (State.takeRobotLeft (robotAt node)))

/-! ### Expiries (R90, R95, R98, R103) -/

/-- A deadline of a robot in state `st` passes; with none running in that state there is nothing to pass (log 5). The recalls and
the cancel in flight to the PCD are taken first. The deadline that has run out no longer stands in the record then, so that one
found there, or another state, shows that they have ended what it belonged to; a deadline given afresh does not pass (R79, R99,
R101; log 3). -/
def State.deadlinePasses (k : RobotId) (st : RobotState) (app : State → State) (s : State) : State :=
  s.whenOn fun s =>
    match (s.robot k).deadline with
    | none => s
    | some t =>
      if (s.robot k).state = st then
        let ready := (s.modRobot k fun r => { r with deadline := none }).pcdReadyRobot k
        if (ready.robot k).state = st ∧ (ready.robot k).deadline = none then app (ready.reach t) else ready
      else s

/-- A robot becomes UNRESPONSIVE: fault record, release, alarm (R90, R95, R103). -/
def State.unresponsive (k : RobotId) (record : FaultRecord) (detail : Nat) (s : State) : State :=
  let s := s.modRobot k fun r =>
    { r with state := .unresponsive, assignment := none, leaveTarget := none, deadline := none, faultRecord := record }
  (s.giveUpAisle k).alarm .robotUnresponsive 1 k.val detail

/-- PIECING_DEADLINE_EXPIRY (R95). -/
def execPiecingDeadlineExpiry (k : RobotId) (s : State) : Host.Outcome State Fault Refusal :=
  .next (s.deadlinePasses k .piecing fun s =>
    let record :=
      match (s.robot k).assignment with
      | some x => FaultRecord.assignment x.frame x.side x.index
      | none => (s.robot k).faultRecord
    (s.withdraw k).unresponsive k record 0)

/-- MOVE_DEADLINE_EXPIRY (R90). -/
def execMoveDeadlineExpiry (k : RobotId) (s : State) : Host.Outcome State Fault Refusal :=
  .next (s.deadlinePasses k .moving fun s => s.unresponsive k (.move (s.robot k).aisle) 1)

/-- LEAVING_DEADLINE_EXPIRY (R103). -/
def execLeavingDeadlineExpiry (k : RobotId) (s : State) : Host.Outcome State Fault Refusal :=
  .next (s.deadlinePasses k .leaving fun s => s.unresponsive k (.move (s.robot k).aisle) 2)

/-- The deadline of the earliest entry passes, if that is still `e`: it leaves the list, and the SMU is asked for the expiry
(R98). -/
def State.verifyPasses (e : VerifyEntry) (s : State) : State :=
  if s.pcd.verify.head? = some e then
    ((s.reach e.deadline).setVerify s.pcd.verify.tail).emit (.verifyExpiry e.frame e.side e.index)
  else s

/-- VERIFY_DEADLINE_EXPIRY: the deadline of the earliest entry passes (R98). A cancel of its frame in flight to the PCD is
taken first, and with the entry it removes goes its deadline (R99, R118; log 3). -/
def execVerifyDeadlineExpiry (s : State) : Host.Outcome State Fault Refusal :=
  .next (s.whenOn fun s =>
    match s.pcd.verify with
    | [] => s
    | e :: _ => (s.pcdReadyFor e.frame).verifyPasses e)

/-! ### Disable and reset (R78, R105) -/

/-- A robot is disabled (R26, R105). -/
def State.disableRobot (k : RobotId) (s : State) : State :=
  let s := s.pcdReadyRobot k
  let r := s.robot k
  if r.state = .offline then s
  else
    let s := s.withdraw k
    let s := if r.assignment.isSome then sendAbandon k s else s
    let s := if r.aisle.isSome then sendLeave k none s else s
    (s.giveUpAisle k).modRobot k fun r =>
      { r with state := .offline, assignment := none, leaveTarget := none, deadline := none }

/-- A robot record after a line reset: the fault record is kept (R78). -/
def Robot.lineReset (r : Robot) : Robot := { Robot.initial with faultRecord := r.faultRecord }

/-- The PCD's part of a line reset (R78). -/
def State.lineResetRobots (s : State) : State :=
  { s with pcd := { robots := s.pcd.robots.map Robot.lineReset, verify := [], enabling := .fill 48 0 } }

end Sys2Proof.Machine
end

