-- ==== Sys2Proof/Machine/Speed.lean ====
section
/-! DEFINITION. The Speed Program Unit (spec/08): Horner evaluation, rounding, derating and clamp (R142 to R145), sending
(R146), the monitor (R147 to R149), doff completion and resume (R150, R151), enable and reset (R140). -/

namespace Sys2Proof.Machine

/-! ### Arithmetic (R142 to R145) -/

def accMax : Int := 2147483647
def accMin : Int := -2147483648

/-- An accumulator held in its range (R142). -/
def saturate (sum : Int) : Int := if accMax < sum then accMax else if sum < accMin then accMin else sum

/-- The sum of one Horner stage: floor(acc × x / 65,536) + c (R142 steps 2 to 4). -/
def stageSum (acc x c : Int) : Int := acc * x / 65536 + c

/-- What an evaluation has come to: the accumulator and the first stage that saturated. -/
structure Horner where
  acc : Int
  first : Option Nat
deriving DecidableEq, Repr

/-- Stage `k` (R142 steps 2 to 6). -/
def Horner.stage (h : Horner) (x c : Int) (k : Nat) : Horner :=
  let sum := stageSum h.acc x c
  { acc := saturate sum, first := if saturate sum = sum then h.first else some (h.first.getD k) }

/-- Stages `n` − 1 down to 0. -/
def Horner.stages (coeff : Nat → Int) (x : Int) : Nat → Horner → Horner
  | 0, h => h
  | k + 1, h => Horner.stages coeff x k (h.stage x (coeff k) k)

/-- Coefficient `k` of an article, in 1/256 rpm. -/
def Article.coeff (a : Article) (k : Nat) : Int := (a.coeffs.get (Fin.ofNat 6 k)).toInt

/-- The polynomial of an article at a fill (R142). -/
def Article.polynomial (a : Article) (fill : Nat) : Horner :=
  Horner.stages a.coeff fill a.degree { acc := a.coeff a.degree, first := none }

/-- Whole rpm, halves upward (R143). -/
def roundRpm (acc : Int) : Int := (acc + 128) / 256

/-- Derated by level and speed step (R144). -/
def derate (rpm : Int) (level step : Nat) : Int := rpm * (100 - (level : Int) * (step : Int)) / 100

/-- The clamp to the rpm limits: the result (R145). -/
def clampRpm (rpm : Int) (lo hi : Nat) : Nat := if rpm < lo then lo else if (hi : Int) < rpm then hi else rpm.toNat

/-- What one computation gives: the speed and the flags it latches. -/
structure Computation where
  rpm : Nat
  saturated : Option Nat
  clampLow : Bool
  clampHigh : Bool
deriving DecidableEq, Repr

/-- One speed computation of an article at a level and a fill (R142 to R145). -/
def Article.compute (a : Article) (level fill : Nat) : Computation :=
  let h := a.polynomial fill
  let rpm := derate (roundRpm h.acc) level a.speedStep
  { rpm := clampRpm rpm a.minRpm a.maxRpm, saturated := h.first, clampLow := decide (rpm < a.minRpm),
    clampHigh := !decide (rpm < a.minRpm) && decide ((a.maxRpm : Int) < rpm) }

/-! ### Flags and sending (R145, R146) -/

/-- The first-fault record takes the first saturated stage while it is empty (R142 step 6). -/
def State.recordFirstFault (f : FrameId) (c : Computation) (s : State) : State :=
  match c.saturated, s.spu.firstFault with
  | some k, none => { s with spu := { s.spu with firstFault := some { frame := f, article := s.articleId f, stage := k } } }
  | _, _ => s

/-- Whether SAT, CLAMP-LOW or CLAMP-HIGH of a record is set. -/
def SpeedRecord.faulted (r : SpeedRecord) : Bool := r.sat || r.clampLow || r.clampHigh

/-- The flag bits that a computation latches, given those set before. -/
def Computation.newBits (c : Computation) (r : SpeedRecord) : Nat :=
  arithBits (c.saturated.isSome && !r.sat) (c.clampLow && !r.clampLow) (c.clampHigh && !r.clampHigh)

/-- The first fault of a frame between clears latches ARITH and raises its alarm (R145). -/
def State.raiseArith (f : FrameId) (before : SpeedRecord) (c : Computation) (s : State) : State :=
  if c.newBits before ≠ 0 ∧ before.faulted = false then (s.latch .arith).alarm .arith 0 f.val (c.newBits before) else s

/-- A frame's record after a computation at a fill. -/
def SpeedRecord.computed (r : SpeedRecord) (c : Computation) (fill : Nat) : SpeedRecord :=
  { r with heldFill := fill, fillStep := fill / 1024, sat := r.sat || c.saturated.isSome,
           clampLow := r.clampLow || c.clampLow, clampHigh := r.clampHigh || c.clampHigh }

/-- SPEED is sent when it must be, or when the result differs from the last sent rpm (R146). -/
def State.offerSpeed (f : FrameId) (always : Bool) (rpm : Nat) (s : State) : State :=
  let r := s.speed f
  if always = true ∨ r.lastRpm ≠ some rpm then (sendSpeed f rpm s).setSpeed f { r with lastRpm := some rpm } else s

/-- One speed computation for a frame at a fill (R141 to R146). -/
def State.computeSpeed (f : FrameId) (fill : Nat) (always : Bool) (s : State) : State :=
  let before := s.speed f
  let c := (s.article f).compute before.level fill
  let s := (s.setSpeed f (before.computed c fill)).recordFirstFault f c
  (s.raiseArith f before c).offerSpeed f always c.rpm

/-! ### Doff completion and resume (R150, R151) -/

/-- A record whose program begins anew: level, quiet count and monitor 0, LEVEL clear (R140, R150). -/
def SpeedRecord.restart (r : SpeedRecord) : SpeedRecord :=
  { r with level := 0, quiet := 0, progress := 0, count := 0, levelChanged := false }

/-- The doff-completion request, then the RESTART that follows it (R150, R130 steps 5 and 6; log 34). -/
def State.takeSpuDoff (f : FrameId) (switched : Bool) (s : State) : State :=
  if s.enabled f then
    let s := if switched then s.setSpeed f (s.speed f).restart else s
    sendRestart f (s.computeSpeed f 0 true)
  else s

/-- The resume request, then the RESTART that follows it for a frame that runs again (R151, R137). -/
def State.takeResumeSpeed (f : FrameId) (restart : Bool) (s : State) : State :=
  if s.enabled f then
    let s := s.computeSpeed f (s.deliveryRecord f).fill true
    if restart then sendRestart f s else s
  else s

/-- The requests of a frame to the SPU. -/
def spuFirst (f : FrameId) : Instr → Bool
  | .spuDoffCompletion g _ | .spuResumeRequest g _ => g == f
  | _ => false

def spuTakeFirst (s : State) : Instr → State
  | .spuDoffCompletion f switched => s.takeSpuDoff f switched
  | .spuResumeRequest f restart => s.takeResumeSpeed f restart
  | _ => s

/-- The SPU has taken the requests of a frame, as it has before any later event for the frame (R131; log 3). -/
def State.spuReady (f : FrameId) (s : State) : State :=
  (s.dauReady f).takeMatching (spuFirst f) fun h s => spuTakeFirst s h

/-- SPU_DOFF_COMPLETION, once the DAU has taken the doff completion: a completion still in flight there is taken first, and
the request that it makes is the one taken here (R150; log 53). -/
def execSpuDoffCompletion (f : FrameId) (switched : Bool) (s : State) : Host.Outcome State Fault Refusal :=
  .next (s.whenOn fun s =>
    (s.dauReady f).takeInOrder (spuFirst f) (fun h s => spuTakeFirst s h) (.spuDoffCompletion f switched))

/-- SPU_RESUME_REQUEST (R151). -/
def execSpuResumeRequest (f : FrameId) (restart : Bool) (s : State) : Host.Outcome State Fault Refusal :=
  .next (s.handoffInOrder (spuFirst f) (fun h s => spuTakeFirst s h) (.spuResumeRequest f restart))

/-! ### The monitor (R45, R147 to R149) -/

/-- An interval evaluation (R148, R149). -/
def SpeedRecord.evaluate (r : SpeedRecord) (a : Article) : SpeedRecord :=
  let quietRun := r.count ≤ a.lowThreshold ∧ a.quietIntervals ≤ r.quiet + 1
  let level :=
    if a.highThreshold ≤ r.count then min (r.level + 1) 3 else if quietRun then r.level - 1 else r.level
  let quiet :=
    if a.highThreshold ≤ r.count then 0 else if r.count ≤ a.lowThreshold then (if quietRun then 0 else r.quiet + 1) else 0
  { r with level, quiet, count := 0, levelChanged := r.levelChanged || level != r.level }

/-- A RUNNING frame's record after ΔL: the progress, with at most one evaluation (R45). -/
def SpeedRecord.advance (r : SpeedRecord) (a : Article) (dL : Nat) : SpeedRecord :=
  let progress := r.progress + dL
  if a.interval ≤ progress then { r.evaluate a with progress := min (progress - a.interval) (a.interval - 1) }
  else { r with progress }

/-- A delivery hand-off at the SPU (R45, R49). -/
def State.takeSpeedDelivery (f : FrameId) (dL : Nat) (fill : Option Nat) (s : State) : State :=
  if s.enabled f then
    let s := s.spuReady f
    let before := s.speed f
    let r := if s.frameState f = .running then before.advance (s.article f) dL else before
    let s := s.setSpeed f r
    match fill with
    | some x => s.computeSpeed f x false
    | none => if r.level ≠ before.level then s.computeSpeed f r.heldFill false else s
  else s

def spuLane (f : FrameId) : Instr → Bool
  | .spuDeliveryHandoff g .. => g == f
  | _ => false

def spuTake (s : State) : Instr → State
  | .spuDeliveryHandoff f dL fill => s.takeSpeedDelivery f dL fill
  | _ => s

/-- SPU_DELIVERY_HANDOFF (R45). -/
def execSpuDeliveryHandoff (f : FrameId) (dL : Nat) (fill : Option Nat) (s : State) : Host.Outcome State Fault Refusal :=
  .next (s.handoffInOrder (spuLane f) (fun h s => spuTake s h) (.spuDeliveryHandoff f dL fill))

/-- A monitored break at the SPU (R147, R140). -/
def State.takeMonitoredBreak (f : FrameId) (s : State) : State :=
  if s.enabled f then
    let s := s.spuReady f
    s.setSpeed f { s.speed f with count := min ((s.speed f).count + 1) 255 }
  else s

/-- MONITORED_BREAK (R147). -/
def execMonitoredBreak (f : FrameId) (s : State) : Host.Outcome State Fault Refusal :=
  .next (s.handoff (.monitoredBreak f) (State.takeMonitoredBreak f))

/-! ### Enable and reset (R140) -/

/-- The SPU's part of an enable: the record begins anew and the speed at fill 0 is sent (R21, R140, R141). -/
def State.enableSpeed (f : FrameId) (s : State) : State :=
  (s.setSpeed f { (s.speed f).restart with heldFill := 0, fillStep := 0, lastRpm := none }).computeSpeed f 0 true

/-- The SPU's part of a line reset (R140). -/
def State.lineResetSpeeds (s : State) : State :=
  { s with spu := { s.spu with records := s.spu.records.map fun r => { r with lastRpm := none } } }

/-- FLAGS-READ with clear: the three flags of every frame are cleared and the first-fault record emptied (R37). -/
def State.clearSpeedFlags (s : State) : State :=
  { s with
    spu :=
      { records := s.spu.records.map fun r => { r with sat := false, clampLow := false, clampHigh := false },
        firstFault := none } }

end Sys2Proof.Machine
end

