-- ==== Sys2Proof/Machine/DoffCycle.lean ====
section
/-! DEFINITION. The Doff Cycle Unit (spec/07): frame states and their notices (R117, R118), the doff queue and the pick
(R121 to R123), the trigger (R124), stops (R125, R126), claims and doffs (R127 to R130), start-up (R132), faults (R133,
R134), HELD (R135 to R137), stopped time (R138), and reset (R116, R119). -/

namespace Sys2Proof.Machine

def State.modCycle (f : FrameId) (upd : FrameCycle → FrameCycle) (s : State) : State := s.setCycle f (upd (s.cycle f))
def State.modDoffer (d : DofferId) (upd : Doffer → Doffer) (s : State) : State := s.setDoffer d (upd (s.doffer d))

/-! ### Changes of frame state (R118) -/

/-- The cancel notice to the SMU and to the PCD (R118). -/
def State.noticeCancel (f : FrameId) (s : State) : State := (s.emit (.smuPiecingCancel f)).emit (.pcdPiecingCancel f)

/-- A frame enters a state, with the notices of the change (R118). -/
def State.enterFrameState (f : FrameId) (st : FrameState) (s : State) : State :=
  let old := s.frameState f
  let s := s.modCycle f fun r => { r with state := st }
  if old.spins = true ∧ st.spins = false then s.noticeCancel f
  else if st.spins = true ∧ old ≠ st then s.emit (.frameRunningNotice f)
  else s

/-- The SPU has taken what the DCU asked of it for a frame, so that a later telegram to the frame head stands behind SPEED
and RESTART (R130, R137; log 34). -/
def State.dcuReady (f : FrameId) (s : State) : State := s.spuReady f

/-! ### The pick (R121, R122) -/

/-- A doffer becomes IDLE; a pending reach comes into force (R121). -/
def State.makeIdle (d : DofferId) (s : State) : State :=
  s.modDoffer d fun r =>
    { r with state := .idle, frame := none, held := false, timer := none, reach := r.reachPending.getD r.reach,
             reachPending := none }

def Doffer.reaches (r : Doffer) (f : FrameId) : Bool := r.reach.getLsbD f.val

/-- An IDLE doffer picks the first frame of the queue in its reach (R121). -/
def State.pick (d : DofferId) (s : State) : State :=
  let r := s.doffer d
  match s.dcu.queue.find? r.reaches with
  | none => s
  | some f =>
    let s := s.setQueue (s.dcu.queue.erase f)
    let s := s.modDoffer d fun r => { r with state := .claiming, frame := some f, held := false }
    let s := s.modCycle f fun r => { r with claim := some d }
    s.emit (.dofferReservation d f)

/-- A frame that has joined the queue is offered to the IDLE doffers in ascending number (R122). -/
def State.offerFrame (f : FrameId) (s : State) : State :=
  match (List.finRange 8).find? fun d => (s.doffer d).state == .idle && (s.doffer d).reaches f with
  | some d => s.pick d
  | none => s

def State.leaveQueue (f : FrameId) (s : State) : State := s.setQueue (s.dcu.queue.filter fun g => g != f)

/-- A claim of a CLAIMING doffer is cancelled: DOFF-CANCEL, IDLE, release; the doffer then picks (R117, R126, R135). -/
def State.cancelClaim (f : FrameId) (s : State) : State :=
  match (s.cycle f).claim with
  | none => s
  | some d =>
    if (s.doffer d).state = .claiming then
      let s := (sendDoffCancel d s).modCycle f fun r => { r with claim := none }
      ((s.makeIdle d).emit (.dofferRelease d)).pick d
    else s.modCycle f fun r => { r with claim := none }

/-! ### The doff trigger (R124) and the delivery hand-off (R44, R132) -/

/-- The doff trigger (R124). -/
def State.trigger (f : FrameId) (s : State) : State :=
  let s := s.enterFrameState f .stopping
  let s := sendStopDoff f s
  let s := s.modCycle f fun r => { r with stopTimer := some (s.timer + seconds s.store.settings.stopTimeout) }
  (s.setQueue (s.dcu.queue ++ [f])).offerFrame f

/-- ΔL for the start-up remainder (R44, R132). -/
def State.startUp (f : FrameId) (dL : Nat) (s : State) : State :=
  if s.frameState f = .starting then
    let left := (s.cycle f).startUp - dL
    let s := s.modCycle f fun r => { r with startUp := left }
    if left = 0 then s.enterFrameState f .running else s
  else s

/-- A delivery hand-off at the DCU: the indication, then ΔL (R44). -/
def State.takeDcuDelivery (f : FrameId) (dL : Nat) (target : Bool) (s : State) : State :=
  if s.enabled f then
    let s := s.dcuReady f
    let s := if target = true ∧ (s.frameState f).spins = true then s.trigger f else s
    s.startUp f dL
  else s

def dcuLane (f : FrameId) : Instr → Bool
  | .dcuDeliveryHandoff g .. => g == f
  | _ => false

def dcuTake (s : State) : Instr → State
  | .dcuDeliveryHandoff f dL target => s.takeDcuDelivery f dL target
  | _ => s

/-- DCU_DELIVERY_HANDOFF (R44). -/
def execDcuDeliveryHandoff (f : FrameId) (dL : Nat) (target : Bool) (s : State) : Host.Outcome State Fault Refusal :=
  .next (s.handoffInOrder (dcuLane f) (fun h s => dcuTake s h) (.dcuDeliveryHandoff f dL target))

/-! ### HELD (R135) -/

/-- The alarm FRAME-HELD, for STOP-TIMEOUT and DOFF-TIMEOUT (R135 step 6). -/
def State.alarmHeld (f : FrameId) (cause : HoldCause) (s : State) : State :=
  match cause with
  | .stopTimeout | .doffTimeout => s.alarm .frameHeld 0 f.val cause.code
  | .mill | .reset => s

/-- A frame enters HELD (R135). -/
def State.enterHeld (f : FrameId) (cause : HoldCause) (s : State) : State :=
  let s := s.modCycle f fun r => { r with cause := some cause, stopTimer := none }
  let s := (s.leaveQueue f).cancelClaim f
  let s := s.enterFrameState f .held
  (sendHoldFrame f s).alarmHeld f cause

/-! ### Stop confirmation (R125, R126) -/

/-- The doff of a frame by a doffer starts (R128). -/
def State.startDoff (d : DofferId) (f : FrameId) (s : State) : State :=
  let s := sendDoffGo d f s
  let s := s.enterFrameState f .doffing
  s.modDoffer d fun r =>
    { r with state := .doffing, timer := some (s.timer + minutes (s.store.doffers.get d).timeout) }

/-- A STOPPED by the frame's state (R125). -/
def State.takeStopped (f : FrameId) (s : State) : State :=
  let s := s.dcuReady f
  if s.frameState f = .stopping then
    let s := (s.modCycle f fun r => { r with stopTimer := none }).enterFrameState f .doffWait
    match (s.cycle f).claim with
    | some d => if (s.doffer d).held then s.startDoff d f else s
    | none => s
  else s.countStoppedFrame

/-- STOPPED (R125). -/
def execStopped (node seq : Nat) (s : State) : Host.Outcome State Fault Refusal :=
  .next (s.report (.stopped node seq) (State.takeStopped (frameAt node)))

/-- STOP_TIMER_EXPIRY (R126). -/
def execStopTimerExpiry (f : FrameId) (s : State) : Host.Outcome State Fault Refusal :=
  .next (s.whenOn fun s =>
    match (s.cycle f).stopTimer with
    | some t =>
      let s := (s.reach t).dcuReady f
      if s.frameState f = .stopping then s.enterHeld f .stopTimeout else s
    | none => s)

/-! ### Claims and doffs (R120, R127 to R131) -/

/-- The doffer of a checked doffer node. -/
def dofferAt (node : Nat) : DofferId := Fin.ofNat 8 (node - 0x50)

/-- DOFFER_READY (R120). -/
def execDofferReady (node seq : Nat) (s : State) : Host.Outcome State Fault Refusal :=
  let d := dofferAt node
  .next (s.report (.dofferReady node seq) fun s =>
    match (s.doffer d).state with
    | .offline | .faulted => (s.makeIdle d).pick d
    | .idle | .claiming | .doffing => s.countStale)

/-- An "aisles held" notice (R127). While the request of the doffer's claim is still in flight, the notice is of a former
claim and finds no matching one (R111; log 3). -/
def State.takeHeldNotice (d : DofferId) (f : FrameId) (s : State) : State :=
  let s := s.dcuReady f
  if (s.doffer d).state = .claiming ∧ (s.doffer d).frame = some f ∧ s.inFlight.contains (.dofferReservation d f) = false then
    let s := s.modDoffer d fun r => { r with held := true }
    if s.frameState f = .doffWait then s.startDoff d f else s
  else s

/-- AISLES_HELD_NOTICE (R127, R128). -/
def execAislesHeldNotice (d : DofferId) (f : FrameId) (s : State) : Host.Outcome State Fault Refusal :=
  .next (s.handoff (.aislesHeldNotice d f) (State.takeHeldNotice d f))

/-- The article switch: the next article comes into force, and whether it did (R130 step 1). -/
def State.switchArticle (f : FrameId) (s : State) : Bool × State :=
  let e := s.entry f
  if e.nextArticle = 0xFF then (false, s)
  else (true, s.setEntry f { e with article := e.nextArticle, nextArticle := 0xFF })

/-- After a switch the DAU goes on by the article of before until it takes the doff completion (R51; log 42). -/
def State.keepFormer (f : FrameId) (a : Article) (s : State) : State :=
  s.setDelivery f { s.deliveryRecord f with former := some a }

/-- The frame side of a doff completion, in the order of R130. -/
def State.completeFrame (f : FrameId) (s : State) : State :=
  let before := s.dauArticle f
  match s.switchArticle f with
  | (switched, s) =>
    let s := if switched then s.keepFormer f before else s
    let s := (s.emit (.dauDoffCompletion f switched)).emit (.spindleDoffCompletion f)
    let start := (s.article f).startUp
    let s := s.modCycle f fun r => { r with startUp := start, claim := none }
    s.enterFrameState f (if 0 < start then .starting else .running)

/-- A DOFF-DONE of a doffer naming a frame (R129). -/
def State.takeDoffDone (d : DofferId) (f : FrameId) (s : State) : State :=
  let s := s.dcuReady f
  if (s.doffer d).state = .doffing ∧ (s.doffer d).frame = some f then
    let s := ((s.makeIdle d).emit (.dofferRelease d)).emit (.scuDoff f)
    (s.completeFrame f).pick d
  else s.countStale

/-- DOFF_DONE (R129, R130). -/
def execDoffDone (node seq frame : Nat) (s : State) : Host.Outcome State Fault Refusal :=
  .next (s.report (.doffDone node seq frame) (State.takeDoffDone (dofferAt node) (frameAt frame)))

/-! ### Doffer faults and the doff timer (R133, R134) -/

/-- A doffer becomes FAULTED with no frame, and its release is asked of the AOU where it had one (R133, R134). -/
def State.makeFaulted (d : DofferId) (s : State) : State :=
  let s' := s.modDoffer d fun r => { r with state := .faulted, frame := none, held := false, timer := none }
  if (s.doffer d).frame.isSome then s'.emit (.dofferRelease d) else s'

/-- A frame whose claim has ended by the doffer's doing returns to the head of the queue and is offered (R122). -/
def State.returnToQueue (f : FrameId) (s : State) : State :=
  let s := s.modCycle f fun r => { r with claim := none }
  (s.setQueue (f :: s.dcu.queue)).offerFrame f

/-- A DOFFER-FAULT by the doffer's state (R133). -/
def State.takeDofferFault (d : DofferId) (s : State) : State :=
  let r := s.doffer d
  match r.state, r.frame with
  | .idle, _ => (s.makeFaulted d).alarm .dofferFault 2 d.val 0x00FF
  | .claiming, some f => (((s.dcuReady f).makeFaulted d).returnToQueue f).alarm .dofferFault 2 d.val f.val
  | .doffing, some f => (((s.dcuReady f).makeFaulted d).alarm .dofferFault 2 d.val f.val).enterHeld f .doffTimeout
  | _, _ => s.countStale

/-- DOFFER_FAULT (R133). -/
def execDofferFault (node seq : Nat) (s : State) : Host.Outcome State Fault Refusal :=
  .next (s.report (.dofferFault node seq) (State.takeDofferFault (dofferAt node)))

/-- DOFF_TIMER_EXPIRY (R134). -/
def execDoffTimerExpiry (d : DofferId) (s : State) : Host.Outcome State Fault Refusal :=
  .next (s.whenOn fun s =>
    match (s.doffer d).timer, (s.doffer d).frame with
    | some t, some f =>
      if (s.doffer d).state = .doffing then
        let s := sendDoffCancel d ((s.reach t).dcuReady f)
        ((s.makeFaulted d).alarm .dofferFault 2 d.val (0x0100 + f.val)).enterHeld f .doffTimeout
      else s
    | _, _ => s)

/-! ### FRAME-CMD at the DCU (R124, R136, R137) -/

/-- HOLD (R136). -/
def State.takeHold (f : FrameId) (s : State) : Result × State :=
  let s := s.dcuReady f
  match s.frameState f with
  | .running | .starting | .stopping | .doffWait => (.ok, s.enterHeld f .mill)
  | .offline | .doffing | .held => (.badState, s)

/-- RESUME (R137). -/
def State.takeResume (f : FrameId) (s : State) : Result × State :=
  let s := s.dcuReady f
  if s.frameState f = .held then
    let full := (s.article f).doffTarget ≤ (s.deliveryRecord f).cop
    let s := s.modCycle f fun r => { r with cause := none }
    if full then (.ok, (s.trigger f).emit (.spuResumeRequest f false))
    else
      let s := (s.modCycle f fun r => { r with startUp := 0 }).enterFrameState f .running
      (.ok, s.emit (.spuResumeRequest f true))
  else (.badState, s)

/-- DOFF-NOW (R124). -/
def State.takeDoffNow (f : FrameId) (s : State) : Result × State :=
  let s := s.dcuReady f
  if (s.frameState f).spins then (.ok, s.trigger f) else (.badState, s)

/-! ### Stopped time (R138) -/

/-- The items of one seconds tick, in ascending frame number (R138, R175). DESIGN CHOICE (log 38): of the two items of a frame,
which R138 and R175 leave unordered, the stopped second is made first. -/
def State.tickItems (s : State) : List Instr :=
  (List.finRange 48).flatMap fun f =>
    if s.enabled f then
      (if (s.frameState f).stands then [Instr.scuStoppedSecond f] else [])
        ++ (if s.frameState f = .stopping ∨ s.frameState f = .doffWait then [Instr.scuDoffWaitSecond f] else [])
    else []

/-- SECONDS_TICK: the line timer has reached the next whole second (R138; log 5). -/
def execSecondsTick (s : State) : Host.Outcome State Fault Refusal :=
  .next (s.whenOn fun s =>
    let s := { s with ticks := s.ticks + 1 }
    (s.reach (seconds s.ticks)).emitAll s.tickItems)

/-! ### Enable, disable and reset (R116, R117, R119) -/

/-- The DCU's part of an enable (R117). -/
def State.enableCycle (f : FrameId) (s : State) : State :=
  (s.setCycle f { s.cycle f with cause := none, claim := none, stopTimer := none, startUp := 0 }).enterFrameState f .running

/-- The DCU's part of a disable; the cancel of the frame's piecing is the TSM's own (R100, R117). -/
def State.disableCycle (f : FrameId) (s : State) : State :=
  let s := (s.leaveQueue f).cancelClaim f
  s.setCycle f { state := .offline, cause := none, claim := none, stopTimer := none, startUp := 0 }

/-- A doffer is disabled; one in DOFFING has been refused (R27). -/
def State.disableDoffer (d : DofferId) (s : State) : State :=
  let r := s.doffer d
  let off : State → State := State.modDoffer d fun r =>
    { r with state := .offline, frame := none, held := false, timer := none }
  match r.state, r.frame with
  | .claiming, some f =>
    let s := (off (sendDoffCancel d (s.dcuReady f))).emit (.dofferRelease d)
    s.returnToQueue f
  | _, _ => off s

/-- A reach is written: in force at once while IDLE or OFFLINE, and an IDLE doffer then picks; otherwise pending (R27). -/
def State.writeReach (d : DofferId) (reach : BitVec 48) (s : State) : State :=
  match (s.doffer d).state with
  | .idle => (s.modDoffer d fun r => { r with reach, reachPending := none }).pick d
  | .offline => s.modDoffer d fun r => { r with reach, reachPending := none }
  | .claiming | .doffing | .faulted => s.modDoffer d fun r => { r with reachPending := some reach }

/-- A DCU frame record after a line reset (R116). -/
def FrameCycle.lineReset (r : FrameCycle) : FrameCycle :=
  match r.state with
  | .stopping | .doffWait | .doffing =>
    { r with state := .held, cause := some .reset, claim := none, stopTimer := none }
  | .offline | .running | .starting | .held => { r with claim := none, stopTimer := none }

/-- The DCU's part of a line reset (R116, R119). -/
def State.lineResetCycles (s : State) : State :=
  { s with
    dcu :=
      { frames := s.dcu.frames.map FrameCycle.lineReset, doffers := s.store.doffers.map fun e => .initial e.reach,
        queue := [] } }

end Sys2Proof.Machine
end

