-- ==== Sys2Proof/Machine/Roving.lean ====
section
/-! DEFINITION. The Roving Supply Unit (spec/09): levels and consumption (R153 to R155), the replenishment set (R156 to
R158), carriers (R159 to R165), groups loaded by hand (R166), enable, disable and line reset (R152, R167, R168). -/

namespace Sys2Proof.Machine

/-! ### Levels (R153) -/

inductive Level where
  | empty | low | ok
deriving DecidableEq, Repr

def Level.code : Level → Nat
  | .empty => 0 | .low => 1 | .ok => 2

def levelOf (remaining lowMark : Nat) : Level :=
  if remaining = 0 then .empty else if remaining ≤ lowMark then .low else .ok

def State.level (s : State) (f : FrameId) (g : GroupId) : Level := levelOf (s.remaining f g) (s.article f).lowMark

/-- The object index of a group (spec/09 section 9.1). -/
def groupIndex (f : FrameId) (g : GroupId) : Nat := f.val * 32 + g.val

def State.modGroup (f : FrameId) (g : GroupId) (upd : Group → Group) (s : State) : State :=
  match s.groupRecord f g with
  | some r => s.setGroup f g (some (upd r))
  | none => s

def State.modCarrier (c : CarrierId) (upd : Carrier → Carrier) (s : State) : State := s.setCarrier c (upd (s.carrier c))

/-- The first of the elements whose key is least. -/
def firstLeast {α : Type} (key : α → Nat) : List α → Option α
  | [] => none
  | a :: rest =>
    match firstLeast key rest with
    | none => some a
    | some b => if key b < key a then some b else some a

/-! ### Admission and dispatch (R156 to R160) -/

/-- The UNQUEUED group of least remaining roving; ties go to the lower frame, then the lower group (R158). -/
def State.leastUnqueued (s : State) : Option (FrameId × GroupId) :=
  firstLeast (fun p => s.remaining p.1 p.2)
    ((List.finRange 48).flatMap fun f =>
      (List.finRange 32).filterMap fun g =>
        match s.groupRecord f g with
        | some r => if r.state = .unqueued then some (f, g) else none
        | none => none)

/-- The lowest-numbered IDLE carrier (R156). -/
def State.lowestIdle (s : State) : Option CarrierId := (List.finRange 8).find? fun c => (s.carrier c).state == .idle

/-- A group joins the end of the set with the next sequence (R156). -/
def State.enqueue (f : FrameId) (g : GroupId) (s : State) : State :=
  let q := s.rsu.nextSequence
  let s := s.modGroup f g fun r => { r with state := .queued, sequence := some q }
  let s := s.setSet (s.rsu.set ++ [{ frame := f, group := g, sequence := q }])
  { s with rsu := { s.rsu with nextSequence := q + 1 } }

/-- A carrier is dispatched: the neediest entry leaves the set, the freed place is filled, and an IDLE carrier that the
filling finds is dispatched in its turn (R160, R158, R156). `fuel` bounds the carriers (log 32). -/
def State.dispatch : Nat → CarrierId → State → State
  | 0, _, s => s
  | fuel + 1, c, s =>
    match firstLeast (fun e => s.remaining e.frame e.group) s.rsu.set with
    | none => s
    | some e =>
      let s := s.setSet (s.rsu.set.erase e)
      let s := s.modGroup e.frame e.group fun r => { r with state := .called, carrier := some c }
      let s := s.modCarrier c fun r =>
        { r with state := .travel, trip := some (e.frame, e.group),
                 timer := some (s.timer + minutes (s.store.carriers.get c).travelTimeout) }
      let s :=
        match s.leastUnqueued with
        | none => s
        | some (f, g) =>
          let s := s.enqueue f g
          match s.lowestIdle with
          | some c' => State.dispatch fuel c' s
          | none => s
      sendCarrierGo c e.frame e.group s

/-- The lowest-numbered IDLE carrier, if any, is dispatched. -/
def State.dispatchIdle (s : State) : State :=
  match s.lowestIdle with
  | some c => s.dispatch 8 c
  | none => s

/-- A group finds the set full: it is UNQUEUED and REPL-SET-FULL latches (R37, R156). -/
def State.unqueue (f : FrameId) (g : GroupId) (s : State) : State :=
  (s.modGroup f g fun r => { r with state := .unqueued, sequence := none }).latch .replSetFull

/-- A group that is SUPPLIED and LOW or EMPTY is admitted, and any other is left as it is; `full` follows where the set is
full (R156). -/
def State.judgeWith (full : State → State) (f : FrameId) (g : GroupId) (s : State) : State :=
  match s.groupRecord f g with
  | some r =>
    if r.state = .supplied ∧ s.level f g ≠ .ok then
      if s.rsu.set.length < 64 then (s.enqueue f g).dispatchIdle else full (s.unqueue f g)
    else s
  | none => s

/-- The RSU judges a group (R156). -/
def State.judge (f : FrameId) (g : GroupId) (s : State) : State :=
  s.judgeWith (State.alarm .replSetFull 4 (groupIndex f g) 0) f g

/-- The RSU judges a group with no alarm (R28; log 48). -/
def State.judgeSilently (f : FrameId) (g : GroupId) (s : State) : State := s.judgeWith (fun t => t) f g

/-- A freed place of the set is filled from the UNQUEUED groups (R158). -/
def State.fillPlace (s : State) : State :=
  match s.leastUnqueued with
  | some (f, g) => if s.rsu.set.length < 64 then (s.enqueue f g).dispatchIdle else s
  | none => s

/-- Several freed places are filled, one after another (R158). -/
def State.fillPlaces : Nat → State → State
  | 0, s => s
  | n + 1, s => State.fillPlaces n s.fillPlace

/-! ### Consumption (R154, R155) -/

/-- One group is lowered, and emptied when it reaches 0 from above (R154, R155). -/
def State.lowerGroup (f : FrameId) (dR : Nat) (s : State) (g : GroupId) : State :=
  match s.groupRecord f g with
  | none => s
  | some r =>
    let s := s.setGroup f g (some { r with remaining := r.remaining - dR })
    if 0 < r.remaining ∧ r.remaining ≤ dR then (s.emit (.starveGroup f g)).alarm .starved 4 (groupIndex f g) 0 else s

/-- A roving hand-off at the RSU (R154, R49). -/
def State.takeRoving (f : FrameId) (dR : Nat) (s : State) : State :=
  if s.enabled f then
    let s := (List.finRange 32).foldl (State.lowerGroup f dR) s
    (List.finRange 32).foldl (fun s g => s.judge f g) s
  else s

def rsuLane (f : FrameId) : Instr → Bool
  | .rsuRovingHandoff g .. => g == f
  | _ => false

def rsuTake (s : State) : Instr → State
  | .rsuRovingHandoff f dR => s.takeRoving f dR
  | _ => s

/-- RSU_ROVING_HANDOFF (R154 to R156). -/
def execRsuRovingHandoff (f : FrameId) (dR : Nat) (s : State) : Host.Outcome State Fault Refusal :=
  .next (s.handoffInOrder (rsuLane f) (fun h s => rsuTake s h) (.rsuRovingHandoff f dR))

/-! ### Arrival and the change (R159, R161 to R163) -/

/-- The carrier of a checked carrier node. -/
def carrierAt (node : Nat) : CarrierId := Fin.ofNat 8 (node - 0x58)

/-- CARRIER_READY (R159, R160). -/
def execCarrierReady (node seq load : Nat) (s : State) : Host.Outcome State Fault Refusal :=
  let c := carrierAt node
  .next (s.report (.carrierReady node seq load) fun s =>
    match (s.carrier c).state with
    | .offline | .returning | .faulted =>
      (s.setCarrier c { state := .idle, trip := none, load, timer := none }).dispatch 8 c
    | .idle | .travel | .wait | .changing => s.countStale)

/-- CHANGE-GO is sent; the carrier and its group become CHANGING (R161, R162). -/
def State.startChange (c : CarrierId) (f : FrameId) (g : GroupId) (s : State) : State :=
  let s := sendChangeGo c s
  let s := s.modCarrier c fun r =>
    { r with state := .changing, timer := some (s.timer + minutes (s.store.carriers.get c).changeTimeout) }
  s.modGroup f g fun r => { r with state := .changing }

/-- A last-assigned notice (R162). -/
def State.takeLastAssigned (f : FrameId) (g : GroupId) (s : State) : State :=
  match (List.finRange 8).find? fun c => (s.carrier c).state == .wait && (s.carrier c).trip == some (f, g) with
  | some c => s.startChange c f g
  | none => s

def lastAssignedOf (f : FrameId) (g : GroupId) : Instr → Bool
  | .lastAssignedNotice f' g' => f' == f && g' == g
  | _ => false

def rsuTakeNotice (s : State) : Instr → State
  | .lastAssignedNotice f g => s.takeLastAssigned f g
  | _ => s

/-- LAST_ASSIGNED_NOTICE (R162). -/
def execLastAssignedNotice (f : FrameId) (g : GroupId) (s : State) : Host.Outcome State Fault Refusal :=
  .next (s.handoff (.lastAssignedNotice f g) (State.takeLastAssigned f g))

/-- An ARRIVED of a carrier: the SMU's earlier notices of the group come before its answer (R161; log 3). -/
def State.takeArrived (c : CarrierId) (f : FrameId) (g : GroupId) (s : State) : State :=
  if (s.carrier c).state = .travel ∧ (s.carrier c).trip = some (f, g) then
    let s := (s.takeMatching (lastAssignedOf f g) fun h s => rsuTakeNotice s h).smuReady f
    if s.groupAssigned f g then s.modCarrier c fun r => { r with state := .wait, timer := none }
    else s.startChange c f g
  else s.countStale

/-- ARRIVED (R161). -/
def execArrived (node seq frame group : Nat) (s : State) : Host.Outcome State Fault Refusal :=
  .next (s.report (.arrived node seq frame group)
    (State.takeArrived (carrierAt node) (frameAt frame) (Fin.ofNat 32 group)))

/-- A group is refilled to a length: steps 2 to 4, 6 and 7 of R163, which R166 shares. -/
def State.refill (f : FrameId) (g : GroupId) (length : Nat) (s : State) : State :=
  let s := s.modGroup f g fun r => { r with remaining := length }
  let s := s.unstarve f g
  let s := s.modGroup f g fun r => { r with state := .supplied, sequence := none, carrier := none }
  let s := s.judge f g
  s.emit (.groupReevaluation f g)

/-- A CHANGE-DONE of a carrier (R163). -/
def State.takeChangeDone (c : CarrierId) (f : FrameId) (g : GroupId) (s : State) : State :=
  let r := s.carrier c
  if r.state = .changing ∧ r.trip = some (f, g) then
    (s.setCarrier c { r with state := .returning, trip := none, timer := none }).refill f g r.load
  else s.countStale

/-- CHANGE_DONE (R163). -/
def execChangeDone (node seq frame group : Nat) (s : State) : Host.Outcome State Fault Refusal :=
  .next (s.report (.changeDone node seq frame group)
    (State.takeChangeDone (carrierAt node) (frameAt frame) (Fin.ofNat 32 group)))

/-! ### Faults and timers (R164, R165) -/

/-- A carrier gives up its trip for a state, and its group returns to SUPPLIED (R164, R28). -/
def State.leaveTrip (c : CarrierId) (st : CarrierState) (f : FrameId) (g : GroupId) (s : State) : State :=
  (s.modCarrier c fun r => { r with state := st, trip := none, timer := none }).modGroup f g fun r =>
    { r with state := .supplied, sequence := none, carrier := none }

/-- A trip fails: the carrier is FAULTED, and its group returns and is judged (R164). DESIGN CHOICE (log 54): R80 speaks of a
request for re-evaluation at the end of the wait or the change, but R164 lists none where a fault ends it, and none is made. -/
def State.failTrip (c : CarrierId) (f : FrameId) (g : GroupId) (s : State) : State :=
  (s.leaveTrip c .faulted f g).judge f g

/-- A CARRIER-FAULT by the carrier's state (R164). -/
def State.takeCarrierFault (c : CarrierId) (s : State) : State :=
  let r := s.carrier c
  match r.state, r.trip with
  | .idle, _ | .returning, _ =>
    (s.modCarrier c fun r => { r with state := .faulted }).alarm .carrierFault 3 c.val 0x00FF
  | .travel, some (f, g) | .wait, some (f, g) | .changing, some (f, g) =>
    (s.failTrip c f g).alarm .carrierFault 3 c.val f.val
  | _, _ => s.countStale

/-- CARRIER_FAULT (R164). -/
def execCarrierFault (node seq : Nat) (s : State) : Host.Outcome State Fault Refusal :=
  .next (s.report (.carrierFault node seq) (State.takeCarrierFault (carrierAt node)))

/-- The timer of a carrier in state `st` passes (R165); as at a fault, no re-evaluation is asked (log 54). -/
def State.tripExpires (c : CarrierId) (st : CarrierState) (detail : Nat) (s : State) : State :=
  s.whenOn fun s =>
    let r := s.carrier c
    match r.timer, r.trip with
    | some t, some (f, g) =>
      if r.state = st then
        ((sendCarrierAbort c (s.reach t)).failTrip c f g).alarm .carrierFault 3 c.val (detail + f.val)
      else s
    | _, _ => s

/-- TRAVEL_TIMER_EXPIRY (R165). -/
def execTravelTimerExpiry (c : CarrierId) (s : State) : Host.Outcome State Fault Refusal :=
  .next (s.tripExpires c .travel 0x0100)

/-- CHANGE_TIMER_EXPIRY (R165). -/
def execChangeTimerExpiry (c : CarrierId) (s : State) : Host.Outcome State Fault Refusal :=
  .next (s.tripExpires c .changing 0x0200)

/-! ### Groups loaded by hand (R166) -/

/-- CARRIER-ABORT to the carrier sent for a group, which becomes RETURNING (R166, R168). -/
def State.abortTrip (f : FrameId) (g : GroupId) (s : State) : State :=
  match s.groupRecord f g with
  | some r =>
    match r.carrier with
    | some c => (sendCarrierAbort c s).modCarrier c fun r => { r with state := .returning, trip := none, timer := none }
    | none => s
  | none => s

/-- The entry of a group leaves the set, if it has one. -/
def State.leaveSet (f : FrameId) (g : GroupId) (s : State) : State :=
  s.setSet (s.rsu.set.filter fun e => !(e.frame == f && e.group == g))

/-- A GROUP-LOADED that the TSM has checked, by the group's supply state (R166). -/
def State.takeGroupLoaded (f : FrameId) (g : GroupId) (length : Nat) (s : State) : Result × State :=
  match (s.groupRecord f g).map Group.state with
  | some .changing => (.badState, s)
  | some .queued => (.ok, ((s.leaveSet f g).fillPlace).refill f g length)
  | some .called => (.ok, (s.abortTrip f g).refill f g length)
  | _ => (.ok, s.refill f g length)

/-! ### Enable, disable and line reset (R152, R159, R167, R168) -/

/-- The RSU's part of an enable (R21, R167). -/
def State.enableGroups (f : FrameId) (s : State) : State :=
  let e := s.entry f
  let fresh : Tab 32 (Option Group) :=
    .build fun g => if e.hasGroup g.val then some { remaining := 0, state := .supplied, sequence := none, carrier := none } else none
  let s := { s with rsu := { s.rsu with groups := s.rsu.groups.set f fresh } }
  (List.finRange 32).foldl (fun s g => s.judge f g) s

/-- The RSU's part of a disable, its CARRIER-ABORTs in ascending group number (R22, R168; log 38). -/
def State.disableGroups (f : FrameId) (s : State) : State :=
  let freed := (s.rsu.set.filter fun e => e.frame == f).length
  let s := s.setSet (s.rsu.set.filter fun e => e.frame != f)
  let s := (List.finRange 32).foldl (fun s g => s.abortTrip f g) s
  let s := { s with rsu := { s.rsu with groups := s.rsu.groups.set f (.fill 32 none) } }
  s.fillPlaces freed

/-- A carrier is disabled, and the group of its trip is admitted again with no alarm, neither CARRIER-FAULT nor REPL-SET-FULL
(R28; log 48); as at a fault, no re-evaluation is asked (log 54). -/
def State.disableCarrier (c : CarrierId) (s : State) : State :=
  let r := s.carrier c
  match r.state, r.trip with
  | .travel, some (f, g) | .wait, some (f, g) | .changing, some (f, g) =>
    ((sendCarrierAbort c s).leaveTrip c .offline f g).judgeSilently f g
  | _, _ => s.modCarrier c fun r => { r with state := .offline, trip := none, timer := none }

/-- A group record at a line reset (R152). -/
def Group.lineReset (r : Group) : Group := { r with state := .supplied, sequence := none, carrier := none }

/-- The RSU's part of a line reset, but for the admissions (R152, R159). -/
def State.lineResetGroups (s : State) : State :=
  { s with
    rsu :=
      { groups := s.rsu.groups.map fun t => t.map fun r => r.map Group.lineReset, set := [], nextSequence := 0,
        carriers := .fill 8 .initial } }

/-- The admissions of a line reset, in ascending frame and group number (R152). -/
def State.readmit (s : State) : State :=
  (List.finRange 48).foldl (fun s f => (List.finRange 32).foldl (fun s g => s.judge f g) s) s

end Sys2Proof.Machine
end

