-- ==== Sys2Proof/Machine/Supervision.lean ====
section
/-! DEFINITION. The Supply Supervision Unit (spec/11): crossings of the warn and recovery levels (R183), the snapshot (R184,
R185) and the loss of the retention supply. -/

namespace Sys2Proof.Machine

def State.setValid (v : Bool) (s : State) : State := { s with retention := { s.retention with valid := v } }
def State.setSupervision (r : Supervision) (s : State) : State := { s with ssu := r }

/-- SUPPLY-WARN latches and its alarm is raised (R183). -/
def State.warn (s : State) : State := (s.latch .supplyWarn).alarm .supplyWarn 7 0 s.store.settings.warnLevel

/-- A snapshot begins at frame 0 (R184). -/
def State.startSnapshot (s : State) : State :=
  (s.setValid false).setSupervision { s.ssu with snapshot := true, nextFrame := 0 }

/-- A fall, by the warn mode in force (R183). -/
def State.takeFall (s : State) : State :=
  match s.store.settings.warnMode with
  | 0 => s.setSupervision { s.ssu with comparator := .low, warnReported := false }
  | 1 => (s.setSupervision { s.ssu with comparator := .low, warnReported := true }).warn
  | _ => ((s.setSupervision { s.ssu with comparator := .low, warnReported := true }).warn).startSnapshot

/-- A rise; the next frame of an abandoned snapshot is kept (R183, R185; log 23). -/
def State.takeRise (s : State) : State :=
  let reported := s.ssu.warnReported
  let s :=
    (s.setSupervision { s.ssu with comparator := .normal, warnReported := false, snapshot := false }).setValid false
  if reported then s.alarm .supplyOk 7 0 s.store.settings.warnLevel else s

/-- A crossing is taken in the direction that the comparator allows, at the levels in force (R183). -/
def State.settleSupply (s : State) : State :=
  match s.ssu.comparator with
  | .normal => if s.supply < Config.warnLevel s.store.settings.warnLevel then s.takeFall else s
  | .low => if Config.recoveryLevel s.store.settings.warnLevel < s.supply then s.takeRise else s

/-- The main supply stands at `mv` millivolts; while the part runs, a crossing is taken (R183, R186). -/
def State.supplyAt (mv : Nat) (s : State) : State := { s with supply := mv }.whenOn State.settleSupply

/-- SUPPLY_FALL (R183). -/
def execSupplyFall (mv : Nat) (s : State) : Host.Outcome State Fault Refusal := .next (s.supplyAt mv)

/-- SUPPLY_RISE (R183). -/
def execSupplyRise (mv : Nat) (s : State) : Host.Outcome State Fault Refusal := .next (s.supplyAt mv)

/-- The image of a current record (Table 11-3). -/
def CountRecord.image (r : CountRecord) : Image :=
  { counts := r.counts, saturated := r.saturated, massResidue := r.massResidue }

/-- The current record restored from an image (R171, R187). -/
def Image.restore (i : Image) : CountRecord :=
  { counts := i.counts, restored := true, lost := false, saturated := i.saturated, massResidue := i.massResidue }

/-- A frame's image is taken from its current record (R184). -/
def State.copyImage (f : FrameId) (s : State) : State :=
  { s with retention := { s.retention with images := s.retention.images.set f (s.scu.current.get f).image } }

/-- The next frame of a snapshot is copied; after frame 47 the snapshot is complete and the store valid (R184). The next
frame then stays 47 (log 23). -/
def State.copyFrame (s : State) : State :=
  let f := s.ssu.nextFrame
  let s := s.copyImage f
  if h : f.val + 1 < 48 then s.setSupervision { s.ssu with nextFrame := ⟨f.val + 1, h⟩ }
  else (s.setSupervision { s.ssu with snapshot := false }).setValid true

/-- SNAPSHOT_READ (R184). -/
def execSnapshotRead (s : State) : Host.Outcome State Fault Refusal :=
  .next (s.whenOn fun s => if s.ssu.snapshot then s.copyFrame else s)

/-- VRET_LOSS: the whole retention domain is cleared (Table 11-3, R185). A snapshot in flight goes on, and the domain
stores again at once (log 43). -/
def execVretLoss (s : State) : Host.Outcome State Fault Refusal :=
  .next { s with retention := { images := .fill 48 .empty, valid := false, intact := false, cause := .power, count := 0 } }

end Sys2Proof.Machine
end

