-- ==== Sys2Proof/Machine/Handoff.lean ====
section
/-! DEFINITION. The taking of whatever hand-off stands in flight, by the meaning of its own row, and the taking of all of
them before a line reset (R49, R188). -/

namespace Sys2Proof.Machine

/-- The state that an outcome leads to. -/
def State.after (s : State) : Host.Outcome State Fault Refusal → State
  | .next t => t
  | .fault _ => s
  | .refused _ => s

/-- The receiver of a hand-off takes it. -/
def State.receive (h : Instr) (s : State) : State :=
  match h with
  | .dcuDeliveryHandoff f dL target => s.after (execDcuDeliveryHandoff f dL target s)
  | .spuDeliveryHandoff f dL fill => s.after (execSpuDeliveryHandoff f dL fill s)
  | .scuDeliveryHandoff f dL r p mtex => s.after (execScuDeliveryHandoff f dL r p mtex s)
  | .rsuRovingHandoff f dR => s.after (execRsuRovingHandoff f dR s)
  | .verifyExpiry f side i => s.after (execVerifyExpiry f side i s)
  | .piecingRequest f side i verify => s.after (execPiecingRequest f side i verify s)
  | .failureRequest f side i => s.after (execFailureRequest f side i s)
  | .withdrawRequest f side i => s.after (execWithdrawRequest f side i s)
  | .smuPiecingCancel f => s.after (execSmuPiecingCancel f s)
  | .pcdPiecingCancel f => s.after (execPcdPiecingCancel f s)
  | .starveGroup f g => s.after (execStarveGroup f g s)
  | .spindleDoffCompletion f => s.after (execSpindleDoffCompletion f s)
  | .verifyEntryRemove f side i => s.after (execVerifyEntryRemove f side i s)
  | .satisfiedNotice f side i => s.after (execSatisfiedNotice f side i s)
  | .brokenNotice f side i => s.after (execBrokenNotice f side i s)
  | .frameRunningNotice f => s.after (execFrameRunningNotice f s)
  | .groupReevaluation f g => s.after (execGroupReevaluation f g s)
  | .freeAisleNotice a => s.after (execFreeAisleNotice a s)
  | .robotRelease k a => s.after (execRobotRelease k a s)
  | .lastAssignedNotice f g => s.after (execLastAssignedNotice f g s)
  | .robotRecall k a => s.after (execRobotRecall k a s)
  | .dofferReservation d f => s.after (execDofferReservation d f s)
  | .dofferRelease d => s.after (execDofferRelease d s)
  | .aislesHeldNotice d f => s.after (execAislesHeldNotice d f s)
  | .dauDoffCompletion f switched => s.after (execDauDoffCompletion f switched s)
  | .spuDoffCompletion f switched => s.after (execSpuDoffCompletion f switched s)
  | .spuResumeRequest f restart => s.after (execSpuResumeRequest f restart s)
  | .monitoredBreak f => s.after (execMonitoredBreak f s)
  | .scuBreak f => s.after (execScuBreak f s)
  | .scuRovingEndBreak f => s.after (execScuRovingEndBreak f s)
  | .scuRogueEvent f => s.after (execScuRogueEvent f s)
  | .scuSuccessfulPiecing f => s.after (execScuSuccessfulPiecing f s)
  | .scuFailedPiecing f => s.after (execScuFailedPiecing f s)
  | .scuDoff f => s.after (execScuDoff f s)
  | .scuStoppedSecond f => s.after (execScuStoppedSecond f s)
  | .scuDoffWaitSecond f => s.after (execScuDoffWaitSecond f s)
  | other => s.drop other

/-- The oldest hand-off in flight is taken, until none is left; `fuel` bounds their number (log 19). -/
def State.drain : Nat → State → State
  | 0, s => s
  | fuel + 1, s =>
    match s.inFlight with
    | [] => s
    | h :: _ => State.drain fuel (s.receive h)

/-- Every hand-off already made is taken before the units take a line reset (R188). -/
def State.settleHandoffs (s : State) : State := s.drain (16 * s.inFlight.length + 4096)

end Sys2Proof.Machine
end

