-- ==== Sys2Proof/Machine/Tables.lean ====
section
/-! DEFINITION. The tables (spec/02): entries as lists of field values, masked writes with their checks in the order of R18,
the effects of a write on each table (R20 to R29, R10), and TABLE-READ (R19). -/

namespace Sys2Proof.Machine

/-! ### Entries as field values, in ascending field number -/

def frameWidths : List Nat := [1, 2, 2, 1, 2, 1, 2, 3, 1, 1, 1, 1]
def articleWidths : List Nat := [1, 3, 2, 4, 3, 1, 24, 4, 1, 3, 1, 1, 1, 1, 1, 3]
def zoneWidths : List Nat := [17, 1, 1]
def robotWidths : List Nat := [1, 1]
def dofferWidths : List Nat := [1, 6, 1]
def carrierWidths : List Nat := [1, 1, 1]
def settingsWidths : List Nat := [2, 1, 1, 1]
def dispositionWidths : List Nat := [1, 1]

def FrameEntry.fields (e : FrameEntry) : List Nat :=
  [e.enabled, e.lengthA, e.lengthB, e.aisleA, e.offsetA, e.aisleB, e.offsetB, e.pulseLength, e.groupA, e.groupB, e.article,
   e.nextArticle]

def FrameEntry.ofFields (l : List Nat) : FrameEntry :=
  { enabled := l.getD 0 0, lengthA := l.getD 1 0, lengthB := l.getD 2 0, aisleA := l.getD 3 0, offsetA := l.getD 4 0,
    aisleB := l.getD 5 0, offsetB := l.getD 6 0, pulseLength := l.getD 7 0, groupA := l.getD 8 0, groupB := l.getD 9 0,
    article := l.getD 10 0, nextArticle := l.getD 11 0 }

/-- The 24 bytes of c0 to c5, c0 first, as one number. -/
def coeffsNat (c : Tab 6 (BitVec 32)) : Nat := c.items.foldl (fun acc b => acc * 2 ^ 32 + b.toNat) 0

def coeffsOf (v : Nat) : Tab 6 (BitVec 32) := .build fun k => BitVec.ofNat 32 (v / 2 ^ (32 * (5 - k.val)))

def Article.fields (a : Article) : List Nat :=
  [a.defined, a.density, a.draft, a.doffTarget, a.startUp, a.degree, coeffsNat a.coeffs, a.minRpm * 65536 + a.maxRpm,
   a.speedStep, a.interval, a.highThreshold, a.lowThreshold, a.quietIntervals, a.attemptLimit, a.repeatLimit, a.lowMark]

def Article.ofFields (l : List Nat) : Article :=
  { defined := l.getD 0 0, density := l.getD 1 0, draft := l.getD 2 0, doffTarget := l.getD 3 0, startUp := l.getD 4 0,
    degree := l.getD 5 0, coeffs := coeffsOf (l.getD 6 0), minRpm := l.getD 7 0 / 65536, maxRpm := l.getD 7 0 % 65536,
    speedStep := l.getD 8 0, interval := l.getD 9 0, highThreshold := l.getD 10 0, lowThreshold := l.getD 11 0,
    quietIntervals := l.getD 12 0, attemptLimit := l.getD 13 0, repeatLimit := l.getD 14 0, lowMark := l.getD 15 0 }

/-- The count byte and the 16 aisle bytes of a patrol list as one number. -/
def patrolNat (count : Nat) (slots : List Nat) : Nat := slots.foldl (fun acc a => acc * 256 + a) count

/-- The aisle bytes of a patrol list's 17 bytes. -/
def patrolSlots (v : Nat) : List Nat := (beBytes 16 v).map BitVec.toNat

def ZoneEntry.fields (z : ZoneEntry) : List Nat := [patrolNat z.count z.slots, z.piecingTimeout, z.verifyWindow]

/-- Only the first count aisle bytes are kept; the others are stored as 0xFF (Table 2-5 note). -/
def ZoneEntry.ofFields (l : List Nat) : ZoneEntry :=
  let v := l.getD 0 0
  let count := v / 256 ^ 16
  { count, slots := (patrolSlots v).take count ++ List.replicate (16 - count) 0xFF, piecingTimeout := l.getD 1 0,
    verifyWindow := l.getD 2 0 }

def RobotEntry.fields (e : RobotEntry) : List Nat := [e.enabled, e.zone]
def RobotEntry.ofFields (l : List Nat) : RobotEntry := { enabled := l.getD 0 0, zone := l.getD 1 0 }
def DofferEntry.fields (e : DofferEntry) : List Nat := [e.enabled, e.reach.toNat, e.timeout]
def DofferEntry.ofFields (l : List Nat) : DofferEntry :=
  { enabled := l.getD 0 0, reach := BitVec.ofNat 48 (l.getD 1 0), timeout := l.getD 2 0 }
def CarrierEntry.fields (e : CarrierEntry) : List Nat := [e.enabled, e.travelTimeout, e.changeTimeout]
def CarrierEntry.ofFields (l : List Nat) : CarrierEntry :=
  { enabled := l.getD 0 0, travelTimeout := l.getD 1 0, changeTimeout := l.getD 2 0 }
def Settings.fields (e : Settings) : List Nat := [e.alarmEnable.toNat, e.stopTimeout, e.warnLevel, e.warnMode]
def Settings.ofFields (l : List Nat) : Settings :=
  { alarmEnable := BitVec.ofNat 16 (l.getD 0 0), stopTimeout := l.getD 1 0, warnLevel := l.getD 2 0, warnMode := l.getD 3 0 }
/-- COPY 0, NO-COPY 1; PASS 0, BLOCK 1 (R10). -/
def Disposition.fields (d : Disposition) : List Nat := [if d.copy then 0 else 1, if d.pass then 0 else 1]
def Disposition.ofFields (l : List Nat) : Disposition := { copy := l.getD 0 0 == 0, pass := l.getD 1 0 == 0 }

/-- Field values at their widths (R19). -/
def fieldBytes (widths vals : List Nat) : List Byte := (widths.zip vals).flatMap fun p => beBytes p.1 p.2

/-! ### The masked write (R18) -/

/-- The number of the first field that a mask selects and a table of `n` fields does not have (R18 step 3). -/
def badMaskField (n mask : Nat) : Option Nat :=
  ((List.range 16).find? fun k => decide (n ≤ k) && mask.testBit k).map (· + 1)

/-- The sum of the widths of the selected fields (R18 step 4). -/
def selectedWidth (mask : Nat) : Nat → List Nat → Nat
  | _, [] => 0
  | k, w :: ws => (if mask.testBit k then w else 0) + selectedWidth mask (k + 1) ws

/-- The resulting entry: the old one with the selected fields replaced (R18 step 6). -/
def overlay (mask : Nat) : Nat → List Nat → List Nat → List Byte → List Nat
  | k, w :: ws, o :: os, vs =>
    if mask.testBit k then beNat (vs.take w) :: overlay mask (k + 1) ws os (vs.drop w) else o :: overlay mask (k + 1) ws os vs
  | _, _, _, _ => []

/-- The number of the lowest field with a failing condition (R18 step 6). -/
def firstFailing (conds : List Bool) : Option Nat := (conds.findIdx? fun ok => !ok).map (· + 1)

/-- Steps 3 and 4 of a write, the mask of 0, and what follows with the resulting field values (R18). -/
def State.maskedWrite (seq : Nat) (widths old : List Nat) (mask : Nat) (values : List Byte)
    (rest : List Nat → State → State) (s : State) : State :=
  match badMaskField widths.length mask with
  | some k => s.badValue seq k
  | none =>
    if values.length ≠ selectedWidth mask 0 widths then s.refuse seq .badLength
    else if mask = 0 then s.replyOk seq []
    else rest (overlay mask 0 widths old values) s

/-- Steps 5 to 7 of a write and its effects; the reply follows them (R18; log 39). -/
def State.judgeWrite (seq : Nat) (inUse : Bool) (conds : List Bool) (badState : Bool) (commit : State → State) (s : State) :
    State :=
  if inUse then s.refuse seq .inUse
  else
    match firstFailing conds with
    | some k => s.badValue seq k
    | none => if badState then s.refuse seq .badState else (commit s).replyOk seq []

def between (lo v hi : Nat) : Bool := decide (lo ≤ v) && decide (v ≤ hi)

/-- Whether a mask selects field `k` + 1. -/
def selects (mask k : Nat) : Bool := mask.testBit k

/-! ### Frame Table (R20 to R23) -/

def State.articleDefined (s : State) (a : Nat) : Bool := (s.store.articles.get (Fin.ofNat 16 a)).defined == 1

/-- The conditions of Table 2-3, field by field. -/
def State.frameConds (s : State) (e : FrameEntry) : List Bool :=
  [between 0 e.enabled 1 && (e.enabled == 0 || e.lengthA != 0 || e.lengthB != 0),
   between 0 e.lengthA 1024,
   between 0 e.lengthB 1024,
   between 0 e.aisleA 63,
   between 0 e.offsetA 2047 && decide (e.offsetA + e.lengthA ≤ 2048),
   between 0 e.aisleB 63 && (e.lengthA == 0 || e.lengthB == 0 || e.aisleB != e.aisleA),
   between 0 e.offsetB 2047 && decide (e.offsetB + e.lengthB ≤ 2048),
   between 1 e.pulseLength 16777215,
   between 16 e.groupA 128 && decide (e.groupCount .A ≤ 16),
   between 16 e.groupB 128 && decide (e.groupCount .B ≤ 16),
   between 0 e.article 15 && (e.enabled != 1 || s.articleDefined e.article),
   e.nextArticle == 0xFF || (between 0 e.nextArticle 15 && s.articleDefined e.nextArticle)]

/-- Fields 2 to 7 and 9 to 11 are locked while the frame is enabled (R20). -/
def locksFrame (mask : Nat) : Bool := [1, 2, 3, 4, 5, 6, 8, 9, 10].any fun k => selects mask k

/-- The enable of a frame, its entry already in force, unit by unit; the PCD's part is its re-evaluation at the frame-running
notice that the DCU makes (R21; logs 16, 56). -/
def State.enableFrame (f : FrameId) (s : State) : State :=
  sendStateRequest f.val
    ((((((s.enableCycle f).enableMap f).enableDelivery f).enableGroups f).enableSpeed f).enableDispatch f)

/-- A delivery hand-off or a monitored break of a frame, which its unit discards once it has taken the disable (R49, R140). -/
def discardedBy (f : FrameId) : Instr → Bool
  | .dcuDeliveryHandoff g .. | .spuDeliveryHandoff g .. | .scuDeliveryHandoff g .. | .rsuRovingHandoff g ..
  | .monitoredBreak g => g == f
  | _ => false

/-- What each unit takes of a frame before its disable. -/
def State.readyToDisable (f : FrameId) (s : State) : State := ((s.spuReady f).smuReady f).pcdReadyFor f

/-- The disable of a frame, its entry already in force, unit by unit; the zones whose robots lost work are re-evaluated last
(R22, R100; log 16). -/
def State.disableFrame (f : FrameId) (s : State) : State :=
  let zones := (s.robotsOn f).map s.robotZone
  let s := (((s.abandonFrame f).disableCycle f).disableGroups f).disableMap f
  let s := { s with inFlight := s.inFlight.filter fun h => !discardedBy f h }
  s.reevaluateZones zones

/-- The effects of a write to the Frame Table (R20 to R23). -/
def State.commitFrame (f : FrameId) (e : FrameEntry) (s : State) : State :=
  let old := (s.entry f).enabled
  if old = 0 ∧ e.enabled = 1 then (s.setEntry f e).enableFrame f
  else if old = 1 ∧ e.enabled = 0 then ((s.readyToDisable f).setEntry f e).disableFrame f
  else s.setEntry f e

def State.writeFrame (seq index mask : Nat) (values : List Byte) (s : State) : State :=
  if h : index < 48 then
    let f : FrameId := ⟨index, h⟩
    let old := s.entry f
    s.maskedWrite seq frameWidths old.fields mask values fun vals s =>
      let e := FrameEntry.ofFields vals
      s.judgeWrite seq (s.enabled f && locksFrame mask) (s.frameConds e)
        (old.enabled == 1 && e.enabled == 0 && s.frameState f == .doffing) (State.commitFrame f e)
  else s.refuse seq .badIndex

/-! ### Article Table (R24) -/

/-- The ranges and conditions of Table 2-4. -/
def Article.conds (a : Article) : List Bool :=
  [between 0 a.defined 1, between 1 a.density 200000, between 256 a.draft 25600, between 1000 a.doffTarget 50000000,
   between 0 a.startUp 100000, between 0 a.degree 5, true,
   between 0 a.minRpm 30000 && between 0 a.maxRpm 30000 && decide (a.minRpm ≤ a.maxRpm), between 0 a.speedStep 25,
   between 1000 a.interval 1000000, between 1 a.highThreshold 255,
   between 0 a.lowThreshold 254 && decide (a.lowThreshold < a.highThreshold), between 1 a.quietIntervals 15,
   between 1 a.attemptLimit 8, between 2 a.repeatLimit 15, between 0 a.lowMark 4000000]

/-- Whether an article is the article or the next article of an enabled frame (R24). -/
def State.articleInUse (s : State) (a : Nat) : Bool :=
  (List.finRange 48).any fun f => s.enabled f && ((s.entry f).article == a || (s.entry f).nextArticle == a)

def State.writeArticle (seq index mask : Nat) (values : List Byte) (s : State) : State :=
  if h : index < 16 then
    let a : ArticleId := ⟨index, h⟩
    s.maskedWrite seq articleWidths (s.store.articles.get a).fields mask values fun vals s =>
      let e := Article.ofFields vals
      s.judgeWrite seq (s.articleInUse index) e.conds false fun s =>
        { s with store := { s.store with articles := s.store.articles.set a e } }
  else s.refuse seq .badIndex

/-! ### Zone, Robot, Doffer and Carrier Tables (R25 to R28) -/

/-- Whether any element of a list comes twice. -/
def repeats : List Nat → Bool
  | [] => false
  | a :: rest => rest.contains a || repeats rest

/-- Whether an aisle byte stands in the patrol list of a zone other than `z`. -/
def State.inOtherZone (s : State) (z : ZoneId) (a : Nat) : Bool :=
  (List.finRange 8).any fun y => y != z && (s.patrol y).any fun b => b.val == a

def State.writeZone (seq index mask : Nat) (values : List Byte) (s : State) : State :=
  if h : index < 8 then
    let z : ZoneId := ⟨index, h⟩
    s.maskedWrite seq zoneWidths (s.store.zones.get z).fields mask values fun vals s =>
      let count := vals.getD 0 0 / 256 ^ 16
      let listed := (patrolSlots (vals.getD 0 0)).take count
      let occupied := count == 0 && (List.finRange 12).any fun k =>
        (s.store.robots.get k).enabled == 1 && s.robotZone k == z
      s.judgeWrite seq (listed.any (s.inOtherZone z) || occupied)
        [decide (count ≤ 16) && listed.all (fun a => decide (a < 64)) && !repeats listed, between 5 (vals.getD 1 0) 255,
         between 1 (vals.getD 2 0) 30]
        false
        fun s => { s with store := { s.store with zones := s.store.zones.set z (ZoneEntry.ofFields vals) } }
  else s.refuse seq .badIndex

/-- The effects of a write to the Robot Table (R26). -/
def State.commitRobot (k : RobotId) (e : RobotEntry) (s : State) : State :=
  let old := s.store.robots.get k
  let zone := s.robotZone k
  let store := fun s : State => { s with store := { s.store with robots := s.store.robots.set k e } }
  if old.enabled = 0 ∧ e.enabled = 1 then sendStateRequest (robotNode k) (store s)
  else if old.enabled = 1 ∧ e.enabled = 0 then ((store s).disableRobot k).reevaluate zone
  else store s

def State.writeRobot (seq index mask : Nat) (values : List Byte) (s : State) : State :=
  if h : index < 12 then
    let k : RobotId := ⟨index, h⟩
    let old := s.store.robots.get k
    s.maskedWrite seq robotWidths old.fields mask values fun vals s =>
      let e := RobotEntry.ofFields vals
      let s := s.pcdReadyRobot k
      let still := (s.robot k).state == .offline || (s.robot k).state == .parked
      let others := ((List.finRange 12).filter fun j =>
        j != k && (s.store.robots.get j).enabled == 1 && (s.store.robots.get j).zone == e.zone).length
      s.judgeWrite seq (e.zone != old.zone && !still)
        [between 0 e.enabled 1,
         between 0 e.zone 7
           && (e.enabled != 1
             || (decide (1 ≤ (s.store.zones.get (Fin.ofNat 8 e.zone)).count) && decide (others < 3)))]
        false (State.commitRobot k e)
  else s.refuse seq .badIndex

/-- The effects of a write to the Doffer Table (R27): the enable or disable, then the reach, so that a reach written in the
write that disables is in force at once (log 47). -/
def State.commitDoffer (d : DofferId) (mask : Nat) (e : DofferEntry) (s : State) : State :=
  let old := s.store.doffers.get d
  let s := { s with store := { s.store with doffers := s.store.doffers.set d e } }
  let s :=
    if old.enabled = 0 ∧ e.enabled = 1 then sendStateRequest (dofferNode d) s
    else if old.enabled = 1 ∧ e.enabled = 0 then s.disableDoffer d
    else s
  if selects mask 1 then s.writeReach d e.reach else s

def State.writeDoffer (seq index mask : Nat) (values : List Byte) (s : State) : State :=
  if h : index < 8 then
    let d : DofferId := ⟨index, h⟩
    let old := s.store.doffers.get d
    s.maskedWrite seq dofferWidths old.fields mask values fun vals s =>
      let e := DofferEntry.ofFields vals
      s.judgeWrite seq false [between 0 e.enabled 1, true, between 1 e.timeout 60]
        (old.enabled == 1 && e.enabled == 0 && (s.doffer d).state == .doffing) (State.commitDoffer d mask e)
  else s.refuse seq .badIndex

/-- The effects of a write to the Carrier Table (R28). -/
def State.commitCarrier (c : CarrierId) (e : CarrierEntry) (s : State) : State :=
  let old := s.store.carriers.get c
  let s := { s with store := { s.store with carriers := s.store.carriers.set c e } }
  if old.enabled = 0 ∧ e.enabled = 1 then sendStateRequest (carrierNode c) s
  else if old.enabled = 1 ∧ e.enabled = 0 then s.disableCarrier c
  else s

def State.writeCarrier (seq index mask : Nat) (values : List Byte) (s : State) : State :=
  if h : index < 8 then
    let c : CarrierId := ⟨index, h⟩
    s.maskedWrite seq carrierWidths (s.store.carriers.get c).fields mask values fun vals s =>
      let e := CarrierEntry.ofFields vals
      s.judgeWrite seq false [between 0 e.enabled 1, between 1 e.travelTimeout 30, between 1 e.changeTimeout 30] false
        (State.commitCarrier c e)
  else s.refuse seq .badIndex

/-! ### Line Settings and Disposition Table (R29, R10) -/

/-- The effects of a write to the Line Settings: the SSU has the new levels at once (R29, R183). -/
def State.commitSettings (e : Settings) (s : State) : State :=
  { s with store := { s.store with settings := e } }.settleSupply

def State.writeSettings (seq index mask : Nat) (values : List Byte) (s : State) : State :=
  if index = 0 then
    s.maskedWrite seq settingsWidths s.store.settings.fields mask values fun vals s =>
      let e := Settings.ofFields vals
      s.judgeWrite seq false
        [decide (vals.getD 0 0 < 2048), between 1 e.stopTimeout 60, between 0 e.warnLevel 7, between 0 e.warnMode 2] false
        (State.commitSettings e)
  else s.refuse seq .badIndex

def State.writeDisposition (seq index mask : Nat) (values : List Byte) (s : State) : State :=
  if h : index < 256 then
    let k : Fin 256 := ⟨index, h⟩
    s.maskedWrite seq dispositionWidths (s.link.disposition.get k).fields mask values fun vals s =>
      let e := Disposition.ofFields vals
      s.judgeWrite seq false
        [between 0 (vals.getD 0 0) 1,
         between 0 (vals.getD 1 0) 1 && !(e.pass && decide (0x20 ≤ index) && decide (index ≤ 0x30))]
        false
        fun s => { s with link := { s.link with disposition := s.link.disposition.set k e } }
  else s.refuse seq .badIndex

/-- A TABLE-WRITE, by its table number (R17, R18 step 1). -/
def State.writeTable (seq table index mask : Nat) (values : List Byte) (s : State) : State :=
  match table with
  | 0 => s.writeFrame seq index mask values
  | 1 => s.writeArticle seq index mask values
  | 2 => s.writeZone seq index mask values
  | 3 => s.writeRobot seq index mask values
  | 4 => s.writeDoffer seq index mask values
  | 5 => s.writeCarrier seq index mask values
  | 6 => s.writeSettings seq index mask values
  | 7 => s.writeDisposition seq index mask values
  | _ => s.refuse seq .badTable

/-! ### TABLE-READ (R19) -/

/-- The data of an entry, if the table has it. -/
def State.entryBytes (s : State) (table index : Nat) : Option (List Byte) :=
  match table with
  | 0 => if h : index < 48 then some (fieldBytes frameWidths (s.entry ⟨index, h⟩).fields) else none
  | 1 =>
    if index < 32 then
      let vals := (s.store.articles.get (Fin.ofNat 16 index)).fields
      if index < 16 then
        some (fieldBytes (articleWidths.take 6 ++ articleWidths.drop 7) (vals.take 6 ++ vals.drop 7))
      else some (fieldBytes [1, 24] [vals.getD 5 0, vals.getD 6 0])
    else none
  | 2 => if h : index < 8 then some (fieldBytes zoneWidths (s.store.zones.get ⟨index, h⟩).fields) else none
  | 3 => if h : index < 12 then some (fieldBytes robotWidths (s.store.robots.get ⟨index, h⟩).fields) else none
  | 4 => if h : index < 8 then some (fieldBytes dofferWidths (s.store.doffers.get ⟨index, h⟩).fields) else none
  | 5 => if h : index < 8 then some (fieldBytes carrierWidths (s.store.carriers.get ⟨index, h⟩).fields) else none
  | 6 => if index = 0 then some (fieldBytes settingsWidths s.store.settings.fields) else none
  | _ => if h : index < 256 then some (fieldBytes dispositionWidths (s.link.disposition.get ⟨index, h⟩).fields) else none

def State.readTable (seq table index : Nat) (s : State) : State :=
  if 7 < table then s.refuse seq .badTable
  else
    match s.entryBytes table index with
    | some data => s.replyOk seq data
    | none => s.refuse seq .badIndex

/-! ### The rows -/

/-- TABLE_WRITE: a TABLE-WRITE without a row of its own (R18). -/
def execTableWrite (seq table index mask : Nat) (values : List Byte) (s : State) : Host.Outcome State Fault Refusal :=
  .next (s.management (State.writeTable seq table index mask values))

/-- FRAME_ENABLE (R20, R21). -/
def execFrameEnable (seq index mask : Nat) (values : List Byte) (s : State) : Host.Outcome State Fault Refusal :=
  .next (s.management (State.writeTable seq 0 index (mask + 1) (1#8 :: values)))

/-- FRAME_DISABLE (R20, R22). -/
def execFrameDisable (seq index mask : Nat) (values : List Byte) (s : State) : Host.Outcome State Fault Refusal :=
  .next (s.management (State.writeTable seq 0 index (mask + 1) (0#8 :: values)))

/-- FRAME_TABLE_WRITE (R20, R23). -/
def execFrameTableWrite (seq index mask : Nat) (values : List Byte) (s : State) : Host.Outcome State Fault Refusal :=
  .next (s.management (State.writeTable seq 0 index mask values))

/-- ARTICLE_TABLE_WRITE (R24). -/
def execArticleTableWrite (seq index mask : Nat) (values : List Byte) (s : State) : Host.Outcome State Fault Refusal :=
  .next (s.management (State.writeTable seq 1 index mask values))

/-- ZONE_TABLE_WRITE (R25). -/
def execZoneTableWrite (seq index mask : Nat) (values : List Byte) (s : State) : Host.Outcome State Fault Refusal :=
  .next (s.management (State.writeTable seq 2 index mask values))

/-- ROBOT_ENABLE (R26). -/
def execRobotEnable (seq index mask : Nat) (values : List Byte) (s : State) : Host.Outcome State Fault Refusal :=
  .next (s.management (State.writeTable seq 3 index (mask + 1) (1#8 :: values)))

/-- ROBOT_DISABLE (R26, R105). -/
def execRobotDisable (seq index mask : Nat) (values : List Byte) (s : State) : Host.Outcome State Fault Refusal :=
  .next (s.management (State.writeTable seq 3 index (mask + 1) (0#8 :: values)))

/-- ROBOT_ZONE_CHANGE (R26). -/
def execRobotZoneChange (seq index zone : Nat) (s : State) : Host.Outcome State Fault Refusal :=
  .next (s.management (State.writeTable seq 3 index 2 (beBytes 1 zone)))

/-- DOFFER_ENABLE (R27). -/
def execDofferEnable (seq index mask : Nat) (values : List Byte) (s : State) : Host.Outcome State Fault Refusal :=
  .next (s.management (State.writeTable seq 4 index (mask + 1) (1#8 :: values)))

/-- DOFFER_DISABLE (R27). -/
def execDofferDisable (seq index mask : Nat) (values : List Byte) (s : State) : Host.Outcome State Fault Refusal :=
  .next (s.management (State.writeTable seq 4 index (mask + 1) (0#8 :: values)))

/-- DOFFER_REACH_WRITE (R27). -/
def execDofferReachWrite (seq index reach : Nat) (s : State) : Host.Outcome State Fault Refusal :=
  .next (s.management (State.writeTable seq 4 index 2 (beBytes 6 reach)))

/-- CARRIER_ENABLE (R28). -/
def execCarrierEnable (seq index mask : Nat) (values : List Byte) (s : State) : Host.Outcome State Fault Refusal :=
  .next (s.management (State.writeTable seq 5 index (mask + 1) (1#8 :: values)))

/-- CARRIER_DISABLE (R28). -/
def execCarrierDisable (seq index mask : Nat) (values : List Byte) (s : State) : Host.Outcome State Fault Refusal :=
  .next (s.management (State.writeTable seq 5 index (mask + 1) (0#8 :: values)))

/-- LINE_SETTINGS_WRITE (R29). -/
def execLineSettingsWrite (seq index mask : Nat) (values : List Byte) (s : State) : Host.Outcome State Fault Refusal :=
  .next (s.management (State.writeTable seq 6 index mask values))

/-- DISPOSITION_TABLE_WRITE (R10). -/
def execDispositionTableWrite (seq index mask : Nat) (values : List Byte) (s : State) :
    Host.Outcome State Fault Refusal :=
  .next (s.management (State.writeTable seq 7 index mask values))

/-- TABLE_READ (R19). -/
def execTableRead (seq table index : Nat) (s : State) : Host.Outcome State Fault Refusal :=
  .next (s.management (State.readTable seq table index))

end Sys2Proof.Machine
end

