-- ==== Sys2Proof/Machine/Management.lean ====
section
/-! DEFINITION. The other management telegrams (spec/02): reads of records and lists (R30 to R32), passed requests (R33),
FRAME-CMD (R34), PART-RESET (R35) and FLAGS-READ (R37). -/

namespace Sys2Proof.Machine

/-! ### STATE-READ (R30, Tables 2-7 and 2-8) -/

/-- An optional number in one byte, 0xFF for none. -/
def optByte (v : Option Nat) : List Byte := beBytes 1 (v.getD 0xFF)

/-- Milliseconds remaining to a deadline, 0xFFFFFFFF when none runs. -/
def State.leftBytes (s : State) (deadline : Option Nat) : List Byte :=
  match deadline with
  | some t => beBytes 4 (s.left t)
  | none => beBytes 4 0xFFFFFFFF

def flagByte (b : Bool) : List Byte := beBytes 1 (if b then 1 else 0)

/-- Class 0. -/
def State.frameData (s : State) (f : FrameId) : List Byte :=
  let c := s.cycle f
  let d := s.deliveryRecord f
  let v := s.speed f
  beBytes 1 c.state.code ++ optByte (c.cause.map HoldCause.code) ++ optByte (c.claim.map Fin.val)
    ++ beBytes 1 (s.entry f).article ++ beBytes 1 (s.entry f).nextArticle ++ beBytes 4 d.cop ++ beBytes 2 d.fill
    ++ beBytes 4 c.startUp ++ flagByte d.baseline ++ beBytes 1 v.level ++ beBytes 2 (v.lastRpm.getD 0xFFFF)
    ++ beBytes 2 (s.map f).running ++ beBytes 2 (s.map f).populated ++ beBytes 1 v.flagByte

/-- How many bytes of a robot's data belong to an absent assignment or fault (log 13). -/
def Robot.openBytes (r : Robot) : Nat :=
  (if r.assignment.isSome then 0 else 4) + (match r.faultRecord with | .none => 4 | .assignment .. => 0 | .move _ => 3)

/-- Class 1; `free` are the bytes of what is absent, the satisfied byte of an absent assignment being 0 or 1 (Table 2-7; log
13). -/
def State.robotData (s : State) (k : RobotId) (free : List Byte) : List Byte :=
  let r := s.robot k
  let work :=
    match r.assignment with
    | some x => beBytes 1 x.frame.val ++ beBytes 1 x.side.code ++ beBytes 2 x.index ++ flagByte x.satisfied
    | none => beBytes 1 0xFF ++ free.take 3 ++ [free.getD 3 0 &&& 1]
  let rest := if r.assignment.isSome then free else free.drop 4
  let fault :=
    match r.faultRecord with
    | .none => beBytes 1 0 ++ rest
    | .assignment f side i => beBytes 1 1 ++ beBytes 1 f.val ++ beBytes 1 side.code ++ beBytes 2 i
    | .move a => beBytes 1 2 ++ optByte (a.map Fin.val) ++ rest
  beBytes 1 r.state.code ++ beBytes 1 (s.robotZone k).val ++ optByte (r.aisle.map Fin.val) ++ beBytes 2 r.position
    ++ flagByte (r.sweep == .down) ++ work ++ s.leftBytes r.deadline ++ fault

/-- Class 2. -/
def State.dofferData (s : State) (d : DofferId) : List Byte :=
  let r := s.doffer d
  beBytes 1 r.state.code ++ optByte (r.frame.map Fin.val) ++ beBytes 6 r.reach.toNat ++ flagByte r.reachPending.isSome
    ++ s.leftBytes r.timer

/-- Class 3. -/
def State.carrierData (s : State) (c : CarrierId) : List Byte :=
  let r := s.carrier c
  beBytes 1 r.state.code ++ optByte (r.trip.map fun p => p.1.val) ++ optByte (r.trip.map fun p => p.2.val)
    ++ beBytes 4 r.load ++ s.leftBytes r.timer

/-- Class 4; `free` are the two bytes of an absent sequence. -/
def State.groupData (s : State) (f : FrameId) (g : GroupId) (free : List Byte) : List Byte :=
  match s.groupRecord f g with
  | some r =>
    beBytes 4 r.remaining ++ beBytes 1 r.state.code ++ beBytes 1 (s.level f g).code ++ flagByte r.sequence.isSome
      ++ (match r.sequence with | some q => beBytes 2 q.toNat | none => free) ++ optByte (r.carrier.map Fin.val)
  | none => []

/-- Class 5. -/
def State.aisleData (s : State) (a : AisleId) : List Byte :=
  let r := s.aisleRecord a
  (match r.holder with
    | .none => beBytes 1 0 ++ beBytes 1 0xFF
    | .robot k => beBytes 1 1 ++ beBytes 1 k.val
    | .doffer d => beBytes 1 2 ++ beBytes 1 d.val)
    ++ optByte (r.reservedBy.map Fin.val) ++ optByte ((s.zoneOf a).map Fin.val)

/-- A reply whose data draw `n` free bytes. -/
def State.replyDrawing (seq n : Nat) (data : List Byte → List Byte) (s : State) : State :=
  (s.drew n).replyOk seq (data (s.freeBytes n))

/-- A STATE-READ (R30). What the owning units take before any later event for the object is taken first (log 27). -/
def State.readState (seq cls index : Nat) (s : State) : State :=
  match cls with
  | 0 =>
    if h : index < 48 then
      let f : FrameId := ⟨index, h⟩
      let s := (s.spuReady f).smuReady f
      s.replyOk seq (s.frameData f)
    else s.refuse seq .badIndex
  | 1 =>
    if h : index < 12 then
      let k : RobotId := ⟨index, h⟩
      let s := s.pcdReadyRobot k
      s.replyDrawing seq (s.robot k).openBytes (s.robotData k)
    else s.refuse seq .badIndex
  | 2 => if h : index < 8 then s.replyOk seq (s.dofferData ⟨index, h⟩) else s.refuse seq .badIndex
  | 3 => if h : index < 8 then s.replyOk seq (s.carrierData ⟨index, h⟩) else s.refuse seq .badIndex
  | 4 =>
    if s.frameEnabled (index / 32) = true ∧ (s.entry (frameAt (index / 32))).hasGroup (index % 32) = true then
      let f := frameAt (index / 32)
      let g : GroupId := Fin.ofNat 32 (index % 32)
      let n := match (s.groupRecord f g).bind Group.sequence with | some _ => 0 | none => 2
      s.replyDrawing seq n (s.groupData f g)
    else s.refuse seq .badIndex
  | 5 => if h : index < 64 then s.replyOk seq (s.aisleData ⟨index, h⟩) else s.refuse seq .badIndex
  | _ => s.badValue seq 1

/-- STATE_READ (R30). -/
def execStateRead (seq cls index : Nat) (s : State) : Host.Outcome State Fault Refusal :=
  .next (s.management (State.readState seq cls index))

/-! ### MAP-READ (R31) -/

/-- State codes two to a byte, the first in the high half. -/
def packCodes : List Nat → List Byte
  | [] => []
  | [a] => beBytes 1 (a * 16)
  | a :: b :: rest => beBytes 1 (a * 16 + b) ++ packCodes rest

def State.mapData (s : State) (f : FrameId) (side : Side) (first count : Nat) (detail : Bool) : List Byte :=
  let sps := (List.range count).map fun j => s.spindle f side (first + j)
  if detail then sps.flatMap fun sp => beBytes 1 sp.state.code ++ beBytes 1 (sp.attempts * 16 + sp.repeats)
  else packCodes (sps.map fun sp => sp.state.code)

def State.readMap (seq frame side first count : Nat) (s : State) : State :=
  if 47 < frame then s.refuse seq .badIndex
  else if side ≠ 0 ∧ side ≠ 1 ∧ side ≠ 0x80 ∧ side ≠ 0x81 then s.badValue seq 2
  else if count = 0 ∨ (if side < 0x80 then 64 else 19) < count then s.badValue seq 4
  else
    let f := frameAt frame
    let sd := sideAt (side % 0x80)
    if (s.entry f).length sd < first + count then s.refuse seq .badIndex
    else
      let s := s.smuReady f
      s.replyOk seq (s.mapData f sd first count (decide (0x80 ≤ side)))

/-- MAP_READ (R31). -/
def execMapRead (seq frame side first count : Nat) (s : State) : Host.Outcome State Fault Refusal :=
  .next (s.management (State.readMap seq frame side first count))

/-! ### LIST-READ (R32, Table 2-9) -/

/-- The most entries that one LIST-READ of a list gives. -/
def listLimit : Nat → Nat
  | 0 => 4
  | 1 => 37
  | 2 => 5
  | _ => 4

/-- A rogue list entry; `free` are the bytes of seconds that 4 bytes do not hold (log 15). -/
def rogueBytes (e : RogueEntry) (free : List Byte) : List Byte :=
  beBytes 1 e.frame.val ++ beBytes 1 e.side.code ++ beBytes 2 e.index ++ beBytes 1 e.cause.code
    ++ (if e.seconds < 2 ^ 32 then beBytes 4 e.seconds else free)

def State.listLength (s : State) : Nat → Nat
  | 0 => s.smu.rogues.length
  | 1 => s.dcu.queue.length
  | 2 => s.rsu.set.length
  | _ => s.pcd.verify.length

/-- The entries of a list from position `first`, up to `count`; `free` are free bytes, four to an entry. -/
def State.listEntries (s : State) (list first count : Nat) (free : List Byte) : List Byte :=
  match list with
  | 0 => ((s.smu.rogues.drop first).take count).zipIdx.flatMap fun (e, j) => rogueBytes e ((free.drop (4 * j)).take 4)
  | 1 => ((s.dcu.queue.drop first).take count).flatMap fun f => beBytes 1 f.val
  | 2 =>
    ((s.rsu.set.drop first).take count).flatMap fun e =>
      beBytes 1 e.frame.val ++ beBytes 1 e.group.val ++ beBytes 2 e.sequence.toNat ++ beBytes 3 (s.remaining e.frame e.group)
  | _ =>
    ((s.pcd.verify.drop first).take count).flatMap fun e =>
      beBytes 1 e.frame.val ++ beBytes 1 e.side.code ++ beBytes 2 e.index ++ beBytes 4 (s.left e.deadline)

/-- The free bytes that a LIST-READ draws. -/
def State.listOpen (s : State) (list first count : Nat) : Nat :=
  if list = 0 ∧ ((s.smu.rogues.drop first).take count).any (fun e => decide (2 ^ 32 ≤ e.seconds)) = true then 4 * count else 0

def State.readList (seq list first count : Nat) (s : State) : State :=
  if 3 < list then s.badValue seq 1
  else if count = 0 ∨ listLimit list < count then s.badValue seq 3
  else s.replyDrawing seq (s.listOpen list first count) fun free =>
    beBytes 1 (s.listLength list) ++ s.listEntries list first count free

/-- LIST_READ (R32). -/
def execListRead (seq list first count : Nat) (s : State) : Host.Outcome State Fault Refusal :=
  .next (s.management (State.readList seq list first count))

/-! ### Passed requests (R33) -/

/-- The reply to a request that a unit has taken with a result. -/
def State.answer (seq : Nat) : Result × State → State
  | (result, s) => s.reply seq result 0 []

def State.releaseSpindle (seq frame side index : Nat) (s : State) : State :=
  if 47 < frame then s.refuse seq .badIndex
  else if s.frameEnabled frame = false then s.refuse seq .badState
  else if 1 < side then s.badValue seq 2
  else if (s.entry (frameAt frame)).length (sideAt side) ≤ index then s.refuse seq .badIndex
  else State.answer seq (s.release (frameAt frame) (sideAt side) index)

/-- RELEASE_SPINDLE (R33, R77). -/
def execReleaseSpindle (seq frame side index : Nat) (s : State) : Host.Outcome State Fault Refusal :=
  .next (s.management (State.releaseSpindle seq frame side index))

/-- Every link counter is set to 0 (R15). -/
def State.clearCounters (s : State) : State := { s with link := { s.link with counters := .fill 12 0 } }

def State.readCounts (seq frame record clear : Nat) (s : State) : State :=
  if 47 < frame ∧ frame ≠ 0xFF then s.refuse seq .badIndex
  else if 3 < record then s.badValue seq 2
  else if 1 < clear then s.badValue seq 3
  else
    let data := if frame = 0xFF then s.lineCounts record else s.frameCounts (frameAt frame) record
    (if clear = 1 then s.clearCounters else s).replyOk seq data

/-- COUNTS_READ (R33, R180, R181). -/
def execCountsRead (seq frame record clear : Nat) (s : State) : Host.Outcome State Fault Refusal :=
  .next (s.management (State.readCounts seq frame record clear))

/-- SHIFT_CLOSE (R176, R177). -/
def execShiftClose (seq shift : Nat) (s : State) : Host.Outcome State Fault Refusal :=
  .next (s.management fun s =>
    if s.ssu.snapshot then s.refuse seq .busy else (s.closeShift shift).replyOk seq [])

/-! ### FRAME-CMD (R34) -/

/-- The checks of a FRAME-CMD of command code `command`, then the frame's own unit (R34). -/
def State.frameCmd (seq frame command : Nat) (k : FrameId → State → State) (s : State) : State :=
  if 47 < frame then s.refuse seq .badIndex
  else if 3 < command then s.badValue seq 2
  else if s.frameEnabled frame = false then s.refuse seq .badState
  else k (frameAt frame) s

/-- HOLD (R34, R136). -/
def execHold (seq frame command : Nat) (s : State) : Host.Outcome State Fault Refusal :=
  .next (s.management (State.frameCmd seq frame command fun f s => State.answer seq (s.takeHold f)))

/-- RESUME (R34, R137). -/
def execResume (seq frame : Nat) (s : State) : Host.Outcome State Fault Refusal :=
  .next (s.management (State.frameCmd seq frame 1 fun f s => State.answer seq (s.takeResume f)))

/-- DOFF_NOW (R34, R124). -/
def execDoffNow (seq frame : Nat) (s : State) : Host.Outcome State Fault Refusal :=
  .next (s.management (State.frameCmd seq frame 2 fun f s => State.answer seq (s.takeDoffNow f)))

/-- GROUP_LOADED (R34, R166). -/
def execGroupLoaded (seq frame group length : Nat) (s : State) : Host.Outcome State Fault Refusal :=
  .next (s.management (State.frameCmd seq frame 3 fun f s =>
    if (s.entry f).hasGroup group = false then s.badValue seq 3
    else if length < 1 ∨ 4000000 < length then s.badValue seq 4
    else State.answer seq (s.takeGroupLoaded f (Fin.ofNat 32 group) length)))

/-! ### FLAGS-READ (R37) and PART-RESET (R35) -/

/-- The 31 bytes of a FLAGS-READ (R37). -/
def State.flagsData (s : State) : List Byte :=
  beBytes 2 s.store.flags.toNat ++ beBytes 1 s.retention.cause.code ++ beBytes 1 s.retention.count
    ++ (match s.spu.firstFault with
        | some x => beBytes 1 x.frame.val ++ beBytes 1 x.article.val ++ beBytes 1 x.stage
        | none => beBytes 3 0xFFFFFF)
    ++ s.link.counters.items.flatMap fun n => beBytes 2 n

/-- What a clear empties (R37). -/
def State.clearFlags (s : State) : State :=
  { s with store := { s.store with flags := 0 } }.clearCounters.clearSpeedFlags

/-- FLAGS_READ (R37). -/
def execFlagsRead (seq clear : Nat) (s : State) : Host.Outcome State Fault Refusal :=
  .next (s.management fun s =>
    if 1 < clear then s.badValue seq 1
    else (if clear = 1 then s.clearFlags else s).replyOk seq s.flagsData)

/-- PART_RESET: the line reset begins once the reply has been sent, or at once where the queue refuses it (R35, R14). The
units take it as LINE_RESET, with the pins as they then read (R188; log 41). -/
def execPartReset (seq : Nat) (s : State) : Host.Outcome State Fault Refusal :=
  .next (s.management fun s =>
    let admitted := decide (s.link.upQueue.length < 64)
    let s := s.replyOk seq []
    { s with store := { s.store with resetWait := some (if admitted then s.link.upQueue.length else 0) } })

end Sys2Proof.Machine
end

