-- ==== Sys2Proof/Machine/Reset.lean ====
section
/-! DEFINITION. The resets (spec/11 R186 to R189): the line reset with every unit's line-reset values, the supply resets
with the restore, and the pins and supplies that lead to them. -/

namespace Sys2Proof.Machine

/-- STARTUP and the broadcast STATE-REQUEST of a reset (R53, R189). -/
def State.announce (outcome : Nat) (s : State) : State :=
  let s := s.sendUp 0x62
    (beBytes 1 s.store.lineNumber.val ++ beBytes 1 s.retention.cause.code ++ beBytes 1 outcome ++ beBytes 1 s.retention.count)
  sendStateRequest floorBroadcast s

/-- The reset count raised by 1, pegging at 255 (R189). -/
def Retention.recordReset (r : Retention) (cause : ResetCause) : Retention := { r with cause, count := min (r.count + 1) 255 }

/-! ### Line reset (R188) -/

/-- The LLU's part of a line reset: queues emptied, sequence counters 0, part commands blocked (R10, R12, R14, R15). -/
def Link.lineReset (l : Link) : Link :=
  { l with
    disposition := .build fun k =>
      let d := l.disposition.get k
      if 0x20 ≤ k.val ∧ k.val ≤ 0x30 then { d with pass := false } else d,
    upQueue := [], floorQueue := [], upSeq := 0, floorSeq := 0 }

/-- Each unit applies its line-reset values (R188); the SCU and the SSU keep theirs. -/
def State.applyLineReset (cause : ResetCause) (pins : Fin 32) (s : State) : State :=
  let s :=
    { s with
      link := s.link.lineReset, store := { s.store with resetWait := none, lineNumber := pins }, aou := .initial,
      retention := s.retention.recordReset cause, timer := 0, ticks := 0 }
  ((((s.lineResetDeliveries).lineResetMaps).lineResetRobots).lineResetCycles).lineResetSpeeds.lineResetGroups

/-- A line reset begins: from here to its STARTUP no telegram is heard and alarms are held (R188, R189). -/
def State.beginReset (s : State) : State := { s with store := { s.store with resetWait := some 0 } }

/-- A line reset: what is in flight is taken first, its telegrams entering the queues that the reset then empties; STARTUP
stands ahead of the alarms raised since the reset has begun and of those of the re-admissions (R152, R188, R189; log 55). -/
def State.lineReset (cause : ResetCause) (pins : Fin 32) (s : State) : State :=
  ((s.beginReset.settleHandoffs.applyLineReset cause pins).announce 0).offerHeld.readmit

/-- The line reset that a PART-RESET has begun is taken, if there is one (R188). -/
def State.takeBegun (pins : Fin 32) (s : State) : State :=
  if s.store.resetWait = some 0 then s.lineReset .lineCmd pins else s

/-- LINE_RESET, of cause LINE-CMD: the reset that a PART-RESET has begun, its reply sent or refused; without one there is
none to take (R35, R188; log 41). -/
def execLineReset (pins : Fin 32) (s : State) : Host.Outcome State Fault Refusal :=
  .next (s.whenOn (State.takeBegun pins))

/-- PIN_RESET: RSTN is taken low. A LINE-CMD reset that has begun is a reset of its own and is taken first; one that still waits
for its reply to be sent is merged into this one (R188; log 20). -/
def execPinReset (pins : Fin 32) (s : State) : Host.Outcome State Fault Refusal :=
  .next ({ s with rstnLow := true }.whenOn fun s => (s.takeBegun pins).lineReset .pin pins)

/-! ### Supply resets (R186, R187) -/

/-- Everything volatile is lost; the retention domain stays (R186). -/
def State.loseVolatile (s : State) : State :=
  State.blank s.store.lineNumber s.retention .heldBySupply s.rstnLow s.supply s.freeUses s.pending

/-- SUPPLY_FAIL: the fall through the warn level is taken first, then the part is held in reset (R186). A line reset that has
begun and that the units have not taken goes unrecorded (log 51). -/
def execSupplyFail (mv : Nat) (s : State) : Host.Outcome State Fault Refusal :=
  .next (if mv < Config.failLevel then (s.supplyAt mv).loseVolatile else s)

/-- The retention domain once a supply reset is classed: the intact mark set, cause and count recorded (R186, R189; log
44). -/
def Retention.classed (r : Retention) (dip : Bool) : Retention :=
  if dip then { r.recordReset .dip with intact := true }
  else { r with cause := .power, count := 0, valid := false, intact := true }

/-- Whether a supply reset of class DIP or not restores the records (R187). -/
def State.restores (s : State) (dip : Bool) : Bool := dip && s.retention.valid

/-- The outcome of the restore, applied to all 48 records together (R171, R187). -/
def State.restore (dip : Bool) (s : State) : State :=
  if s.restores dip then
    let s := { s with scu := { s.scu with current := s.retention.images.map Image.restore } }
    (s.setValid false).latch .restored
  else { s with scu := { s.scu with current := .fill 48 .lostRecord } }.latch .lost

/-- A supply reset of class DIP or not ends: the reset values, the restore, STARTUP, and only then a crossing (R186, R187,
R189). -/
def State.finishSupplyReset (dip : Bool) (pins : Fin 32) (s : State) : State :=
  let outcome := if s.restores dip then 1 else 2
  let s := State.blank pins s.retention .on false s.supply s.freeUses s.pending
  ((s.restore dip).announce outcome).settleSupply

/-- SUPPLY_RESET_EXIT: the reset is classed by the intact mark and recorded; RSTN low holds it (R186, R189; log 44). -/
def execSupplyResetExit (mv : Nat) (pins : Fin 32) (s : State) : Host.Outcome State Fault Refusal :=
  .next (if s.power = .heldBySupply ∧ Config.failLevel < mv then
      let dip := s.retention.intact
      let s := { s with supply := mv, retention := s.retention.classed dip }
      if s.rstnLow then { s with power := .heldByPin dip } else s.finishSupplyReset dip pins
    else s)

/-- RSTN_RISES: a supply reset that RSTN held ends (R186). -/
def execRstnRises (pins : Fin 32) (s : State) : Host.Outcome State Fault Refusal :=
  .next (match s.power with
    | .heldByPin dip => { s with rstnLow := false }.finishSupplyReset dip pins
    | .on | .heldBySupply => { s with rstnLow := false })

end Sys2Proof.Machine
end

