-- ==== Sys2Proof/Machine/Dispatch.lean ====
section
/-! DEFINITION. Each command's meaning, one arm per row of spec/opcode_table.json. -/

namespace Sys2Proof.Machine

/-- The effect of a command on everything but the queue of those that wait. -/
def exec (i : Instr) (s : State) : Host.Outcome State Fault Refusal :=
  match i with
  | .checkError port bytes => Sys2Proof.Machine.execCheckError port bytes s
  | .malformed port bytes => Sys2Proof.Machine.execMalformed port bytes s
  | .unknownNode port bytes => Sys2Proof.Machine.execUnknownNode port bytes s
  | .floorMaintenance bytes => Sys2Proof.Machine.execFloorMaintenance bytes s
  | .downTelegram bytes => Sys2Proof.Machine.execDownTelegram bytes s
  | .transmitComplete port => Sys2Proof.Machine.execTransmitComplete port s
  | .delivery node seq pulse => Sys2Proof.Machine.execDelivery node seq pulse s
  | .dcuDeliveryHandoff f dL target => Sys2Proof.Machine.execDcuDeliveryHandoff f dL target s
  | .spuDeliveryHandoff f dL fill => Sys2Proof.Machine.execSpuDeliveryHandoff f dL fill s
  | .scuDeliveryHandoff f dL r p mtex => Sys2Proof.Machine.execScuDeliveryHandoff f dL r p mtex s
  | .rsuRovingHandoff f dR => Sys2Proof.Machine.execRsuRovingHandoff f dR s
  | .breakReport node seq side index => Sys2Proof.Machine.execBreak node seq side index s
  | .runReport node seq side index => Sys2Proof.Machine.execRun node seq side index s
  | .sideState node seq side first count bits => Sys2Proof.Machine.execSideState node seq side first count bits s
  | .stopped node seq => Sys2Proof.Machine.execStopped node seq s
  | .robotReady node seq aisle position => Sys2Proof.Machine.execRobotReady node seq aisle position s
  | .robotPos node seq aisle position => Sys2Proof.Machine.execRobotPos node seq aisle position s
  | .pieced node seq frame side index => Sys2Proof.Machine.execPieced node seq frame side index s
  | .notPieced node seq frame side index cause => Sys2Proof.Machine.execNotPieced node seq frame side index cause s
  | .robotLeft node seq => Sys2Proof.Machine.execRobotLeft node seq s
  | .dofferReady node seq => Sys2Proof.Machine.execDofferReady node seq s
  | .doffDone node seq frame => Sys2Proof.Machine.execDoffDone node seq frame s
  | .dofferFault node seq => Sys2Proof.Machine.execDofferFault node seq s
  | .carrierReady node seq load => Sys2Proof.Machine.execCarrierReady node seq load s
  | .arrived node seq frame group => Sys2Proof.Machine.execArrived node seq frame group s
  | .changeDone node seq frame group => Sys2Proof.Machine.execChangeDone node seq frame group s
  | .carrierFault node seq => Sys2Proof.Machine.execCarrierFault node seq s
  | .tableWrite seq table index mask values => Sys2Proof.Machine.execTableWrite seq table index mask values s
  | .frameEnable seq index mask values => Sys2Proof.Machine.execFrameEnable seq index mask values s
  | .frameDisable seq index mask values => Sys2Proof.Machine.execFrameDisable seq index mask values s
  | .frameTableWrite seq index mask values => Sys2Proof.Machine.execFrameTableWrite seq index mask values s
  | .articleTableWrite seq index mask values => Sys2Proof.Machine.execArticleTableWrite seq index mask values s
  | .zoneTableWrite seq index mask values => Sys2Proof.Machine.execZoneTableWrite seq index mask values s
  | .robotEnable seq index mask values => Sys2Proof.Machine.execRobotEnable seq index mask values s
  | .robotDisable seq index mask values => Sys2Proof.Machine.execRobotDisable seq index mask values s
  | .robotZoneChange seq index zone => Sys2Proof.Machine.execRobotZoneChange seq index zone s
  | .dofferEnable seq index mask values => Sys2Proof.Machine.execDofferEnable seq index mask values s
  | .dofferDisable seq index mask values => Sys2Proof.Machine.execDofferDisable seq index mask values s
  | .dofferReachWrite seq index reach => Sys2Proof.Machine.execDofferReachWrite seq index reach s
  | .carrierEnable seq index mask values => Sys2Proof.Machine.execCarrierEnable seq index mask values s
  | .carrierDisable seq index mask values => Sys2Proof.Machine.execCarrierDisable seq index mask values s
  | .lineSettingsWrite seq index mask values => Sys2Proof.Machine.execLineSettingsWrite seq index mask values s
  | .dispositionTableWrite seq index mask values => Sys2Proof.Machine.execDispositionTableWrite seq index mask values s
  | .tableRead seq table index => Sys2Proof.Machine.execTableRead seq table index s
  | .stateRead seq cls index => Sys2Proof.Machine.execStateRead seq cls index s
  | .mapRead seq frame side first count => Sys2Proof.Machine.execMapRead seq frame side first count s
  | .listRead seq list first count => Sys2Proof.Machine.execListRead seq list first count s
  | .releaseSpindle seq frame side index => Sys2Proof.Machine.execReleaseSpindle seq frame side index s
  | .countsRead seq frame record clear => Sys2Proof.Machine.execCountsRead seq frame record clear s
  | .shiftClose seq shift => Sys2Proof.Machine.execShiftClose seq shift s
  | .hold seq frame command => Sys2Proof.Machine.execHold seq frame command s
  | .resume seq frame => Sys2Proof.Machine.execResume seq frame s
  | .doffNow seq frame => Sys2Proof.Machine.execDoffNow seq frame s
  | .groupLoaded seq frame group length => Sys2Proof.Machine.execGroupLoaded seq frame group length s
  | .flagsRead seq clear => Sys2Proof.Machine.execFlagsRead seq clear s
  | .partReset seq => Sys2Proof.Machine.execPartReset seq s
  | .lineReset pins => Sys2Proof.Machine.execLineReset pins s
  | .pinReset pins => Sys2Proof.Machine.execPinReset pins s
  | .supplyFail mv => Sys2Proof.Machine.execSupplyFail mv s
  | .supplyResetExit mv pins => Sys2Proof.Machine.execSupplyResetExit mv pins s
  | .vretLoss => Sys2Proof.Machine.execVretLoss s
  | .supplyFall mv => Sys2Proof.Machine.execSupplyFall mv s
  | .supplyRise mv => Sys2Proof.Machine.execSupplyRise mv s
  | .snapshotRead => Sys2Proof.Machine.execSnapshotRead s
  | .secondsTick => Sys2Proof.Machine.execSecondsTick s
  | .piecingDeadlineExpiry k => Sys2Proof.Machine.execPiecingDeadlineExpiry k s
  | .moveDeadlineExpiry k => Sys2Proof.Machine.execMoveDeadlineExpiry k s
  | .leavingDeadlineExpiry k => Sys2Proof.Machine.execLeavingDeadlineExpiry k s
  | .verifyDeadlineExpiry => Sys2Proof.Machine.execVerifyDeadlineExpiry s
  | .verifyExpiry f side index => Sys2Proof.Machine.execVerifyExpiry f side index s
  | .stopTimerExpiry f => Sys2Proof.Machine.execStopTimerExpiry f s
  | .doffTimerExpiry d => Sys2Proof.Machine.execDoffTimerExpiry d s
  | .travelTimerExpiry c => Sys2Proof.Machine.execTravelTimerExpiry c s
  | .changeTimerExpiry c => Sys2Proof.Machine.execChangeTimerExpiry c s
  | .piecingRequest f side index verify => Sys2Proof.Machine.execPiecingRequest f side index verify s
  | .failureRequest f side index => Sys2Proof.Machine.execFailureRequest f side index s
  | .withdrawRequest f side index => Sys2Proof.Machine.execWithdrawRequest f side index s
  | .smuPiecingCancel f => Sys2Proof.Machine.execSmuPiecingCancel f s
  | .pcdPiecingCancel f => Sys2Proof.Machine.execPcdPiecingCancel f s
  | .starveGroup f g => Sys2Proof.Machine.execStarveGroup f g s
  | .spindleDoffCompletion f => Sys2Proof.Machine.execSpindleDoffCompletion f s
  | .verifyEntryRemove f side index => Sys2Proof.Machine.execVerifyEntryRemove f side index s
  | .satisfiedNotice f side index => Sys2Proof.Machine.execSatisfiedNotice f side index s
  | .brokenNotice f side index => Sys2Proof.Machine.execBrokenNotice f side index s
  | .frameRunningNotice f => Sys2Proof.Machine.execFrameRunningNotice f s
  | .groupReevaluation f g => Sys2Proof.Machine.execGroupReevaluation f g s
  | .freeAisleNotice a => Sys2Proof.Machine.execFreeAisleNotice a s
  | .robotRelease k a => Sys2Proof.Machine.execRobotRelease k a s
  | .lastAssignedNotice f g => Sys2Proof.Machine.execLastAssignedNotice f g s
  | .robotRecall k a => Sys2Proof.Machine.execRobotRecall k a s
  | .dofferReservation d f => Sys2Proof.Machine.execDofferReservation d f s
  | .dofferRelease d => Sys2Proof.Machine.execDofferRelease d s
  | .aislesHeldNotice d f => Sys2Proof.Machine.execAislesHeldNotice d f s
  | .dauDoffCompletion f switched => Sys2Proof.Machine.execDauDoffCompletion f switched s
  | .spuDoffCompletion f switched => Sys2Proof.Machine.execSpuDoffCompletion f switched s
  | .spuResumeRequest f restart => Sys2Proof.Machine.execSpuResumeRequest f restart s
  | .monitoredBreak f => Sys2Proof.Machine.execMonitoredBreak f s
  | .scuBreak f => Sys2Proof.Machine.execScuBreak f s
  | .scuRovingEndBreak f => Sys2Proof.Machine.execScuRovingEndBreak f s
  | .scuRogueEvent f => Sys2Proof.Machine.execScuRogueEvent f s
  | .scuSuccessfulPiecing f => Sys2Proof.Machine.execScuSuccessfulPiecing f s
  | .scuFailedPiecing f => Sys2Proof.Machine.execScuFailedPiecing f s
  | .scuDoff f => Sys2Proof.Machine.execScuDoff f s
  | .scuStoppedSecond f => Sys2Proof.Machine.execScuStoppedSecond f s
  | .scuDoffWaitSecond f => Sys2Proof.Machine.execScuDoffWaitSecond f s
  | .rstnRises pins => Sys2Proof.Machine.execRstnRises pins s

end Sys2Proof.Machine
end

