-- ==== Sys2Proof/Machine/Step.lean ====
section
/-! DEFINITION. One step: the command at the front of the queue, or, with none waiting, what the part does of itself
(log 4); how a received telegram and a table word become commands. -/

namespace Sys2Proof.Machine

/-! ### What is due (spec/00 section 0.7) -/

/-- The running deadline of a robot with the command that is its passing (R79). -/
def State.robotDue (s : State) (k : RobotId) : List (Nat × Instr) :=
  match (s.robot k).deadline, (s.robot k).state with
  | some t, .piecing => [(t, .piecingDeadlineExpiry k)]
  | some t, .moving => [(t, .moveDeadlineExpiry k)]
  | some t, .leaving => [(t, .leavingDeadlineExpiry k)]
  | _, _ => []

/-- The stop timer of a frame (R126). -/
def State.stopDue (s : State) (f : FrameId) : List (Nat × Instr) :=
  match (s.cycle f).stopTimer, (s.cycle f).state with
  | some t, .stopping => [(t, .stopTimerExpiry f)]
  | _, _ => []

/-- The doff timer of a doffer (R134). -/
def State.doffDue (s : State) (d : DofferId) : List (Nat × Instr) :=
  match (s.doffer d).timer, (s.doffer d).frame, (s.doffer d).state with
  | some t, some _, .doffing => [(t, .doffTimerExpiry d)]
  | _, _, _ => []

/-- The timer of a carrier (R165). -/
def State.carrierDue (s : State) (c : CarrierId) : List (Nat × Instr) :=
  match (s.carrier c).timer, (s.carrier c).trip, (s.carrier c).state with
  | some t, some _, .travel => [(t, .travelTimerExpiry c)]
  | some t, some _, .changing => [(t, .changeTimerExpiry c)]
  | _, _, _ => []

/-- Every running timer, with the next seconds tick, and the command that is its passing. DESIGN CHOICE (log 4): R138
lets a seconds tick and a change of frame state that come together be taken in either order, and no rule orders the timers of
different records; of equal values the model takes the one that stands first here: the seconds tick, then the robots, the
verify list, the stop timers, the doff timers and the carriers, each in ascending number. -/
def State.timers (s : State) : List (Nat × Instr) :=
  (seconds (s.ticks + 1), .secondsTick) ::
    ((List.finRange 12).flatMap s.robotDue
      ++ (match s.pcd.verify with | [] => [] | e :: _ => [(e.deadline, Instr.verifyDeadlineExpiry)])
      ++ (List.finRange 48).flatMap s.stopDue ++ (List.finRange 8).flatMap s.doffDue
      ++ (List.finRange 8).flatMap s.carrierDue)

/-- The earliest timer that the line timer has reached, the first in the order of `State.timers` of equals (DESIGN CHOICE, log
4). -/
def State.due (s : State) : Option Instr :=
  (firstLeast (fun p : Nat × Instr => p.1) (s.timers.filter fun p => decide (p.1 ≤ s.timer))).map Prod.snd

/-- What the part does next of itself: the line reset that has begun, then the oldest hand-off in flight, then the next
read of a snapshot, then what is due. -/
def State.nextInternal (s : State) : Option Instr :=
  if s.store.resetWait = some 0 then some (.lineReset s.freePins)
  else
    match s.inFlight with
    | h :: _ => some h
    | [] => if s.ssu.snapshot then some .snapshotRead else s.due

/-- A line reset that the part begins of itself draws a reading of the pins (log 41). -/
def State.drawPins (s : State) : State := if s.store.resetWait = some 0 then s.drew 1 else s

/-- A step with no command waiting: held in reset the part idles; otherwise it takes its own next event, or a millisecond
passes (log 4). -/
def State.idle (s : State) : Host.Outcome State Fault Refusal :=
  if s.power = .on then
    match s.nextInternal with
    | some c => Sys2Proof.Machine.exec c s.drawPins
    | none => .next { s with timer := timerReading (s.timer + 1) }
  else .next s

/-- One step. -/
def step (s : State) : Host.Outcome State Fault Refusal :=
  match s.pending with
  | c :: rest => Sys2Proof.Machine.exec c { s with pending := rest }
  | [] => s.idle

/-- `s` with the command that a table word spells at the front of its queue; the table gives no row bits (log 37). -/
def State.withFetchWord (s : State) (nbits w : Nat) : State :=
  match decodeTableWord nbits w with
  | some c => { s with pending := c :: s.pending }
  | none => s

/-- A port delivers bytes: the command they spell waits behind the others (R2 to R5). -/
def State.received (port : Port) (bytes : List Byte) (s : State) : State :=
  { s with pending := s.pending ++ [decodeTelegram port bytes] }

end Sys2Proof.Machine
end

