-- ==== Sys2Proof/WellFormed.lean ====
section
/-! DEFINITION. Which commands a sender can form: every field of a telegram fits the bytes of Table 1-2, a row of the
TABLE-WRITE family carries what only that row carries (log 12), and a hand-off carries what a unit can hand over. -/

namespace Sys2Proof

/-- The node and sequence bytes of a telegram. -/
def headerWf (node seq : Nat) : Bool := node < 256 && seq < 256

/-- A masked write: one byte of index, two bytes of mask, at most 40 bytes of payload. -/
def writeWf (seq index mask : Nat) (values : List Byte) : Bool :=
  seq < 256 && index < 256 && mask < 65536 && values.length ≤ 36

/-- A masked write of field 1 and of the other fields of `mask`. -/
def writeRestWf (seq index mask : Nat) (values : List Byte) : Bool :=
  writeWf seq index mask values && mask % 2 == 0 && values.length ≤ 35

/-- Whether field 1 is written with 0 or 1: those writes have rows of their own in tables 0, 3, 4 and 5. -/
def writesEnabled (mask : Nat) (values : List Byte) : Bool :=
  mask % 2 == 1 && (values.head? == some 0#8 || values.head? == some 1#8)

/-- Whether a command is well formed. -/
def Instr.wf : Instr → Bool
  | .delivery n q p => headerWf n q && p < 65536
  | .breakReport n q sd i => headerWf n q && sd < 256 && i < 65536
  | .runReport n q sd i => headerWf n q && sd < 256 && i < 65536
  | .sideState n q sd first count bits =>
    headerWf n q && sd < 256 && first < 65536 && 1 ≤ count && count ≤ 256 && bits.length == bitBytes count
  | .stopped n q => headerWf n q
  | .robotReady n q a p => headerWf n q && a < 256 && p < 65536
  | .robotPos n q a p => headerWf n q && a < 256 && p < 65536
  | .pieced n q f sd i => headerWf n q && f < 256 && sd < 256 && i < 65536
  | .notPieced n q f sd i c => headerWf n q && f < 256 && sd < 256 && i < 65536 && c < 256
  | .robotLeft n q => headerWf n q
  | .dofferReady n q => headerWf n q
  | .doffDone n q f => headerWf n q && f < 256
  | .dofferFault n q => headerWf n q
  | .carrierReady n q l => headerWf n q && l < 2 ^ 32
  | .arrived n q f g => headerWf n q && f < 256 && g < 256
  | .changeDone n q f g => headerWf n q && f < 256 && g < 256
  | .carrierFault n q => headerWf n q
  | .tableWrite q t i m vs =>
    writeWf q i m vs && t < 256
      && ((t == 3 && !(m == 2 && vs.length == 1) && !writesEnabled m vs)
        || (t == 4 && !(m == 2 && vs.length == 6) && !writesEnabled m vs)
        || (t == 5 && !writesEnabled m vs) || 8 ≤ t)
  | .frameEnable q i m vs => writeRestWf q i m vs
  | .frameDisable q i m vs => writeRestWf q i m vs
  | .frameTableWrite q i m vs => writeWf q i m vs && !writesEnabled m vs
  | .articleTableWrite q i m vs => writeWf q i m vs
  | .zoneTableWrite q i m vs => writeWf q i m vs
  | .robotEnable q i m vs => writeRestWf q i m vs
  | .robotDisable q i m vs => writeRestWf q i m vs
  | .robotZoneChange q i z => q < 256 && i < 256 && z < 256
  | .dofferEnable q i m vs => writeRestWf q i m vs
  | .dofferDisable q i m vs => writeRestWf q i m vs
  | .dofferReachWrite q i r => q < 256 && i < 256 && r < 2 ^ 48
  | .carrierEnable q i m vs => writeRestWf q i m vs
  | .carrierDisable q i m vs => writeRestWf q i m vs
  | .lineSettingsWrite q i m vs => writeWf q i m vs
  | .dispositionTableWrite q i m vs => writeWf q i m vs
  | .tableRead q t i => q < 256 && t < 256 && i < 256
  | .stateRead q c i => q < 256 && c < 256 && i < 65536
  | .mapRead q f sd first count => q < 256 && f < 256 && sd < 256 && first < 65536 && count < 256
  | .listRead q l first count => q < 256 && l < 256 && first < 256 && count < 256
  | .releaseSpindle q f sd i => q < 256 && f < 256 && sd < 256 && i < 65536
  | .countsRead q f r c => q < 256 && f < 256 && r < 256 && c < 256
  | .shiftClose q n => q < 256 && n < 65536
  | .hold q f c => q < 256 && f < 256 && c < 256 && (c == 0 || 3 < c)
  | .resume q f => q < 256 && f < 256
  | .doffNow q f => q < 256 && f < 256
  | .groupLoaded q f g l => q < 256 && f < 256 && g < 256 && l < 2 ^ 32
  | .flagsRead q c => q < 256 && c < 256
  | .partReset q => q < 256
  | .dcuDeliveryHandoff _ dL _ => dL ≤ 16776960
  | .spuDeliveryHandoff _ dL fill => dL ≤ 16776960 && fill.getD 0 < 65536
  | .scuDeliveryHandoff _ dL r p mtex => dL ≤ 16776960 && r ≤ p && p ≤ 2048 && mtex ≤ 200000
  | .rsuRovingHandoff _ dR => dR ≤ 16776960
  | .verifyExpiry _ _ i => i < 1024
  | .piecingRequest _ _ i _ => i < 1024
  | .failureRequest _ _ i => i < 1024
  | .withdrawRequest _ _ i => i < 1024
  | .verifyEntryRemove _ _ i => i < 1024
  | .satisfiedNotice _ _ i => i < 1024
  | .brokenNotice _ _ i => i < 1024
  | .supplyFail mv => mv < 2850
  | .supplyResetExit mv _ => 2850 < mv
  | .supplyFall mv => 2850 ≤ mv
  | .supplyRise mv => 2850 ≤ mv
  | .checkError .. | .malformed .. | .unknownNode .. | .floorMaintenance .. | .downTelegram .. | .transmitComplete ..
  | .lineReset .. | .pinReset .. | .vretLoss | .snapshotRead | .secondsTick
  | .piecingDeadlineExpiry .. | .moveDeadlineExpiry .. | .leavingDeadlineExpiry .. | .verifyDeadlineExpiry
  | .stopTimerExpiry .. | .doffTimerExpiry .. | .travelTimerExpiry .. | .changeTimerExpiry .. | .smuPiecingCancel ..
  | .pcdPiecingCancel .. | .starveGroup .. | .spindleDoffCompletion .. | .frameRunningNotice .. | .groupReevaluation ..
  | .freeAisleNotice .. | .robotRelease .. | .lastAssignedNotice .. | .robotRecall .. | .dofferReservation ..
  | .dofferRelease .. | .aislesHeldNotice .. | .dauDoffCompletion .. | .spuDoffCompletion .. | .spuResumeRequest ..
  | .monitoredBreak .. | .scuBreak .. | .scuRovingEndBreak .. | .scuRogueEvent .. | .scuSuccessfulPiecing ..
  | .scuFailedPiecing .. | .scuDoff .. | .scuStoppedSecond .. | .scuDoffWaitSecond .. | .rstnRises .. => true

end Sys2Proof
end

