-- ==== Sys2Proof/Safety.lean ====
section
/-! DEFINITION. What a sound state is (the bounds and laws that the spec's tables and rules give for the state), and the
conditions under which a command is taken, as statements name them. -/

namespace Sys2Proof.Machine

/-! ### Sound states -/

/-- The transmit queues hold at most 64 entries (R13). -/
def State.queuesBounded (s : State) : Prop := s.link.upQueue.length ≤ 64 ∧ s.link.floorQueue.length ≤ 64

/-- Every link counter is a 16-bit value (R15). -/
def State.countersBounded (s : State) : Prop := ∀ c : LinkCounter, s.counter c ≤ 65535

/-- The rogue list, the verify list and the replenishment set keep to their lengths (R76, R96, Table 9-3). -/
def State.listsBounded (s : State) : Prop :=
  s.smu.rogues.length ≤ 128 ∧ s.pcd.verify.length ≤ 32 ∧ s.rsu.set.length ≤ 64

/-- The counts of a map agree with its records (R55). -/
def FrameMap.counted (m : FrameMap) : Prop :=
  m.running = runningIn m.sideA + runningIn m.sideB ∧ m.populated = m.sideA.length + m.sideB.length

/-- The counts of every map agree with its records (R55). -/
def State.mapsCounted (s : State) : Prop := ∀ f : FrameId, (s.map f).counted

/-- Every draft is above 0, and the roving residue of an enabled frame stays below the draft by which the DAU works (R48,
R50). A frame is enabled or not, with no third value, and names articles that exist (Table 2-3). -/
def State.rovingBounded (s : State) : Prop :=
  (∀ a : ArticleId, 0 < (s.store.articles.get a).draft)
    ∧ (∀ (f : FrameId) (a : Article), (s.deliveryRecord f).former = some a → 0 < a.draft)
    ∧ (∀ f : FrameId, (s.entry f).enabled ≤ 1 ∧ (s.entry f).article < 16
        ∧ ((s.entry f).nextArticle = 0xFF ∨ (s.entry f).nextArticle < 16))
    ∧ ∀ f : FrameId, s.enabled f = true → (s.deliveryRecord f).rovingResidue < (s.dauArticle f).draft

/-- The length, roving and mass residues, in the records and in the images, stay below their bounds (R50). -/
def State.residuesBounded (s : State) : Prop :=
  (∀ f : FrameId, (s.deliveryRecord f).lengthResidue < 65536) ∧ s.rovingBounded
    ∧ (∀ f : FrameId, (s.count f).massResidue < 1000000)
    ∧ ∀ f : FrameId, (s.retention.images.get f).massResidue < 1000000

/-- Produced does not exceed possible (R179). -/
def Counts.lawful (c : Counts) : Prop := c.produced ≤ c.possible

/-- A production item carries at most as many running spindles as populated ones (R46). -/
def lawfulItem : Instr → Prop
  | .scuDeliveryHandoff _ _ r p _ => r ≤ p
  | _ => True

/-- Produced does not exceed possible in any current record, closed record or image, the maps are counted, and no
production item in flight or waiting would break that (R179). -/
def State.productionLawful (s : State) : Prop :=
  s.mapsCounted ∧ (∀ f : FrameId, (s.count f).counts.lawful) ∧ (∀ f : FrameId, (s.scu.closed.get f).counts.lawful)
    ∧ (∀ f : FrameId, (s.retention.images.get f).counts.lawful)
    ∧ (∀ c ∈ s.inFlight, lawfulItem c) ∧ ∀ c ∈ s.pending, lawfulItem c

/-- Part commands from outside stay blocked: no F↓ kind code is passed down (R10, R11). -/
def State.commandsBlocked (s : State) : Prop :=
  ∀ k : Fin 256, 0x20 ≤ k.val → k.val ≤ 0x30 → (s.link.disposition.get k).pass = false

/-! ### When a command is taken -/

/-- The part runs, and no line reset has begun that the units have still to take (R186, R189). -/
abbrev State.Hears (s : State) : Prop := s.power = .on ∧ s.store.resetWait ≠ some 0

/-- The part hears a floor report that passes the checks (R8). -/
abbrev State.Takes (s : State) (c : Instr) : Prop := s.Hears ∧ s.verdict c = .accepted

/-- The part runs and the TSM takes management telegrams (R35). -/
abbrev State.Manages (s : State) : Prop := s.power = .on ∧ s.store.resetWait = none

/-- No hand-off in flight satisfies `p`. -/
abbrev State.NoneFlying (s : State) (p : Instr → Bool) : Prop := ∀ h ∈ s.inFlight, p h = false

/-- The part runs and no hand-off of its channel stands before `c`. -/
abbrev State.Next (s : State) (lane : Instr → Bool) (c : Instr) : Prop := s.power = .on ∧ s.ahead lane c = []

/-- No spindle of the line is BROKEN, so that no robot has anything to choose (R80). -/
def State.NoBroken (s : State) : Prop := ∀ (f : FrameId) (side : Side) (i : Nat), (s.spindle f side i).state ≠ .broken

/-- What the PCD takes before any other event: the AOU's recalls and the DCU's cancels (log 3). -/
def pcdBefore : Instr → Bool
  | .robotRecall .. | .pcdPiecingCancel .. => true
  | _ => false

/-- Nothing waits to be taken before a dispatch, and no spindle is BROKEN: a re-evaluation finds nothing to do. -/
def State.Quiet (s : State) : Prop := s.NoBroken ∧ s.NoneFlying aouFirst ∧ s.NoneFlying pcdBefore

/-- No IDLE doffer has a frame in reach (R122). -/
abbrev State.NoIdleDoffer (s : State) (f : FrameId) : Prop :=
  ∀ d : DofferId, (s.doffer d).state = .idle → (s.doffer d).reaches f = false

/-- The lowest-numbered IDLE doffer whose reach in force has a frame, to which the frame is offered (R122). -/
abbrev State.OfferedTo (s : State) (f : FrameId) (d : DofferId) : Prop :=
  (s.doffer d).state = .idle ∧ (s.doffer d).reaches f = true
    ∧ ∀ x, x < d → (s.doffer x).state = .idle → (s.doffer x).reaches f = false

/-- The commands that act while the part is held in reset (R186, log 28). -/
def actsInReset : Instr → Bool
  | .pinReset _ | .supplyFail _ | .supplyResetExit _ _ | .vretLoss | .supplyFall _ | .supplyRise _ | .rstnRises _ => true
  | _ => false

/-- The commands that empty the volatile state: the supply's fall and the ends of a supply reset. -/
def losesState : Instr → Bool
  | .supplyFail _ | .supplyResetExit _ _ | .rstnRises _ => true
  | _ => false

/-- The rows by which one unit takes what another has handed it (R49, R188). -/
def isHandOff : Instr → Bool
  | .dcuDeliveryHandoff .. | .spuDeliveryHandoff .. | .scuDeliveryHandoff .. | .rsuRovingHandoff .. | .verifyExpiry ..
  | .piecingRequest .. | .failureRequest .. | .withdrawRequest .. | .smuPiecingCancel .. | .pcdPiecingCancel ..
  | .starveGroup .. | .spindleDoffCompletion .. | .verifyEntryRemove .. | .satisfiedNotice .. | .brokenNotice ..
  | .frameRunningNotice .. | .groupReevaluation .. | .freeAisleNotice .. | .robotRelease .. | .lastAssignedNotice ..
  | .robotRecall .. | .dofferReservation .. | .dofferRelease .. | .aislesHeldNotice .. | .dauDoffCompletion ..
  | .spuDoffCompletion .. | .spuResumeRequest .. | .monitoredBreak .. | .scuBreak .. | .scuRovingEndBreak ..
  | .scuRogueEvent .. | .scuSuccessfulPiecing .. | .scuFailedPiecing .. | .scuDoff .. | .scuStoppedSecond ..
  | .scuDoffWaitSecond .. => true
  | _ => false

/-- A TABLE-WRITE of any row. -/
def writesTable : Instr → Bool
  | .tableWrite .. | .frameEnable .. | .frameDisable .. | .frameTableWrite .. | .articleTableWrite ..
  | .zoneTableWrite .. | .robotEnable .. | .robotDisable .. | .robotZoneChange .. | .dofferEnable ..
  | .dofferDisable .. | .dofferReachWrite .. | .carrierEnable .. | .carrierDisable .. | .lineSettingsWrite ..
  | .dispositionTableWrite .. => true
  | _ => false

end Sys2Proof.Machine
end

