-- ==== Sys2Proof/Certificates/Slice0/Obligations.lean ====
section
/-! DEFINITION. The statements for the provers. Each docstring names the rules of spec/ that a statement formalises; a hand-off,
a report or a management telegram is taken under conditions on the state and the operands alone (Sys2Proof/Safety.lean), and a
next state is given as the old one with the fields that change, so that it says its own frame. -/

open Sys2Proof Sys2Proof.Machine


/-! ### The queue of commands -/


/-- A step takes the command at the front of the queue and runs it with the queue's rest (log 7). -/
def Obligations.StepRunsFrontCommand : Prop :=
  ∀ (c : Instr) (rest : List Instr) (s : State), s.pending = c :: rest → step s = exec c { s with pending := rest }

/-- With no command waiting the part takes the line reset that has begun, with a free reading of the pins (log 41), else
the oldest hand-off in flight, else the next read of a snapshot, else the earliest timer that the line timer has reached; with
none of these a millisecond passes; held in reset it idles (the model's choice: log 4). -/
def Obligations.EmptyQueueStep : Prop :=
  ∀ s : State, s.pending = [] →
    (s.power ≠ .on → step s = .next s)
    ∧ (s.power = .on → s.store.resetWait = some 0 →
        step s = exec (.lineReset (Config.linePins s.freeUses)) { s with freeUses := s.freeUses + 1 })
    ∧ (s.power = .on → s.store.resetWait ≠ some 0 →
        (∀ c rest, s.inFlight = c :: rest → step s = exec c s)
        ∧ (s.inFlight = [] → s.ssu.snapshot = true → step s = exec .snapshotRead s)
        ∧ (s.inFlight = [] → s.ssu.snapshot = false →
            (∀ before p after, s.timers = before ++ p :: after → p.1 ≤ s.timer → (∀ q ∈ before, p.1 < q.1) →
              (∀ q ∈ after, p.1 ≤ q.1) → step s = exec p.2 s)
            ∧ ((∀ p ∈ s.timers, s.timer < p.1) → step s = .next { s with timer := timerReading (s.timer + 1) })))

/-- No command touches the queue of the commands that wait: every one of them, in every state, answers a next state whose
queue is the old one. -/
def Obligations.EveryCommandKeepsQueue : Prop :=
  ∀ (c : Instr) (s : State), ∃ t, exec c s = .next t ∧ t.pending = s.pending

/-- Held in reset, the part takes no command but those of its supplies and of RSTN (R186, log 28). -/
def Obligations.HeldInResetTakesNothing : Prop :=
  ∀ (c : Instr) (s : State), s.power ≠ .on → actsInReset c = false → exec c s = .next s

/-! ### Line link (spec/01) -/


/-- Bytes are a check error exactly when they are shorter than 6, when their length field exceeds 40, when their count
differs from 6 plus the length field, or when the check field differs from the one computed (R2, R3). -/
def Obligations.CheckErrorExactly : Prop :=
  ∀ (port : Port) (bytes : List Byte),
    decodeTelegram port bytes = .checkError port bytes ↔
      (bytes.length < 6 ∨ 40 < (bytes.getD 3 0).toNat ∨ bytes.length ≠ 6 + (bytes.getD 3 0).toNat
        ∨ beNat (bytes.drop (4 + (bytes.getD 3 0).toNat)) ≠ (crc (bytes.take (4 + (bytes.getD 3 0).toNat))).toNat)

/-- The telegram that a well-formed report or management telegram is, laid out by Tables 1-1 and 1-2 with its check field,
spells that command again. -/
def Obligations.DecodeInvertsEncode : Prop :=
  ∀ (i : Instr) (t : Telegram), i.wf = true → encodeTelegram i = some t → decodeTelegram i.port t.bytes = i

/-- What counting a discard does: its counter rises by 1 and pegs at 65,535, the flag of R15's table latches (MALFORMED for a
malformed telegram and for an unknown node), and nothing else changes (R15). A check error is counted under its port and latches
CHECK-ERR, and does nothing else (R3, R15). A malformed telegram is counted and latches MALFORMED; a management telegram with a
length fault is also answered BAD-LENGTH (R4, R5), but for one that comes while the part waits for the reset of a PART-RESET,
which gets no reply (R35; of a length fault the model's inference: log 29). Once a line reset has begun, until the units have taken it, a received
telegram is counted under no cause and changes nothing (R2, R189; log 45). -/
def Obligations.DiscardsAreCounted : Prop :=
  (∀ s : State,
    (∀ c d, (s.bump c).counter d = if d = c then min (s.counter d + 1) 65535 else s.counter d)
    ∧ (∀ c, s.bump c = { s with link := { s.link with counters := (s.bump c).link.counters } })
    ∧ s.countMalformed =
        { s with link := (s.bump .malformed).link, store := { s.store with flags := s.store.flags ||| 2#16 } }
    ∧ s.countUnknownNode =
        { s with link := (s.bump .unknownNode).link, store := { s.store with flags := s.store.flags ||| 2#16 } }
    ∧ s.countStale = s.bump .stale ∧ s.countDuplicate = s.bump .duplicate ∧ s.countStoppedFrame = s.bump .stoppedFrame)
    ∧ (∀ (port : Port) (bytes : List Byte) (s : State), s.Hears → Telegram.parse bytes = none →
      ∃ t, exec (.checkError port bytes) s = .next t
        ∧ (∀ c, t.counter c =
            if c = (match port with | .floor => LinkCounter.checkFloor | .uplink => LinkCounter.checkUplink) then
              min (s.counter c + 1) 65535
            else s.counter c)
        ∧ t.store.flags = s.store.flags ||| 1#16
        ∧ t = { s with link := { s.link with counters := t.link.counters }, store := { s.store with flags := t.store.flags } })
    ∧ (∀ (port : Port) (bytes : List Byte) (tel : Telegram) (s : State),
      s.Hears → Telegram.parse bytes = some tel → decodeTelegram port bytes = .malformed port bytes →
      exec (.malformed port bytes) s = .next
        (if port = .uplink ∧ tel.node = 0xFF#8 ∧ 0x40 ≤ tel.kind.toNat ∧ tel.kind.toNat ≤ 0x4A ∧ s.store.resetWait = none then
          s.countMalformed.offerUp (replyTelegram tel.seq.toNat .badLength 0 [])
        else s.countMalformed))
    ∧ (∀ (port : Port) (bytes : List Byte) (c : Instr) (s : State), s.store.resetWait = some 0 →
      exec (.checkError port bytes) s = .next s ∧ exec (.malformed port bytes) s = .next s
        ∧ exec (.unknownNode port bytes) s = .next s ∧ exec (.floorMaintenance bytes) s = .next s
        ∧ exec (.downTelegram bytes) s = .next s
        ∧ ((encodeTelegram c).isSome = true → exec c s = .next s))

/-- A floor report that fails its node check is counted as unknown-node, one that fails its length or field checks as
malformed, once, and no unit takes it (R5 to R8). A telegram of unknown kind from the floor, or one from the uplink for another
node than the part's that is no M↓ or M↑ kind, whose node byte names no machine of the floor (nor, on the uplink, all of them),
is counted as unknown-node by whichever row brings it; so is a report whose machine is not enabled (R6, R8; log 9). An accepted
telegram of unknown kind from the floor is copied by its disposition, and a down telegram is passed or blocked by its
disposition; no unit takes either (R9, R11). What decides: the direction of each kind code of Table 1-2, the nodes of the floor
(R6), the checks of a report's length, node and fields in their order, each spelled kind by kind (R5 to R8), and the copy of an
accepted report, by the up disposition of its kind (R9). -/
def Obligations.UntakenTelegrams : Prop :=
  (∀ n : Nat,
    (kindDir n = some .floorUp ↔ (1 ≤ n ∧ n ≤ 5) ∨ (0x10 ≤ n ∧ n ≤ 0x14) ∨ (0x18 ≤ n ∧ n ≤ 0x1A) ∨ (0x1C ≤ n ∧ n ≤ 0x1F))
    ∧ (kindDir n = some .floorDown ↔ 0x20 ≤ n ∧ n ≤ 0x30 ∧ n ≠ 0x27)
    ∧ (kindDir n = some .millDown ↔ 0x40 ≤ n ∧ n ≤ 0x4A) ∧ (kindDir n = some .millUp ↔ 0x60 ≤ n ∧ n ≤ 0x62)
    ∧ (isFloorNode n = true ↔
        n ≤ 0x2F ∨ (0x40 ≤ n ∧ n ≤ 0x4B) ∨ (0x50 ≤ n ∧ n ≤ 0x57) ∨ (0x58 ≤ n ∧ n ≤ 0x5F)))
    ∧ (∀ (c : Instr) (tel : Telegram) (s : State), encodeTelegram c = some tel →
      s.copyReport c =
        if (s.link.disposition.get (Fin.ofNat 256 tel.kind.toNat)).copy = true then s.offerCopy tel else s)
    ∧ (∀ (c : Instr) (s : State),
      let runs : Nat → Prop := fun n => n ≤ 47 ∧ (s.store.frames.get (Fin.ofNat 48 n)).enabled = 1
      let has : Nat → Nat → Nat → Prop := fun n side i => side ≤ 1 ∧ i <
        (if side = 0 then (s.store.frames.get (Fin.ofNat 48 n)).lengthA else (s.store.frames.get (Fin.ofNat 48 n)).lengthB)
      let hasGroup : Nat → Nat → Prop := fun n g =>
        let e := s.store.frames.get (Fin.ofNat 48 n)
        (g < 16 ∧ g < (e.lengthA + e.groupA - 1) / e.groupA) ∨ (16 ≤ g ∧ g < 16 + (e.lengthB + e.groupB - 1) / e.groupB)
      let lengthOk : Prop :=
        match c with
        | .sideState _ _ _ _ count bits => 1 ≤ count ∧ count ≤ 256 ∧ bits.length = (count + 7) / 8
        | _ => True
      let nodeOk : Prop :=
        match c with
        | .delivery n .. | .breakReport n .. | .runReport n .. | .sideState n .. | .stopped n .. => runs n
        | .robotReady n .. | .robotPos n .. | .pieced n .. | .notPieced n .. | .robotLeft n .. =>
          0x40 ≤ n ∧ n ≤ 0x4B ∧ (s.store.robots.get (Fin.ofNat 12 (n - 0x40))).enabled = 1
        | .dofferReady n .. | .doffDone n .. | .dofferFault n .. =>
          0x50 ≤ n ∧ n ≤ 0x57 ∧ (s.store.doffers.get (Fin.ofNat 8 (n - 0x50))).enabled = 1
        | .carrierReady n .. | .arrived n .. | .changeDone n .. | .carrierFault n .. =>
          0x58 ≤ n ∧ n ≤ 0x5F ∧ (s.store.carriers.get (Fin.ofNat 8 (n - 0x58))).enabled = 1
        | _ => False
      let fieldsOk : Prop :=
        match c with
        | .breakReport n _ side i | .runReport n _ side i => has n side i
        | .sideState n _ side first count _ =>
          side ≤ 1 ∧ first + count ≤
            (if side = 0 then (s.store.frames.get (Fin.ofNat 48 n)).lengthA
             else (s.store.frames.get (Fin.ofNat 48 n)).lengthB)
        | .robotReady _ _ aisle position | .robotPos _ _ aisle position => aisle < 64 ∧ position < 2048
        | .pieced _ _ frame side i => runs frame ∧ has frame side i
        | .notPieced _ _ frame side i cause => runs frame ∧ has frame side i ∧ cause ≤ 7
        | .doffDone _ _ frame => runs frame
        | .carrierReady _ _ load => 1000 ≤ load ∧ load ≤ 4000000
        | .arrived _ _ frame g | .changeDone _ _ frame g => runs frame ∧ hasGroup frame g
        | _ => True
      (¬lengthOk → s.verdict c = .malformed)
      ∧ (lengthOk → ¬nodeOk → s.verdict c = .unknownNode)
      ∧ (lengthOk → nodeOk → ¬fieldsOk → s.verdict c = .malformed)
      ∧ (lengthOk → nodeOk → fieldsOk → s.verdict c = .accepted))
    ∧
  (∀ (c : Instr) (s : State), c.port = .floor → s.Hears →
    (s.verdict c = .unknownNode → exec c s = .next s.countUnknownNode)
    ∧ (s.verdict c = .malformed → exec c s = .next s.countMalformed))
    ∧ (∀ (port : Port) (bytes : List Byte) (tel : Telegram) (s : State),
      s.Hears → Telegram.parse bytes = some tel →
      ((decodeTelegram port bytes = .floorMaintenance bytes ∧ isFloorNode tel.node.toNat = false)
        ∨ (decodeTelegram port bytes = .downTelegram bytes ∧ isFloorNode tel.node.toNat = false ∧ tel.node ≠ 0x7F#8)
        ∨ (port = .floor ∧ (decodeReport tel).isSome = true ∧ s.verdict (decodeTelegram port bytes) = .unknownNode)) →
      exec (.unknownNode port bytes) s = .next s.countUnknownNode)
    ∧ (∀ (bytes : List Byte) (tel : Telegram) (s : State), s.Hears → Telegram.parse bytes = some tel →
      (kindDir tel.kind.toNat = none →
        (isFloorNode tel.node.toNat = true →
          exec (.floorMaintenance bytes) s = .next
            (if (s.link.disposition.get (Fin.ofNat 256 tel.kind.toNat)).copy = true then s.offerCopy tel else s))
        ∧ (isFloorNode tel.node.toNat = false → exec (.floorMaintenance bytes) s = .next s.countUnknownNode))
      ∧ (kindDir tel.kind.toNat ≠ some .millDown → kindDir tel.kind.toNat ≠ some .millUp →
          ((isFloorNode tel.node.toNat = true ∨ tel.node = 0x7F#8) →
            exec (.downTelegram bytes) s = .next
              (if (s.link.disposition.get (Fin.ofNat 256 tel.kind.toNat)).pass = true then s.offerPass tel
               else s.bump .downBlocked))
          ∧ (isFloorNode tel.node.toNat = false → tel.node ≠ 0x7F#8 → tel.node ≠ 0xFF#8 →
              exec (.downTelegram bytes) s = .next s.countUnknownNode)))

/-- Each class of telegram is admitted at the tail while its queue holds fewer entries than the class's number, else it is
discarded, counted and flagged; nothing else changes (R13). Each line flag is the bit of its number in the order of R37. A
part command carries the floor port's sequence counter, which then advances by 1, wrapping, whether or not the queue admits
the telegram; so does an ALARM or STARTUP on the uplink, with the part's node number (R12). An alarm is sent if its kind is
enabled, as one telegram with kind, object class, index and detail; otherwise nothing is sent, counted or kept (R36, Table
2-10). Once a line reset has begun it is held instead (R189; of alarms raised before the units take the reset the model's
inference: log 55). The end of a transmission takes the oldest entry from its queue; on the uplink it counts toward the line
reset that a PART-RESET waits for, which begins when the entries up to its reply have been sent (R14). That TRANSMIT_COMPLETE
is this end, and has no effect on an empty queue, is the model's choice (log 30). Each part command has its kind code,
destination node and payload of Table 1-2, and a REPLY its result code, field number and data, numbers most significant byte
first (R1, R12, R16). -/
def Obligations.TransmitQueues : Prop :=
  (∀ (n v : Nat), (beBytes n v).length = n ∧ ∀ j, j < n → (beBytes n v).getD j 0 = BitVec.ofNat 8 (v / 256 ^ (n - 1 - j)))
    ∧ (∀ (seq fieldNo : Nat) (data : List Byte) (result : Result),
      replyTelegram seq result fieldNo data =
        { kind := 0x60#8, node := 0xFF#8, seq := BitVec.ofNat 8 seq,
          payload := BitVec.ofNat 8 result.code :: BitVec.ofNat 8 fieldNo :: data })
    ∧ [Result.ok, .badTable, .badIndex, .badValue, .inUse, .badState, .busy, .badLength].map Result.code = List.range 8
    ∧ (∀ (f : FrameId) (side : Side) (i rpm position : Nat) (k : RobotId) (a : AisleId) (d : DofferId) (c : CarrierId)
        (g : GroupId) (node : Nat) (s : State),
      let spindle := BitVec.ofNat 8 (if side = .A then 0 else 1) :: beBytes 2 i
      sendSpeed f rpm s = s.sendFloor f.val 0x20 (beBytes 2 rpm)
        ∧ sendStopDoff f s = s.sendFloor f.val 0x21 [] ∧ sendRestart f s = s.sendFloor f.val 0x22 []
        ∧ sendHoldFrame f s = s.sendFloor f.val 0x23 []
        ∧ sendRovingStop f side i s = s.sendFloor f.val 0x24 spindle
        ∧ sendRovingFree f side i s = s.sendFloor f.val 0x25 spindle
        ∧ sendStateRequest node s = s.sendFloor node 0x26 []
        ∧ sendAssign k f side i position s =
            s.sendFloor (0x40 + k.val) 0x28 (BitVec.ofNat 8 f.val :: (spindle ++ beBytes 2 position))
        ∧ sendAbandon k s = s.sendFloor (0x40 + k.val) 0x29 []
        ∧ sendMove k a s = s.sendFloor (0x40 + k.val) 0x2A [BitVec.ofNat 8 a.val]
        ∧ sendLeave k (some a) s = s.sendFloor (0x40 + k.val) 0x2B [BitVec.ofNat 8 a.val]
        ∧ sendLeave k none s = s.sendFloor (0x40 + k.val) 0x2B [0xFF#8]
        ∧ sendDoffGo d f s = s.sendFloor (0x50 + d.val) 0x2C [BitVec.ofNat 8 f.val]
        ∧ sendDoffCancel d s = s.sendFloor (0x50 + d.val) 0x2D []
        ∧ sendCarrierGo c f g s = s.sendFloor (0x58 + c.val) 0x2E [BitVec.ofNat 8 f.val, BitVec.ofNat 8 g.val]
        ∧ sendChangeGo c s = s.sendFloor (0x58 + c.val) 0x2F [] ∧ sendCarrierAbort c s = s.sendFloor (0x58 + c.val) 0x30 [])
    ∧
  (∀ (tel : Telegram) (s : State),
    s.offerCopy tel =
      (if s.link.upQueue.length < 56 then { s with link := { s.link with upQueue := s.link.upQueue ++ [tel] } }
       else (s.bump .upCopyLoss).latch .upCopyLoss)
    ∧ s.offerUp tel =
      (if s.link.upQueue.length < 64 then { s with link := { s.link with upQueue := s.link.upQueue ++ [tel] } }
       else (s.bump .partLossUp).latch .partLoss)
    ∧ s.offerPass tel =
      (if s.link.floorQueue.length < 48 then { s with link := { s.link with floorQueue := s.link.floorQueue ++ [tel] } }
       else (s.bump .downPassLoss).latch .downPassLoss)
    ∧ s.offerFloor tel =
      (if s.link.floorQueue.length < 64 then { s with link := { s.link with floorQueue := s.link.floorQueue ++ [tel] } }
       else (s.bump .partLossFloor).latch .partLoss)
    ∧ (∀ x, (s.latch x).store.flags = s.store.flags ||| (1#16 <<< x.bit)
        ∧ (s.flagSet x = true ↔ s.store.flags.getLsbD x.bit = true)
        ∧ s.latch x = { s with store := { s.store with flags := (s.latch x).store.flags } }))
    ∧ (∀ (node kind : Nat) (payload : List Byte) (s : State),
      (s.sendFloor node kind payload).link.floorSeq = s.link.floorSeq + 1#8
      ∧ (s.link.floorQueue.length < 64 → (s.sendFloor node kind payload).link.floorQueue = s.link.floorQueue ++
          [{ kind := BitVec.ofNat 8 kind, node := BitVec.ofNat 8 node, seq := s.link.floorSeq, payload }])
      ∧ (64 ≤ s.link.floorQueue.length → (s.sendFloor node kind payload).link.floorQueue = s.link.floorQueue
          ∧ (s.sendFloor node kind payload).counter .partLossFloor = min (s.counter .partLossFloor + 1) 65535
          ∧ (s.sendFloor node kind payload).flagSet .partLoss = true))
    ∧ (∀ (kind : Nat) (payload : List Byte) (s : State),
      let tel : Telegram := { kind := BitVec.ofNat 8 kind, node := 0xFF#8, seq := s.link.upSeq, payload }
      (s.link.upQueue.length < 64 → s.sendUp kind payload =
        { s with link := { s.link with upQueue := s.link.upQueue ++ [tel], upSeq := s.link.upSeq + 1#8 } })
      ∧ (64 ≤ s.link.upQueue.length → s.sendUp kind payload =
          (State.bump .partLossUp { s with link := { s.link with upSeq := s.link.upSeq + 1#8 } }).latch .partLoss))
    ∧ [LineFlag.checkErr, .malformed, .upCopyLoss, .downPassLoss, .partLoss, .rogueListFull, .replSetFull, .verifySkipped,
        .arith, .supplyWarn, .restored, .lost].map LineFlag.bit = List.range 12
    ∧ [AlarmKind.rogue, .rogueListFull, .robotUnresponsive, .frameHeld, .dofferFault, .starved, .replSetFull, .carrierFault,
        .arith, .supplyWarn, .supplyOk].map AlarmKind.code = List.range 11
    ∧ (∀ (kind : AlarmKind) (cls index detail : Nat) (s : State),
      s.alarm kind cls index detail =
        if s.store.settings.alarmEnable.getLsbD kind.code = true then
          if s.store.resetWait = some 0 then
            { s with store := { s.store with heldAlarms := s.store.heldAlarms ++ [{ kind, cls, index, detail }] } }
          else s.sendUp 0x61 ([BitVec.ofNat 8 kind.code, BitVec.ofNat 8 cls] ++ beBytes 2 index ++ beBytes 2 detail)
        else s)
    ∧ (∀ s : State, s.power = .on →
      exec (.transmitComplete .floor) s = .next { s with link := { s.link with floorQueue := s.link.floorQueue.tail } }
      ∧ (s.link.upQueue = [] → exec (.transmitComplete .uplink) s = .next s)
      ∧ ((s.store.resetWait = none ∨ s.store.resetWait = some 0) →
          exec (.transmitComplete .uplink) s = .next { s with link := { s.link with upQueue := s.link.upQueue.tail } })
      ∧ (∀ n tel rest, s.store.resetWait = some (n + 1) → s.link.upQueue = tel :: rest →
          exec (.transmitComplete .uplink) s = .next
            { s with link := { s.link with upQueue := rest }, store := { s.store with resetWait := some n } }))

/-! ### Delivery arithmetic (spec/03) -/


/-- Without a baseline, a DELIVERY of counter value P stores P and sets the baseline; no increment and no hand-off is made
(R40). With a baseline, T = Δp × Lp + ρL is split into ΔL and ρL; with ΔL = 0 the DELIVERY ends there; otherwise the cop,
the fill and the roving residue are brought up to date, pegged as stated, and the hand-offs of Table 3-2 are made (R40 to
R43, R48). A DELIVERY taken while the doff completion is in flight is worked by the article of before a switch and makes no
offer (R51, R131; log 42). The running and populated counts of the production item are those of the map as it stands, whatever is
in flight to the SMU (R39, R55; log 3). -/
def Obligations.DeliveryArithmetic : Prop :=
  (∀ (node seq pulse : Nat) (s : State),
    s.Takes (.delivery node seq pulse) → pulse < 65536 → (s.deliveryRecord (frameAt node)).baseline = false →
    exec (.delivery node seq pulse) s = .next ((s.copyReport (.delivery node seq pulse)).setDelivery (frameAt node)
      { s.deliveryRecord (frameAt node) with baseline := true, lastPulse := pulse }))
    ∧ (∀ (node seq pulse : Nat) (s : State),
      let c : Instr := .delivery node seq pulse
      let f := frameAt node
      let r := s.deliveryRecord f
      let a := r.former.getD (s.article f)
      let T := (pulse + (65536 - r.lastPulse)) % 65536 * (s.entry f).pulseLength + r.lengthResidue
      let dL := T / 65536
      let cop := min (r.cop + dL) 4294967295
      let fill := min (cop * 65536 / a.doffTarget) 65535
      let Q := dL * 256 + r.rovingResidue
      let spins := (s.frameState f = .running ∨ s.frameState f = .starting) ∧ s.NoneFlying (dauFirst f)
      s.Takes c → pulse < 65536 → r.lastPulse < 65536 → r.baseline = true →
      (dL = 0 →
        exec c s = .next ((s.copyReport c).setDelivery f { r with lastPulse := pulse, lengthResidue := T % 65536 }))
      ∧ (0 < dL → ∃ (target : Bool) (offer : Option Nat),
          (target = true ↔ spins ∧ a.doffTarget ≤ cop)
          ∧ offer = (if spins ∧ cop < a.doffTarget ∧ fill / 1024 ≠ (s.speed f).fillStep then some fill else none)
          ∧ exec c s = .next
              { (s.copyReport c).setDelivery f
                  { r with lastPulse := pulse, lengthResidue := T % 65536, cop, fill, rovingResidue := Q % a.draft } with
                inFlight := s.inFlight
                  ++ [.dcuDeliveryHandoff f dL target, .spuDeliveryHandoff f dL offer,
                      .scuDeliveryHandoff f dL (s.map f).running (s.map f).populated a.density]
                  ++ (if 0 < Q / a.draft then [.rsuRovingHandoff f (Q / a.draft)] else []) }))

/-- The doff completion sets cop and fill to 0, and after a switch the roving residue to 0, from when the DAU works by the
article in force (log 42); the rest of the record is kept, and the SPU is then asked for its speed (R51). A disabled frame's
is discarded. The doff-completion request: after a switch the level, the quiet count and the monitor begin anew; the speed at
fill 0 is computed and sent, and RESTART follows it within the same take (the model's inference: log 34). The resume request
computes at the fill of the DAU record (R150, R151). Commanded while the DAU's completion is in flight, the doff-completion
request is the one that the DAU makes as it takes it (the model's inference: log 53). -/
def Obligations.DoffCompletionRequests : Prop :=
  (∀ (f : FrameId) (switched : Bool) (s : State),
    let c : Instr := .dauDoffCompletion f switched
    let r := s.deliveryRecord f
    s.Next (dauFirst f) c →
    (s.enabled f = true →
      exec c s = .next
        { (s.drop c).setDelivery f { r with cop := 0, fill := 0, rovingResidue := if switched then 0 else r.rovingResidue,
                                            former := if switched then none else r.former } with
          inFlight := s.inFlight.erase c ++ [.spuDoffCompletion f switched] })
    ∧ (s.enabled f = false → exec c s = .next (s.drop c)))
    ∧ (∀ (f : FrameId) (s : State), s.enabled f = true → s.NoneFlying (dauFirst f) →
      (s.Next (spuFirst f) (.spuDoffCompletion f true) →
        exec (.spuDoffCompletion f true) s = .next (sendRestart f
          (((s.drop (.spuDoffCompletion f true)).setSpeed f
              { s.speed f with level := 0, quiet := 0, progress := 0, count := 0, levelChanged := false }).computeSpeed f 0
            true)))
      ∧ (s.Next (spuFirst f) (.spuDoffCompletion f false) →
          exec (.spuDoffCompletion f false) s = .next (sendRestart f
            ((s.drop (.spuDoffCompletion f false)).computeSpeed f 0 true)))
      ∧ (∀ restart, s.Next (spuFirst f) (.spuResumeRequest f restart) →
          exec (.spuResumeRequest f restart) s = .next
            (let t := (s.drop (.spuResumeRequest f restart)).computeSpeed f (s.deliveryRecord f).fill true
             if restart = true then sendRestart f t else t)))
    ∧ (∀ (f : FrameId) (switched : Bool) (s t : State),
      let c : Instr := .dauDoffCompletion f switched
      s.power = .on → c ∈ s.inFlight → (s.drop c).NoneFlying (dauFirst f) → exec c s = .next t →
      exec (.spuDoffCompletion f switched) s = exec (.spuDoffCompletion f switched) t)

/-- The production and mass steps of the SCU: four pegged amounts, SATURATED where one is found at its largest value or would
go beyond it (the model's reading of R173: log 26), and the mass residue; a hand-off of a disabled frame is discarded (R46,
R47, R49). Each single item adds 1 to its own field of the current record of its frame, enabled or not, pegging with
SATURATED, once the items that its unit made before it are taken (R173 to R175; log 3). -/
def Obligations.ScuTakesItems : Prop :=
  (∀ (f : FrameId) (dL r p mtex : Nat) (s : State),
    let c : Instr := .scuDeliveryHandoff f dL r p mtex
    let old := s.count f
    let M := dL * r * mtex + old.massResidue
    let pegged := fun (bits n d : Nat) => n = 2 ^ bits - 1 ∨ 2 ^ bits - 1 < n + d
    s.Next (scuLane f) c →
    (s.enabled f = true → ∃ t, exec c s = .next t
      ∧ (t.count f).counts =
          { old.counts with
            delivered := min (old.counts.delivered + dL) (2 ^ 40 - 1),
            possible := min (old.counts.possible + dL * p) (2 ^ 48 - 1),
            produced := min (old.counts.produced + dL * r) (2 ^ 48 - 1),
            mass := min (old.counts.mass + M / 1000000) (2 ^ 40 - 1) }
      ∧ (t.count f).massResidue = M % 1000000
      ∧ ((t.count f).saturated = true ↔
          old.saturated = true ∨ pegged 40 old.counts.delivered dL ∨ pegged 48 old.counts.possible (dL * p)
            ∨ pegged 48 old.counts.produced (dL * r) ∨ pegged 40 old.counts.mass (M / 1000000))
      ∧ (t.count f).restored = old.restored ∧ (t.count f).lost = old.lost
      ∧ t = (s.drop c).setCount f (t.count f))
    ∧ (s.enabled f = false → exec c s = .next (s.drop c)))
    ∧ (∀ (f : FrameId) (s : State),
      let r := s.count f
      let n := r.counts
      let up := fun (lane : Instr → Bool) (c : Instr) (m : Counts) (full : Bool) =>
        s.Next lane c → exec c s = .next ((s.drop c).setCount f { r with counts := m, saturated := r.saturated || full })
      up (smuToScu f) (.scuBreak f) { n with breaks := min (n.breaks + 1) 16777215 } (decide (16777215 ≤ n.breaks))
      ∧ up (smuToScu f) (.scuRovingEndBreak f) { n with rovingEnds := min (n.rovingEnds + 1) 16777215 }
          (decide (16777215 ≤ n.rovingEnds))
      ∧ up (smuToScu f) (.scuRogueEvent f) { n with rogues := min (n.rogues + 1) 65535 } (decide (65535 ≤ n.rogues))
      ∧ up (pcdToScu f) (.scuSuccessfulPiecing f) { n with piecedOk := min (n.piecedOk + 1) 16777215 }
          (decide (16777215 ≤ n.piecedOk))
      ∧ up (pcdToScu f) (.scuFailedPiecing f) { n with piecedFailed := min (n.piecedFailed + 1) 16777215 }
          (decide (16777215 ≤ n.piecedFailed))
      ∧ up dcuToScu (.scuDoff f) { n with doffs := min (n.doffs + 1) 65535 } (decide (65535 ≤ n.doffs))
      ∧ up dcuToScu (.scuStoppedSecond f) { n with stoppedSeconds := min (n.stoppedSeconds + 1) 16777215 }
          (decide (16777215 ≤ n.stoppedSeconds))
      ∧ up dcuToScu (.scuDoffWaitSecond f) { n with doffWaitSeconds := min (n.doffWaitSeconds + 1) 16777215 }
          (decide (16777215 ≤ n.doffWaitSeconds)))

/-! ### Roving supply (spec/09) -/


/-- A roving hand-off of an enabled frame lowers its groups one after another in ascending number and then judges them in
ascending number; one of a frame that is not enabled is discarded (R49, R154, R156; that every group is lowered before the first
is judged is R154's order). One group lowered by ΔR: its figure falls with a floor of 0, and when it reaches 0 from above 0 the
SMU is asked to starve the group and the alarm STARVED is raised (R154, R155). Where every group stays above its low mark none
is judged LOW or EMPTY and none empties: the figures of the frame's groups fall by ΔR, and no group of another frame and nothing
else changes. -/
def Obligations.RovingIsLowered : Prop :=
  (∀ (f : FrameId) (dR : Nat) (s : State),
    let c : Instr := .rsuRovingHandoff f dR
    s.Next (rsuLane f) c →
    (s.enabled f = true →
      exec c s = .next
        ((List.finRange 32).foldl (fun u g => u.judge f g) ((List.finRange 32).foldl (State.lowerGroup f dR) (s.drop c))))
    ∧ (s.enabled f = false → exec c s = .next (s.drop c)))
    ∧ (∀ (f : FrameId) (dR : Nat) (s : State),
    let c : Instr := .rsuRovingHandoff f dR
    s.Next (rsuLane f) c → s.enabled f = true →
    (∀ g r, s.groupRecord f g = some r → (s.article f).lowMark + dR < r.remaining) →
    ∃ t, exec c s = .next t
      ∧ (∀ g, t.groupRecord f g = (s.groupRecord f g).map fun r => { r with remaining := r.remaining - dR })
      ∧ (∀ f' g, f' ≠ f → t.groupRecord f' g = s.groupRecord f' g)
      ∧ t = { s.drop c with rsu := { s.rsu with groups := t.rsu.groups } })
    ∧ (∀ (f : FrameId) (g : GroupId) (dR : Nat) (s : State),
      (s.groupRecord f g = none → State.lowerGroup f dR s g = s)
      ∧ ∀ r, s.groupRecord f g = some r →
        let s' := s.setGroup f g (some { r with remaining := r.remaining - dR })
        (r.remaining = 0 ∨ dR < r.remaining → State.lowerGroup f dR s g = s')
        ∧ (0 < r.remaining → r.remaining ≤ dR →
            State.lowerGroup f dR s g = (s'.emit (.starveGroup f g)).alarm .starved 4 (f.val * 32 + g.val) 0))

/-! ### Speed program (spec/08) -/


/-- A delivery hand-off at the SPU: the monitor advances in a RUNNING frame alone, and one speed computation is made when
the hand-off carries a fill or the level has changed (R45). A monitored break raises the monitor count of an enabled frame
by 1, saturating at 255, whatever its state (R147). The interval evaluation of the monitor, row by row (R148, R149). The
monitor progress: raised by ΔL, and at the interval one evaluation and the smaller of progress − interval and interval − 1,
so that it is below the interval after every hand-off (R45). -/
def Obligations.SpeedMonitor : Prop :=
  (∀ (f : FrameId) (dL : Nat) (fill : Option Nat) (s : State),
    let c : Instr := .spuDeliveryHandoff f dL fill
    let old := s.speed f
    let new := if s.frameState f = .running then old.advance (s.article f) dL else old
    let s' := (s.drop c).setSpeed f new
    s.Next (spuLane f) c → s.NoneFlying (dauFirst f) → s.NoneFlying (spuFirst f) →
    (s.enabled f = false → exec c s = .next (s.drop c))
    ∧ (∀ x, s.enabled f = true → fill = some x → exec c s = .next (s'.computeSpeed f x false))
    ∧ (s.enabled f = true → fill = none → new.level ≠ old.level → exec c s = .next (s'.computeSpeed f old.heldFill false))
    ∧ (s.enabled f = true → fill = none → new.level = old.level → exec c s = .next s'))
    ∧ (∀ (f : FrameId) (s : State),
      s.power = .on → s.NoneFlying (dauFirst f) → s.NoneFlying (spuFirst f) →
      (s.enabled f = true →
        exec (.monitoredBreak f) s = .next
          ((s.drop (.monitoredBreak f)).setSpeed f { s.speed f with count := min ((s.speed f).count + 1) 255 }))
      ∧ (s.enabled f = false → exec (.monitoredBreak f) s = .next (s.drop (.monitoredBreak f))))
    ∧ (∀ (r : SpeedRecord) (a : Article), a.lowThreshold < a.highThreshold → r.level ≤ 3 →
      let e := r.evaluate a
      e.count = 0 ∧ e.level ≤ 3
        ∧ (e.levelChanged = true ↔ r.levelChanged = true ∨ e.level ≠ r.level)
        ∧ e = { r with level := e.level, quiet := e.quiet, count := 0, levelChanged := e.levelChanged }
        ∧ (a.highThreshold ≤ r.count → e.level = min (r.level + 1) 3 ∧ e.quiet = 0)
        ∧ (r.count ≤ a.lowThreshold → a.quietIntervals ≤ r.quiet + 1 → e.level = r.level - 1 ∧ e.quiet = 0)
        ∧ (r.count ≤ a.lowThreshold → r.quiet + 1 < a.quietIntervals → e.level = r.level ∧ e.quiet = r.quiet + 1)
        ∧ (a.lowThreshold < r.count → r.count < a.highThreshold → e.level = r.level ∧ e.quiet = 0))
    ∧ (∀ (r : SpeedRecord) (a : Article) (dL : Nat), 0 < a.interval →
      (r.advance a dL).progress < a.interval
        ∧ (r.progress + dL < a.interval → r.advance a dL = { r with progress := r.progress + dL })
        ∧ (a.interval ≤ r.progress + dL →
            r.advance a dL =
              { r.evaluate a with progress := min (r.progress + dL - a.interval) (a.interval - 1) }))

/-- The rounding of an accumulator to whole rpm, halves toward plus infinity (R143). -/
def Obligations.RoundingToWholeRpm : Prop :=
  ∀ acc : Int, accMin ≤ acc → acc ≤ accMax →
    256 * roundRpm acc ≤ acc + 128 ∧ acc + 128 < 256 * (roundRpm acc + 1)
      ∧ -8388608 ≤ roundRpm acc ∧ roundRpm acc ≤ 8388608

/-- Derating by level and speed step: the floor of the hundredth, the factor between 25 and 100, and no change at level 0 or
with a step of 0 (R144). -/
def Obligations.DeratingByLevel : Prop :=
  ∀ (rpm : Int) (level step : Nat), level ≤ 3 → step ≤ 25 →
    100 * derate rpm level step ≤ rpm * (100 - (level : Int) * step)
      ∧ rpm * (100 - (level : Int) * step) < 100 * (derate rpm level step + 1)
      ∧ 25 ≤ 100 - (level : Int) * step ∧ 100 - (level : Int) * step ≤ 100
      ∧ derate rpm 0 step = rpm ∧ derate rpm level 0 = rpm

/-- Every stage of an evaluation adds its coefficient to the scaled accumulator, exactly where the sum lies in the range and
else the nearer limit, and so leaves the accumulator in its range. The evaluation is its stages from the degree's coefficient
down; the stage that it records is the first one that saturates; one that does not saturate is the exact Horner recursion
(R142). The result of a computation lies within the rpm limits: the derated value where it lies there, else the limit on its
side; CLAMP-LOW and CLAMP-HIGH say on which side it was clamped, and a result equal to a limit latches nothing (R145). -/
def Obligations.SpeedWithinLimits : Prop :=
  (∀ (h : Horner) (x c : Int) (k : Nat),
    let sum := h.acc * x / 65536 + c
    accMin = -2147483648 ∧ accMax = 2147483647
      ∧ accMin ≤ (h.stage x c k).acc ∧ (h.stage x c k).acc ≤ accMax
      ∧ (accMin ≤ sum → sum ≤ accMax → h.stage x c k = { acc := sum, first := h.first })
      ∧ (accMax < sum → h.stage x c k = { acc := accMax, first := some (h.first.getD k) })
      ∧ (sum < accMin → h.stage x c k = { acc := accMin, first := some (h.first.getD k) }))
    ∧ (∀ (a : Article) (fill : Nat),
      let downTo := fun k : Nat =>
        ((List.range a.degree).drop k).reverse.foldl (fun h j => h.stage fill (a.coeff j) j)
          ({ acc := a.coeff a.degree, first := none } : Horner)
      let sum := fun k : Nat => (downTo (k + 1)).acc * (fill : Int) / 65536 + a.coeff k
      let inRange := fun k : Nat => accMin ≤ sum k ∧ sum k ≤ accMax
      a.polynomial fill = downTo 0
        ∧ ∀ k, (a.polynomial fill).first = some k ↔ k < a.degree ∧ ¬inRange k ∧ ∀ j, k < j → j < a.degree → inRange j)
    ∧
  (∀ (a : Article) (fill : Nat), a.degree ≤ 5 →
    accMin ≤ (a.polynomial fill).acc ∧ (a.polynomial fill).acc ≤ accMax
      ∧ ((a.polynomial fill).first = none →
          (a.polynomial fill).acc =
            (List.range a.degree).foldr (fun k acc => acc * (fill : Int) / 65536 + a.coeff k) (a.coeff a.degree))
      ∧ (∀ k, (a.polynomial fill).first = some k → k < a.degree))
    ∧ (∀ (a : Article) (level fill : Nat), a.minRpm ≤ a.maxRpm →
      let derated := derate (roundRpm (a.polynomial fill).acc) level a.speedStep
      let c := a.compute level fill
      a.minRpm ≤ c.rpm ∧ c.rpm ≤ a.maxRpm
        ∧ (c.clampLow = true ↔ derated < a.minRpm) ∧ (c.clampHigh = true ↔ (a.maxRpm : Int) < derated)
        ∧ ((a.minRpm : Int) ≤ derated → derated ≤ a.maxRpm → (c.rpm : Int) = derated)
        ∧ (derated < a.minRpm → c.rpm = a.minRpm) ∧ ((a.maxRpm : Int) < derated → c.rpm = a.maxRpm)
        ∧ c.saturated = (a.polynomial fill).first)

/-- A computation records the fill and its step, adds its flags to those latched, and leaves the result as the last sent
rpm; the first saturation of the line stays in the first-fault record (R141, R142). The line flag ARITH latches, and one ARITH
alarm is raised with the bits now latched, exactly when the computation latches a flag and none of the three was set before it
(R145). SPEED goes out when it must, or when the result differs from the last sent rpm (R146). Nothing else of the part
changes: not a queue, a counter or a line flag. -/
def Obligations.ComputationIsRecorded : Prop :=
  ∀ (f : FrameId) (fill : Nat) (always : Bool) (s : State),
    let old := s.speed f
    let c := (s.article f).compute old.level fill
    let t := s.computeSpeed f fill always
    let bits :=
      (if c.saturated.isSome = true ∧ old.sat = false then 1 else 0)
        + (if c.clampLow = true ∧ old.clampLow = false then 2 else 0)
        + (if c.clampHigh = true ∧ old.clampHigh = false then 4 else 0)
    let firstFault := bits ≠ 0 ∧ old.sat = false ∧ old.clampLow = false ∧ old.clampHigh = false
    let differs := always = true ∨ old.lastRpm ≠ some c.rpm
    let told := if firstFault then (s.latch .arith).alarm .arith 0 f.val bits else s
    t.speed f =
        { old with
          heldFill := fill, fillStep := fill / 1024, lastRpm := some c.rpm, sat := old.sat || c.saturated.isSome,
          clampLow := old.clampLow || c.clampLow, clampHigh := old.clampHigh || c.clampHigh }
      ∧ (∀ g, g ≠ f → t.speed g = s.speed g)
      ∧ t.spu.firstFault =
          (match s.spu.firstFault, c.saturated with
           | some x, _ => some x
           | none, some k => some { frame := f, article := s.articleId f, stage := k }
           | none, none => none)
      ∧ (always = false → old.lastRpm = some c.rpm → t.link.floorQueue = s.link.floorQueue)
      ∧ (always = true ∨ old.lastRpm ≠ some c.rpm → s.link.floorQueue.length < 64 →
          t.link.floorQueue = s.link.floorQueue ++
            [{ kind := 0x20#8, node := BitVec.ofNat 8 f.val, seq := s.link.floorSeq, payload := beBytes 2 c.rpm }])
      ∧ (¬firstFault → ¬differs → t.link = s.link ∧ t.store = s.store)
      ∧ (firstFault → t.flagSet .arith = true)
      ∧ t = { (if differs then sendSpeed f c.rpm told else told) with spu := t.spu }

/-! ### Spindle map (spec/04) -/


/-- One spindle's change of state: its record (attempts 0 on entering RUNNING), the running count, every other spindle and
count as before, and the notices of the change: to the PCD on entering BROKEN, to the RSU on leaving ASSIGNED as the last of
its group (R55, R57). Their order, the PCD's first, is the model's choice (log 38). -/
def Obligations.ChangeOfStateIsNotified : Prop :=
  ∀ (f : FrameId) (side : Side) (i : Nat) (sp : Spindle) (s : State), i < ((s.map f).side side).length →
    let old := s.spindle f side i
    let t := s.change f side i sp
    let g := (s.entry f).groupOf side i
    t.spindle f side i = (if sp.state = .running then { sp with attempts := 0 } else sp)
      ∧ (∀ f' side' j, (f', side', j) ≠ (f, side, i) → t.spindle f' side' j = s.spindle f' side' j)
      ∧ (t.map f).running + (if old.state = .running then 1 else 0) =
          max ((s.map f).running + (if sp.state = .running then 1 else 0)) (if old.state = .running then 1 else 0)
      ∧ (t.map f).populated = (s.map f).populated
      ∧ t.inFlight = s.inFlight ++ (if sp.state = .broken ∧ old.state ≠ .broken then [.brokenNotice f side i] else [])
          ++ (if old.state = .assigned ∧ sp.state ≠ .assigned ∧ t.groupAssigned f g = false then
                [.lastAssignedNotice f g] else [])
      ∧ t = { s with smu := { s.smu with maps := t.smu.maps }, inFlight := t.inFlight }

/-- A BREAK on a RUNNING spindle of a frame that spins (R59): in an empty group it is STARVED with a roving-end break; in a
STARTING frame BROKEN with a break alone; in a RUNNING frame BROKEN with a monitored break and the repeat count raised,
saturating at 15, or ROGUE with cause REPEATS at the limit. Every change is the one that ChangeOfStateIsNotified states. A
BREAK on a VERIFY spindle is a failed attempt: the PCD is asked to remove the verify entry, the attempt count rises, and the
spindle becomes ROGUE at the attempt limit, else BROKEN or STARVED; nothing goes to the SCU or the SPU but the rogue event
(R60). A BREAK on a VACANT spindle, in any state of the frame, is counted malformed and latches MALFORMED; one on any other
spindle of a frame neither RUNNING nor STARTING is counted stopped-frame; neither changes a spindle or anything else (R58). -/
def Obligations.BreaksByState : Prop :=
  (∀ (node seq sd i : Nat) (s : State),
    let c : Instr := .breakReport node seq sd i
    let f := frameAt node
    let side := sideAt sd
    let sp := s.spindle f side i
    let s1 := s.copyReport c
    let raised := { sp with repeats := min (sp.repeats + 1) 15 }
    s.Takes c → s.NoneFlying (smuFirst f) → sp.state = .running →
    (s.groupEmpty f side i = true → (s.frameState f = .running ∨ s.frameState f = .starting) →
      exec c s = .next ((s1.change f side i { sp with state := .starved }).emit (.scuRovingEndBreak f)))
    ∧ (s.groupEmpty f side i = false → s.frameState f = .starting →
        exec c s = .next ((s1.emit (.scuBreak f)).change f side i { sp with state := .broken }))
    ∧ (s.groupEmpty f side i = false → s.frameState f = .running → raised.repeats < (s.article f).repeatLimit →
        exec c s = .next (((s1.emit (.scuBreak f)).emit (.monitoredBreak f)).change f side i
          { raised with state := .broken }))
    ∧ (s.groupEmpty f side i = false → s.frameState f = .running → (s.article f).repeatLimit ≤ raised.repeats →
        exec c s = .next (((s1.emit (.scuBreak f)).emit (.monitoredBreak f)).makeRogue f side i .repeats raised))
    ∧ (s.frameState f ≠ .running → s.frameState f ≠ .starting → exec c s = .next (s1.bump .stoppedFrame)))
    ∧ (∀ (node seq sd i : Nat) (s : State),
      let c : Instr := .breakReport node seq sd i
      let f := frameAt node
      let side := sideAt sd
      let sp := s.spindle f side i
      let raised := { sp with attempts := sp.attempts + 1 }
      let s1 := (s.copyReport c).emit (.verifyEntryRemove f side i)
      s.Takes c → s.NoneFlying (smuFirst f) → (s.frameState f = .running ∨ s.frameState f = .starting) →
      sp.state = .verify →
      (raised.attempts < (s.article f).attemptLimit →
        exec c s = .next (s1.change f side i
          { raised with state := if s.groupEmpty f side i then .starved else .broken }))
      ∧ ((s.article f).attemptLimit ≤ raised.attempts → exec c s = .next (s1.makeRogue f side i .attempts raised)))
    ∧ (∀ (node seq sd i : Nat) (s : State),
      let c : Instr := .breakReport node seq sd i
      let f := frameAt node
      let sp := s.spindle f (sideAt sd) i
      s.Takes c → s.NoneFlying (smuFirst f) →
      (sp.state = .vacant → exec c s = .next (s.copyReport c).countMalformed)
      ∧ (sp.state ≠ .vacant → s.frameState f ≠ .running → s.frameState f ≠ .starting →
          exec c s = .next ((s.copyReport c).bump .stoppedFrame)))

/-- A BREAK on an UNKNOWN spindle makes it BROKEN or STARVED uncounted; one on a BROKEN, ASSIGNED, STARVED or ROGUE spindle,
and a RUN on a RUNNING one, is counted as a duplicate and changes nothing else (R61). -/
def Obligations.UncountedAndDuplicateReports : Prop :=
  ∀ (node seq sd i : Nat) (s : State),
    let f := frameAt node
    let side := sideAt sd
    let sp := s.spindle f side i
    s.NoneFlying (smuFirst f) → (s.frameState f = .running ∨ s.frameState f = .starting) →
    (s.Takes (.breakReport node seq sd i) →
      (sp.state = .unknown →
        exec (.breakReport node seq sd i) s = .next ((s.copyReport (.breakReport node seq sd i)).change f side i
          { sp with state := if s.groupEmpty f side i then .starved else .broken }))
      ∧ ((sp.state = .broken ∨ sp.state = .assigned ∨ sp.state = .starved ∨ sp.state = .rogue) →
          exec (.breakReport node seq sd i) s = .next ((s.copyReport (.breakReport node seq sd i)).bump .duplicate)))
    ∧ (s.Takes (.runReport node seq sd i) → sp.state = .running →
        exec (.runReport node seq sd i) s = .next ((s.copyReport (.runReport node seq sd i)).bump .duplicate))

/-- A RUN makes any spindle that is not RUNNING run, with the notices of the state it leaves and its rogue list entry
removed (R62). A SIDE-STATE resolves the UNKNOWN spindles of its range, in any state of the frame: running bit 1 RUNNING, 0
BROKEN or STARVED; the frame's running count rises by those made RUNNING; every other spindle, the populated count, the rest of
the part and the other maps with their counts stay, but for the notices of the new BROKEN spindles (R55, R63). A RUN on a VACANT
spindle, and a SIDE-STATE with one in its range, is counted malformed and latches MALFORMED; a RUN on any other spindle of a
frame neither RUNNING nor STARTING is counted stopped-frame; none of them changes a spindle or anything else (R58). -/
def Obligations.RunsAndSideStates : Prop :=
  (∀ (node seq sd i : Nat) (s : State),
    let c : Instr := .runReport node seq sd i
    let f := frameAt node
    let side := sideAt sd
    let sp := s.spindle f side i
    let up := { sp with state := SpindleState.running }
    let s1 := s.copyReport c
    s.Takes c → s.NoneFlying (smuFirst f) → (s.frameState f = .running ∨ s.frameState f = .starting) →
    (sp.state = .unknown ∨ sp.state = .broken ∨ sp.state = .starved → exec c s = .next (s1.change f side i up))
    ∧ (sp.state = .assigned → exec c s = .next ((s1.emit (.satisfiedNotice f side i)).change f side i up))
    ∧ (sp.state = .verify → exec c s = .next ((s1.emit (.verifyEntryRemove f side i)).change f side i up))
    ∧ (sp.state = .rogue → exec c s = .next ((s1.change f side i up).setRogues
        (s.smu.rogues.filter fun e => !(e.frame == f && e.side == side && e.index == i)))))
    ∧ (∀ (node seq sd first count : Nat) (bits : List Byte) (s : State),
      let c : Instr := .sideState node seq sd first count bits
      let f := frameAt node
      let side := sideAt sd
      s.Takes c → s.NoneFlying (smuFirst f) → (∀ j, j < count → (s.spindle f side (first + j)).state ≠ .vacant) →
      ∃ t, exec c s = .next t
        ∧ (∀ i, first ≤ i → i < first + count → (s.spindle f side i).state = .unknown →
            t.spindle f side i =
              if runningBit bits (i - first) then { s.spindle f side i with state := .running, attempts := 0 }
              else { s.spindle f side i with state := if s.groupEmpty f side i then .starved else .broken })
        ∧ (∀ f' side' i, f' ≠ f ∨ side' ≠ side ∨ i < first ∨ first + count ≤ i ∨ (s.spindle f side i).state ≠ .unknown →
            t.spindle f' side' i = s.spindle f' side' i)
        ∧ (∀ side', ((t.map f).side side').length = ((s.map f).side side').length)
        ∧ (t.map f).running = (s.map f).running + ((List.range count).filter fun j =>
            (s.spindle f side (first + j)).state == .unknown && runningBit bits j).length
        ∧ (t.map f).populated = (s.map f).populated
        ∧ (∀ f', f' ≠ f → t.map f' = s.map f')
        ∧ (∀ h, h ∈ t.inFlight ↔ h ∈ s.inFlight ∨ ∃ i, first ≤ i ∧ i < first + count
            ∧ (s.spindle f side i).state = .unknown ∧ runningBit bits (i - first) = false
            ∧ s.groupEmpty f side i = false ∧ h = .brokenNotice f side i)
        ∧ t = { s.copyReport c with smu := { s.smu with maps := t.smu.maps }, inFlight := t.inFlight })
    ∧ (∀ (node seq sd i first count : Nat) (bits : List Byte) (s : State),
      let run : Instr := .runReport node seq sd i
      let range : Instr := .sideState node seq sd first count bits
      let f := frameAt node
      let side := sideAt sd
      s.NoneFlying (smuFirst f) →
      (s.Takes run → (s.spindle f side i).state = .vacant → exec run s = .next (s.copyReport run).countMalformed)
      ∧ (s.Takes run → (s.spindle f side i).state ≠ .vacant → s.frameState f ≠ .running → s.frameState f ≠ .starting →
          exec run s = .next ((s.copyReport run).bump .stoppedFrame))
      ∧ (∀ j, s.Takes range → j < count → (s.spindle f side (first + j)).state = .vacant →
          exec range s = .next (s.copyReport range).countMalformed))

/-- The PCD's requests act on an ASSIGNED spindle alone (a verify expiry on a VERIFY one): a piecing makes it VERIFY or
RUNNING, a failure STARVED in an empty group or a failed attempt, a withdrawal BROKEN or STARVED with no attempt, an expiry
a failed attempt; in any other state the spindle is unchanged (R65 to R67, R69). A failed attempt raises the attempt count
by 1; the spindle is ROGUE with cause ATTEMPTS at the limit of the article in force, else BROKEN, or STARVED where its group
is empty (R60, R66, R69). -/
def Obligations.DispatcherRequestsAtTheMap : Prop :=
  (∀ (f : FrameId) (side : Side) (i : Nat) (s : State),
    let sp := s.spindle f side i
    let piecing := fun v => Instr.piecingRequest f side i v
    let failure := Instr.failureRequest f side i
    let withdraw := Instr.withdrawRequest f side i
    let expiry := Instr.verifyExpiry f side i
    s.NoneFlying (smuFirst f) →
    (∀ v, s.Next (pcdToSmu f) (piecing v) →
      exec (piecing v) s = .next
        (if sp.state = .assigned then
          (s.drop (piecing v)).change f side i { sp with state := if v then .verify else .running }
         else s.drop (piecing v)))
    ∧ (s.Next (pcdToSmu f) failure →
        exec failure s = .next
          (if sp.state = .assigned then
            (if s.groupEmpty f side i then (s.drop failure).change f side i { sp with state := .starved }
             else (s.drop failure).failAttempt f side i)
           else s.drop failure))
    ∧ (s.Next (pcdToSmu f) withdraw →
        exec withdraw s = .next
          (if sp.state = .assigned then
            (s.drop withdraw).change f side i
              { sp with state := if s.groupEmpty f side i then .starved else .broken }
           else s.drop withdraw))
    ∧ (s.Next (pcdToSmu f) expiry →
        exec expiry s = .next
          (if sp.state = .verify then (s.drop expiry).failAttempt f side i else s.drop expiry)))
    ∧ (∀ (f : FrameId) (side : Side) (i : Nat) (s : State),
      let sp := s.spindle f side i
      let raised := { sp with attempts := sp.attempts + 1 }
      s.failAttempt f side i =
        if (s.article f).attemptLimit ≤ sp.attempts + 1 then s.makeRogue f side i .attempts raised
        else s.change f side i { raised with state := if s.groupEmpty f side i then .starved else .broken })

/-- A spindle made ROGUE keeps its counts; ROVING-STOP goes to its frame head; it joins the rogue list if that holds fewer than
128 entries, else ROGUE-LIST-FULL latches and its alarm is raised; the alarm ROGUE is raised, each with the side, the index and
the cause in its detail; the SCU is handed one rogue event, after the notice of a group that has lost its last ASSIGNED spindle
(the order is the model's choice: log 38); no other spindle and nothing else changes (R57, R75). RELEASE-SPINDLE: a frame above
47 is BAD-INDEX, a frame not enabled BAD-STATE, a side above 1 BAD-VALUE in field 2 and a spindle that the frame does not have
BAD-INDEX; a ROGUE spindle becomes BROKEN or STARVED with both counts 0, ROVING-FREE is sent, its list entry leaves and the
reply is OK; a spindle in any other state is unchanged and the reply is BAD-STATE (R33, R77). -/
def Obligations.RogueSpindles : Prop :=
  (∀ (f : FrameId) (side : Side) (i : Nat) (cause : RogueCause) (sp : Spindle) (s : State),
    i < ((s.map f).side side).length →
    let t := s.makeRogue f side i cause sp
    let old := (s.spindle f side i).state
    let detail := side.code * 1024 + i + (match cause with | .attempts => 0 | .repeats => 0x8000)
    let stopped := s.sendFloor f.val 0x24 (beBytes 1 side.code ++ beBytes 2 i)
    let listed :=
      if s.smu.rogues.length < 128 then stopped else (stopped.latch .rogueListFull).alarm .rogueListFull 0 f.val detail
    t.spindle f side i = { sp with state := .rogue }
      ∧ (∀ f' side' j, (f', side', j) ≠ (f, side, i) → t.spindle f' side' j = s.spindle f' side' j)
      ∧ (t.map f).running + (if old = .running then 1 else 0) = max (s.map f).running (if old = .running then 1 else 0)
      ∧ (t.map f).populated = (s.map f).populated
      ∧ (s.smu.rogues.length < 128 →
          t.smu.rogues = s.smu.rogues ++ [{ frame := f, side, index := i, cause, seconds := s.timer / 1000 }])
      ∧ (128 ≤ s.smu.rogues.length → t.smu.rogues = s.smu.rogues ∧ t.flagSet .rogueListFull = true)
      ∧ t.inFlight = s.inFlight
          ++ (if old = .assigned ∧ t.groupAssigned f ((s.entry f).groupOf side i) = false then
                [.lastAssignedNotice f ((s.entry f).groupOf side i)] else [])
          ++ [.scuRogueEvent f]
      ∧ t = { listed.alarm .rogue 0 f.val detail with smu := t.smu, inFlight := t.inFlight })
    ∧ (∀ (seq frame side index : Nat) (s : State), s.Manages →
      let answers := fun (result : Result) (fieldNo : Nat) =>
        exec (.releaseSpindle seq frame side index) s = .next (s.offerUp (replyTelegram seq result fieldNo []))
      (47 < frame → answers .badIndex 0)
      ∧ (frame ≤ 47 → s.enabled (frameAt frame) = false → answers .badState 0)
      ∧ (frame ≤ 47 → s.enabled (frameAt frame) = true → 1 < side → answers .badValue 2)
      ∧ (frame ≤ 47 → s.enabled (frameAt frame) = true → side ≤ 1 →
          (s.entry (frameAt frame)).length (sideAt side) ≤ index → answers .badIndex 0))
    ∧ (∀ (seq : Nat) (f : FrameId) (side : Side) (i : Nat) (s : State),
      let c : Instr := .releaseSpindle seq f.val side.code i
      s.Manages → s.enabled f = true → i < (s.entry f).length side → s.NoneFlying (smuFirst f) →
      ((s.spindle f side i).state = .rogue →
        exec c s = .next
          ((((sendRovingFree f side i (s.change f side i
              { state := if s.groupEmpty f side i then .starved else .broken, attempts := 0, repeats := 0 })).setRogues
            (s.smu.rogues.filter fun e => !(e.frame == f && e.side == side && e.index == i)))).offerUp
            (replyTelegram seq .ok 0 [])))
      ∧ ((s.spindle f side i).state ≠ .rogue → exec c s = .next (s.offerUp (replyTelegram seq .badState 0 []))))

/-- The cancel of a frame's piecing makes every ASSIGNED and VERIFY spindle of the frame BROKEN or STARVED and leaves every
other spindle; the PCD is told once of each new BROKEN spindle and the RSU once of each group that had ASSIGNED spindles (R57,
R70). The doff completion of a frame: ROGUE and STARVED spindles keep their state, every other populated spindle runs, and all
counts of attempts and repeats are cleared; the rogue list is kept; the RSU is told of each group that had ASSIGNED spindles
(R57, R74). The starve of a group whose
figure is 0 makes its BROKEN spindles STARVED and leaves every other spindle; with a figure above 0 it finds nothing to do
(R71, R169, log 18). -/
def Obligations.FrameWideChanges : Prop :=
  (∀ (f : FrameId) (s : State), s.Next (smuFirst f) (.smuPiecingCancel f) →
    ∃ t, exec (.smuPiecingCancel f) s = .next t
      ∧ (∀ side i, let sp := s.spindle f side i
          t.spindle f side i =
            if sp.state = .assigned ∨ sp.state = .verify then
              { sp with state := if s.groupEmpty f side i then .starved else .broken }
            else sp)
      ∧ (∀ f' side i, f' ≠ f → t.spindle f' side i = s.spindle f' side i)
      ∧ (∃ notices, t.inFlight = s.inFlight.erase (.smuPiecingCancel f) ++ notices ∧ notices.Nodup
          ∧ ∀ h, h ∈ notices ↔
              (∃ side i, ((s.spindle f side i).state = .assigned ∨ (s.spindle f side i).state = .verify)
                ∧ s.groupEmpty f side i = false ∧ h = .brokenNotice f side i)
              ∨ ∃ side i, (s.spindle f side i).state = .assigned ∧ h = .lastAssignedNotice f ((s.entry f).groupOf side i))
      ∧ t = { s with smu := { s.smu with maps := t.smu.maps }, inFlight := t.inFlight })
    ∧ (∀ (f : FrameId) (s : State), s.Next (smuFirst f) (.spindleDoffCompletion f) →
      ∃ t, exec (.spindleDoffCompletion f) s = .next t
        ∧ (∀ side i, let sp := s.spindle f side i
            t.spindle f side i =
              match sp.state with
              | .vacant => sp
              | .rogue => { state := .rogue, attempts := 0, repeats := 0 }
              | .starved => { state := .starved, attempts := 0, repeats := 0 }
              | _ => { state := .running, attempts := 0, repeats := 0 })
        ∧ (∀ f' side i, f' ≠ f → t.spindle f' side i = s.spindle f' side i)
        ∧ t.smu.rogues = s.smu.rogues
        ∧ (∃ notices, t.inFlight = s.inFlight.erase (.spindleDoffCompletion f) ++ notices ∧ notices.Nodup
            ∧ ∀ h, h ∈ notices ↔
                ∃ side i, (s.spindle f side i).state = .assigned ∧ h = .lastAssignedNotice f ((s.entry f).groupOf side i))
        ∧ t = { s with smu := { s.smu with maps := t.smu.maps }, inFlight := t.inFlight })
    ∧ (∀ (f : FrameId) (g : GroupId) (s : State), s.power = .on → s.NoneFlying (smuFirst f) →
      (s.remaining f g = 0 →
        ∃ t, exec (.starveGroup f g) s = .next t
          ∧ (∀ side i, let sp := s.spindle f side i
              t.spindle f side i =
                if sp.state = .broken ∧ (s.entry f).groupOf side i = g then { sp with state := .starved } else sp)
          ∧ (∀ f' side i, f' ≠ f → t.spindle f' side i = s.spindle f' side i)
          ∧ t = { s.drop (.starveGroup f g) with smu := { s.smu with maps := t.smu.maps } })
      ∧ (0 < s.remaining f g → exec (.starveGroup f g) s = .next (s.drop (.starveGroup f g))))

/-! ### Piecing dispatch (spec/05) -/


/-- ROBOT-POS from a MOVING robot at the aisle that it holds makes it IDLE there, ends its deadline and re-evaluates its zone;
from an IDLE or PIECING robot it sets the position; any other is stale (R85, R89). ROBOT-READY: a robot that is ready, in an
aisle of its zone with no holder and no reservation, becomes its holder and IDLE at the position given, direction UP, and its
zone is re-evaluated. In any other aisle, one outside its zone or one of it that it is not granted, the first aisle of its patrol
list in cyclic order, without the one it stands in, that has no holder, no reservation and a candidate is granted in its place:
it is sent LEAVE to that aisle and is MOVING to it with a new deadline; with no such aisle it is sent LEAVE (none), is PARKED and
its zone is re-evaluated (R83, R85, R87). So of an OFFLINE or UNRESPONSIVE robot, which holds no aisle. A PARKED, MOVING, IDLE,
PIECING or LEAVING robot has restarted: its unsatisfied assignment is withdrawn, its assignment, leave target and deadline are
dropped and the aisle it holds is released, which tells the PCD of a free aisle, or, where a doffer has reserved it, takes the
hold step; then it is ready as above, where it stands among the aisles that it may be granted (R88, R108, R111). While no spindle
is BROKEN a re-evaluation finds nothing to do (R80, R86). -/
def Obligations.RobotReadyAndPosition : Prop :=
  (∀ (node seq aisle position : Nat) (s : State),
    let c : Instr := .robotPos node seq aisle position
    let k := robotAt node
    let r := s.robot k
    let a : AisleId := Fin.ofNat 64 aisle
    let s1 := s.copyReport c
    s.Takes c → s.NoneFlying pcdBefore →
    (r.state = .moving → r.aisle = some a →
      exec c s = .next ((s1.setRobot k { r with state := .idle, position, deadline := none }).reevaluate (s.robotZone k)))
    ∧ ((r.state = .idle ∨ r.state = .piecing) → r.aisle = some a → exec c s = .next (s1.setRobot k { r with position }))
    ∧ (r.aisle ≠ some a ∨ r.state = .offline ∨ r.state = .parked ∨ r.state = .leaving ∨ r.state = .unresponsive →
        exec c s = .next (s1.bump .stale)))
    ∧ (∀ (node seq aisle position : Nat) (s : State),
      let c : Instr := .robotReady node seq aisle position
      let k := robotAt node
      let z := s.robotZone k
      let r := s.robot k
      let a : AisleId := Fin.ofNat 64 aisle
      let patrol := s.patrol z
      -- the answer to a robot that is ready, its record `rec`, in the state `u`
      let ready := fun (rec : Robot) (u : State) =>
        let free := fun x => (u.aisleRecord x).holder = .none ∧ (u.aisleRecord x).reservedBy = none
        let ok := fun x => free x ∧ u.candidates z x ≠ []
        (a ∈ patrol → free a →
          exec c s = .next (((u.setHolder a (.robot k)).setRobot k
            { rec with state := .idle, aisle := some a, position, sweep := .up }).reevaluate z))
        ∧ (∀ run, (a ∉ patrol ∨ ¬free a) →
            ((a ∉ patrol ∧ run = patrol) ∨ ∃ p1 p2, patrol = p1 ++ a :: p2 ∧ a ∉ p1 ∧ run = p2 ++ p1) →
            (∀ before b after, run = before ++ b :: after → (∀ x ∈ before, ¬ok x) → ok b →
              exec c s = .next ((sendLeave k (some b) (u.setHolder b (.robot k))).setRobot k
                { rec with state := .moving, aisle := some b, position, sweep := .up,
                           deadline := some (s.timer + 1000 * (s.store.zones.get z).piecingTimeout) }))
            ∧ ((∀ x ∈ run, ¬ok x) →
                exec c s = .next (((sendLeave k none u).setRobot k
                  { rec with state := .parked, position, sweep := .up }).reevaluate z)))
      -- what the map is asked of a restarted robot's assignment, and its aisle released
      let told := (s.copyReport c).emitAll (match r.assignment with
        | some x => if x.satisfied = true then [] else [.withdrawRequest x.frame x.side x.index]
        | none => [])
      let left :=
        match r.aisle with
        | some b =>
          match (s.aisleRecord b).reservedBy with
          | none => (told.setHolder b .none).emit (.freeAisleNotice b)
          | some d => (told.setHolder b .none).holdStep d
        | none => told
      s.Takes c → s.NoneFlying pcdBefore → s.NoneFlying aouFirst →
      ((r.state = .offline ∨ r.state = .unresponsive) → (∀ x, (s.aisleRecord x).holder ≠ .robot k) →
        ready r (s.copyReport c))
      ∧ ((r.state = .parked ∨ r.state = .moving ∨ r.state = .idle ∨ r.state = .piecing ∨ r.state = .leaving) →
          (∀ x, (s.aisleRecord x).holder = .robot k ↔ r.aisle = some x) → (patrol ≠ [] ∨ r.aisle = none) →
          ready { r with assignment := none, leaveTarget := none, deadline := none, aisle := none } left))
    ∧ (∀ (z : ZoneId) (s : State), s.NoBroken → s.NoneFlying aouFirst → s.reevaluate z = s)

/-- PIECED and NOT-PIECED: an outcome of the spindle that a PIECING robot is assigned ends the assignment and leaves the
robot IDLE at the spindle; a PIECED places a verify entry, which replaces one of the same spindle, while the list holds fewer than
32, else VERIFY-SKIPPED latches and the list stays as it is (of an entry that names the spindle already the model's inference:
log 24), and hands the SMU the piecing and the SCU a success; a NOT-PIECED hands a failure to both, or is stale
where the assignment was satisfied; any other outcome is stale (R91 to R93, R96). The SMU takes the failure before the robots
of the zone are sent on, so that the spindle, made BROKEN, is a candidate at once (R66, R93; the model's inference: log 50).
Where the PCD has still to take the notice of an enable of the frame, it takes that first, with the re-evaluation that it asks,
and then the outcome (R21; that this notice is the PCD's part of an enable is the model's inference: log 56). -/
def Obligations.OutcomesOfPiecing : Prop :=
  (∀ (node seq frame sd i cause : Nat) (s : State),
    let done : Instr := .pieced node seq frame sd i
    let failed : Instr := .notPieced node seq frame sd i cause
    let k := robotAt node
    let f := frameAt frame
    let side := sideAt sd
    let r := s.robot k
    let r' : Robot :=
      { r with state := .idle, assignment := none, deadline := none, position := (s.entry f).offset side + i }
    let others := s.pcd.verify.filter fun e => !(e.frame == f && e.side == side && e.index == i)
    let entry : VerifyEntry :=
      { frame := f, side, index := i, deadline := s.timer + 1000 * (s.store.zones.get (s.robotZone k)).verifyWindow }
    s.Quiet → s.enablesDue f = 0 →
    (∀ sat, r.state = .piecing → r.assignment = some { frame := f, side, index := i, satisfied := sat } →
      (s.Takes done →
        (sat = true → exec done s = .next (((s.copyReport done).setRobot k r').emit (.scuSuccessfulPiecing f)))
        ∧ (sat = false → s.pcd.verify.length < 32 →
            exec done s = .next
              { (s.copyReport done).setRobot k r' with
                pcd :=
                  { s.pcd with
                    robots := s.pcd.robots.set k r',
                    verify := others.takeWhile (fun e => decide (e.deadline ≤ entry.deadline)) ++ entry ::
                      others.dropWhile (fun e => decide (e.deadline ≤ entry.deadline)) },
                inFlight := s.inFlight ++ [.piecingRequest f side i true, .scuSuccessfulPiecing f] })
        ∧ (sat = false → 32 ≤ s.pcd.verify.length →
            exec done s = .next
              { ((s.copyReport done).latch .verifySkipped).setRobot k r' with
                inFlight := s.inFlight ++ [.piecingRequest f side i false, .scuSuccessfulPiecing f] }))
      ∧ (s.Takes failed →
        (sat = true → exec failed s = .next (((s.copyReport failed).setRobot k r').bump .stale))
        ∧ (sat = false → s.NoneFlying (smuFirst f) → s.NoneFlying (pcdToSmu f) →
            let sp := s.spindle f side i
            let ended := { (s.copyReport failed).setRobot k r' with inFlight := s.inFlight ++ [.scuFailedPiecing f] }
            (sp.state ≠ .assigned → exec failed s = .next ended)
            ∧ (sp.state = .assigned → s.groupEmpty f side i = true →
                exec failed s = .next (ended.change f side i { sp with state := .starved }))
            ∧ (sp.state = .assigned → s.groupEmpty f side i = false →
                exec failed s = .next ((ended.failAttempt f side i).reevaluate (s.robotZone k))))))
    ∧ ((r.state ≠ .piecing ∨ ∀ sat, r.assignment ≠ some { frame := f, side, index := i, satisfied := sat }) →
        (s.Takes done → exec done s = .next ((s.copyReport done).bump .stale))
        ∧ (s.Takes failed → exec failed s = .next ((s.copyReport failed).bump .stale))))
    ∧ (∀ (node seq frame sd i cause n : Nat) (s : State),
      let done : Instr := .pieced node seq frame sd i
      let failed : Instr := .notPieced node seq frame sd i cause
      let k := robotAt node
      let f := frameAt frame
      let side := sideAt sd
      let running : Instr := .frameRunningNotice f
      s.enablesDue f = n + 1 → running ∈ s.inFlight → s.Next (dcuToPcd f) running →
      (s.Takes done → ∃ t, exec running (s.copyReport done) = .next t ∧ t.enablesDue f = n
        ∧ exec done s = .next (t.takePieced k f side i))
      ∧ (s.Takes failed → ∃ t, exec running (s.copyReport failed) = .next t ∧ t.enablesDue f = n
        ∧ exec failed s = .next (t.takeNotPieced k f side i)))

/-- A recall sends LEAVE to a robot in the aisle, and ABANDON before it to a PIECING one, whose unsatisfied assignment is
withdrawn; the robot is LEAVING with a new deadline and remains holder. The target is the first aisle of its patrol list in
cyclic order, without the one it stands in, that has no holder, no reservation and a candidate, and none where there is none. A
robot LEAVING already is not concerned (R101); nor is one that has given up the aisle (the model's choice: log 49). ROBOT-LEFT
ends a leave: the deadline is dropped and the aisle released, which tells the PCD of a free aisle, or, where a doffer has
reserved it, takes the hold step: with every aisle of its reservation without holder the doffer holds them all and the DCU is
told (R108, R111); a target that is free is granted and the robot is MOVING to it
with a new deadline and no MOVE; with no target, or one that is refused, the first aisle of the list that can be granted is
granted and the robot is sent MOVE to it; where no aisle of the list can be, whether it had no target or one that is refused,
it is sent LEAVE (none), is PARKED, and its zone is re-evaluated (R85). Out of LEAVING it is stale (R102, R108). -/
def Obligations.RecallAndLeave : Prop :=
  (∀ (k : RobotId) (a : AisleId) (s : State),
    let c : Instr := .robotRecall k a
    let r := s.robot k
    let s1 := s.drop c
    let away : Robot :=
      { r with state := .leaving, leaveTarget := none,
               deadline := some (s.timer + 1000 * (s.store.zones.get (s.robotZone k)).piecingTimeout) }
    s.Next pcdFirst c → s.NoBroken → s.NoneFlying aouFirst →
    ((r.state = .idle ∨ r.state = .moving) → exec c s = .next ((sendLeave k none s1).setRobot k away))
    ∧ (∀ x, r.state = .piecing → r.assignment = some x →
        exec c s = .next
          { (sendLeave k none (sendAbandon k s1)).setRobot k { away with assignment := none } with
            inFlight := s.inFlight.erase c ++
              (if x.satisfied = true then [] else [.withdrawRequest x.frame x.side x.index]) })
    ∧ (r.state = .leaving ∨ r.state = .offline ∨ r.state = .parked ∨ r.state = .unresponsive → exec c s = .next s1))
    ∧ (∀ (node seq : Nat) (a : AisleId) (s : State),
      let c : Instr := .robotLeft node seq
      let k := robotAt node
      let r := s.robot k
      let s1 := s.copyReport c
      let left :=
        match (s.aisleRecord a).reservedBy with
        | none => { (s1.setHolder a .none) with inFlight := s.inFlight ++ [.freeAisleNotice a] }
        | some d => (s1.setHolder a .none).holdStep d
      s.Takes c → s.Quiet →
      (r.state ≠ .leaving → exec c s = .next (s1.bump .stale))
      ∧ (r.state = .leaving → r.aisle = some a → (∀ b, (s.aisleRecord b).holder = .robot k ↔ b = a) →
          (r.leaveTarget = none → s.patrol (s.robotZone k) ≠ [] →
            exec c s = .next ((sendLeave k none left).setRobot k
              { r with state := .parked, aisle := none, leaveTarget := none, deadline := none }))
          ∧ (∀ b, r.leaveTarget = some b → b ≠ a → (s.aisleRecord b).holder = .none → (s.aisleRecord b).reservedBy = none →
              exec c s = .next ((left.setHolder b (.robot k)).setRobot k
                { r with state := .moving, aisle := some b, leaveTarget := none,
                         deadline := some (s.timer + 1000 * (s.store.zones.get (s.robotZone k)).piecingTimeout) }))))
    ∧ (∀ (k : RobotId) (a b : AisleId) (run before after : List AisleId) (s : State),
      let c : Instr := .robotRecall k a
      let r := s.robot k
      let patrol := s.patrol (s.robotZone k)
      let ok := fun x => (s.aisleRecord x).holder = .none ∧ (s.aisleRecord x).reservedBy = none
        ∧ s.candidates (s.robotZone k) x ≠ []
      s.Next pcdFirst c → s.NoneFlying aouFirst →
      ((a ∉ patrol ∧ run = patrol) ∨ ∃ p1 p2, patrol = p1 ++ a :: p2 ∧ a ∉ p1 ∧ run = p2 ++ p1) →
      run = before ++ b :: after → (∀ x ∈ before, ¬ok x) → ok b →
      let away : Robot :=
        { r with state := .leaving, leaveTarget := some b,
                 deadline := some (s.timer + 1000 * (s.store.zones.get (s.robotZone k)).piecingTimeout) }
      ((r.state = .idle ∨ r.state = .moving) →
        exec c s = .next ((sendLeave k (some b) (s.drop c)).setRobot k away))
      ∧ (∀ x, r.state = .piecing → r.assignment = some x →
          exec c s = .next
            { (sendLeave k (some b) (sendAbandon k (s.drop c))).setRobot k { away with assignment := none } with
              inFlight := s.inFlight.erase c ++
                (if x.satisfied = true then [] else [.withdrawRequest x.frame x.side x.index]) }))
    ∧ (∀ (node seq : Nat) (a : AisleId) (s : State),
      let c : Instr := .robotLeft node seq
      let k := robotAt node
      let r := s.robot k
      let patrol := s.patrol (s.robotZone k)
      let ok := fun x : AisleId => (x = a ∨ (s.aisleRecord x).holder = .none) ∧ (s.aisleRecord x).reservedBy = none
        ∧ s.candidates (s.robotZone k) x ≠ []
      let left :=
        match (s.aisleRecord a).reservedBy with
        | none => { ((s.copyReport c).setHolder a .none) with inFlight := s.inFlight ++ [Instr.freeAisleNotice a] }
        | some d => ((s.copyReport c).setHolder a .none).holdStep d
      s.Takes c → s.NoneFlying pcdBefore → s.NoneFlying aouFirst → r.state = .leaving → r.aisle = some a →
      (∀ x, (s.aisleRecord x).holder = .robot k ↔ x = a) →
      (∀ x, r.leaveTarget = some x →
        (s.aisleRecord x).reservedBy ≠ none ∨ (x ≠ a ∧ (s.aisleRecord x).holder ≠ .none)) →
      (∀ before b after, patrol = before ++ b :: after → (∀ x ∈ before, ¬ok x) → ok b →
        exec c s = .next ((sendMove k b (left.setHolder b (.robot k))).setRobot k
          { r with state := .moving, aisle := some b, leaveTarget := none,
                   deadline := some (s.timer + 1000 * (s.store.zones.get (s.robotZone k)).piecingTimeout) }))
      ∧ ((∀ x ∈ patrol, ¬ok x) → (patrol ≠ [] ∨ r.leaveTarget ≠ none) →
          exec c s = .next (State.reevaluate (s.robotZone k) ((sendLeave k none left).setRobot k
            { r with state := .parked, aisle := none, leaveTarget := none, deadline := none }))))
    ∧ (∀ (d : DofferId) (s : State),
      let free := ∀ a, (s.aisleRecord a).reservedBy = some d → (s.aisleRecord a).holder = .none
      (¬free ∨ (∀ a, (s.aisleRecord a).reservedBy ≠ some d) → s.holdStep d = s)
      ∧ (∀ f a, free → (s.aisleRecord a).reservedBy = some d → s.aou.claims.get d = some f →
          ∃ t, s.holdStep d = t
            ∧ (∀ b, t.aisleRecord b =
                if (s.aisleRecord b).reservedBy = some d then { holder := .doffer d, reservedBy := some d }
                else s.aisleRecord b)
            ∧ t = { s with aou := { s.aou with aisles := t.aou.aisles }, inFlight := s.inFlight ++ [.aislesHeldNotice d f] }))

/-- The passing of a robot's deadline makes it UNRESPONSIVE: its work goes into the fault record, an unsatisfied assignment is
withdrawn, its aisle is released and the alarm is raised with detail 0 for a piecing, 1 for a move and 2 for a leave. With no
deadline running nothing passes (R90, R95, R103). The line timer then stands at the deadline or further on (log 5). With the
cancel of the frame it works on, or a recall of it from its aisle, in flight to the PCD, that is taken and the deadline is
dropped with the state it belonged to: the expiry does that and nothing else, a deadline given afresh does not pass, the line
timer stands and the robot is not UNRESPONSIVE (R79, R99, R101; the order is the model's inference: log 3). The passing
of the earliest verify deadline removes that entry alone and asks the SMU for the expiry (R98). With a cancel of the entry's
frame in flight to the PCD that cancel is taken, and the deadline goes with the entry (R99, R118; log 3). The stop timer of a
STOPPING frame passes: the frame enters HELD with cause STOP-TIMEOUT. With no timer running nothing passes (R126). A seconds
tick hands the SCU one stopped second for every enabled frame that stands, and one doff-wait second for those that stop or wait
for a doff, in ascending frame number, and nothing else changes but the timer (R138; that a frame's stopped second comes
before its doff-wait second is the model's choice: log 38). -/
def Obligations.TimersPass : Prop :=
  (∀ (k : RobotId) (a : AisleId) (t : Nat) (s : State),
    let r := s.robot k
    let out := fun (record : FaultRecord) (handed : List Instr) (detail : Nat) =>
      State.alarm .robotUnresponsive 1 k.val detail
        { s.setRobot k { r with state := .unresponsive, aisle := none, assignment := none, leaveTarget := none,
                                deadline := none, faultRecord := record } with
          timer := timerReading (max s.timer t), inFlight := s.inFlight ++ handed }
    s.power = .on → s.NoneFlying pcdBefore →
    (r.deadline = none →
      exec (.piecingDeadlineExpiry k) s = .next s ∧ exec (.moveDeadlineExpiry k) s = .next s
        ∧ exec (.leavingDeadlineExpiry k) s = .next s)
    ∧ (r.deadline = some t → r.aisle = some a →
        (∀ x, r.state = .piecing → r.assignment = some x →
          exec (.piecingDeadlineExpiry k) s = .next (out (.assignment x.frame x.side x.index)
            ((if x.satisfied = true then [] else [.withdrawRequest x.frame x.side x.index]) ++ [.robotRelease k a]) 0))
        ∧ (r.state = .moving →
            exec (.moveDeadlineExpiry k) s = .next (out (.move (some a)) [.robotRelease k a] 1))
        ∧ (r.state = .leaving →
            exec (.leavingDeadlineExpiry k) s = .next (out (.move (some a)) [.robotRelease k a] 2))))
    ∧ (∀ (k : RobotId) (a : AisleId) (t : Nat) (c : Instr) (s : State),
      let r := s.robot k
      r.deadline = some t → c ∈ s.inFlight → (s.drop c).NoneFlying pcdBefore →
      (∀ x, r.state = .piecing → r.assignment = some x → c = .pcdPiecingCancel x.frame → s.Next (dcuToPcd x.frame) c →
        exec (.piecingDeadlineExpiry k) s = exec c s)
      ∧ (c = .robotRecall k a → s.Next pcdFirst c →
          (r.state = .piecing → exec (.piecingDeadlineExpiry k) s = exec c s)
          ∧ (r.state = .moving → exec (.moveDeadlineExpiry k) s = exec c s)))
    ∧ (∀ s : State, s.power = .on →
      (s.pcd.verify = [] → exec .verifyDeadlineExpiry s = .next s)
      ∧ (∀ e rest, s.pcd.verify = e :: rest →
          (s.NoneFlying pcdBefore →
            exec .verifyDeadlineExpiry s = .next
              { s with
                pcd := { s.pcd with verify := rest }, timer := timerReading (max s.timer e.deadline),
                inFlight := s.inFlight ++ [.verifyExpiry e.frame e.side e.index] })
          ∧ (∀ c, c = .pcdPiecingCancel e.frame → c ∈ s.inFlight → s.Next (dcuToPcd e.frame) c →
              (s.drop c).NoneFlying pcdBefore → s.NoBroken → s.NoneFlying aouFirst →
              exec .verifyDeadlineExpiry s = exec c s)))
    ∧ (∀ (f : FrameId) (s : State), s.power = .on → s.NoneFlying (dauFirst f) → s.NoneFlying (spuFirst f) →
      ((s.cycle f).stopTimer = none → exec (.stopTimerExpiry f) s = .next s)
      ∧ (∀ t, (s.cycle f).stopTimer = some t → s.frameState f = .stopping →
          exec (.stopTimerExpiry f) s = .next
            (State.enterHeld f .stopTimeout { s with timer := timerReading (max s.timer t) })))
    ∧ (∀ s : State, s.power = .on →
      exec .secondsTick s = .next
        { s with
          ticks := s.ticks + 1, timer := timerReading (max s.timer (1000 * (s.ticks + 1))),
          inFlight := s.inFlight ++ (List.finRange 48).flatMap fun f =>
            match s.enabled f, s.frameState f with
            | true, .stopping | true, .doffWait => [.scuStoppedSecond f, .scuDoffWaitSecond f]
            | true, .doffing | true, .held => [.scuStoppedSecond f]
            | _, _ => [] })

/-- The SMU's notices to the PCD: a removal takes the spindle's verify entry; a satisfied notice sets the flag of the lowest
robot whose assignment names the spindle, and with none takes the verify entry; the notice of a BROKEN spindle re-evaluates the
zone of the aisle that its side faces (R85, R94, R97). The cancel of a frame at the PCD: ABANDON to every robot at work on the
frame, in ascending number (the model's choice: log 38), each of which is IDLE where it stands; every verify entry of the frame
leaves; no other robot and nothing else changes, and nothing but those ABANDONs is sent, counted or flagged; then the zones of
the robots made IDLE are re-evaluated, each once and in ascending number, which finds nothing to do while no spindle is BROKEN
(R85, R86, R99). -/
def Obligations.NoticesToTheDispatcher : Prop :=
  (∀ (f : FrameId) (side : Side) (i : Nat) (s : State),
    let removal : Instr := .verifyEntryRemove f side i
    let satisfied : Instr := .satisfiedNotice f side i
    let broken : Instr := .brokenNotice f side i
    let rest := s.pcd.verify.filter fun e => !(e.frame == f && e.side == side && e.index == i)
    let names := fun (k : RobotId) (b : Bool) =>
      (s.robot k).assignment = some { frame := f, side, index := i, satisfied := b }
    s.NoneFlying pcdBefore →
    (s.Next smuToPcd removal → exec removal s = .next ((s.drop removal).setVerify rest))
    ∧ (s.Next smuToPcd satisfied →
        (∀ k b, names k b → (∀ j b', j < k → ¬names j b') →
          exec satisfied s = .next ((s.drop satisfied).setRobot k
            { s.robot k with assignment := some { frame := f, side, index := i, satisfied := true } }))
        ∧ ((∀ k b, ¬names k b) → exec satisfied s = .next ((s.drop satisfied).setVerify rest)))
    ∧ (s.Next smuToPcd broken →
        (s.NoBroken → s.NoneFlying aouFirst → exec broken s = .next (s.drop broken))
        ∧ (∀ z, s.zoneOf ((s.entry f).aisle side) = some z → exec broken s = .next ((s.drop broken).reevaluate z))
        ∧ (s.zoneOf ((s.entry f).aisle side) = none → exec broken s = .next (s.drop broken))))
    ∧ (∀ (f : FrameId) (s : State),
      let c : Instr := .pcdPiecingCancel f
      let works := fun k => (s.robot k).state = .piecing ∧ ∃ x, (s.robot k).assignment = some x ∧ x.frame = f
      let told := (s.robotsOn f).foldl (fun u k => sendAbandon k u) s
      let zones := (List.finRange 8).filter fun z => (s.robotsOn f).any fun k => decide (s.robotZone k = z)
      s.Next (dcuToPcd f) c → (s.drop c).NoneFlying pcdBefore →
      (∀ k, k ∈ s.robotsOn f ↔ works k) ∧ (s.robotsOn f).Pairwise (· < ·)
        ∧ ∃ t, exec c s = .next (zones.foldl (fun u z => u.reevaluate z) t)
        ∧ (s.NoBroken → s.NoneFlying aouFirst → exec c s = .next t)
        ∧ (∀ k, works k → t.robot k = { s.robot k with state := .idle, assignment := none, deadline := none })
        ∧ (∀ k, ¬works k → t.robot k = s.robot k)
        ∧ (t.pcd.verify = s.pcd.verify.filter fun e => e.frame != f) ∧ t.pcd.enabling = s.pcd.enabling
        ∧ (s.link.floorQueue.length + 12 ≤ 64 →
            (t.link.floorQueue.drop s.link.floorQueue.length).map (fun m => (m.kind, m.node, m.payload)) =
              (s.robotsOn f).map fun k => (0x29#8, BitVec.ofNat 8 (0x40 + k.val), []))
        ∧ t = { s.drop c with link := told.link, store := told.store, pcd := t.pcd })

/-- The other events that re-evaluate zones: a frame that begins to run, the zones of the aisles that its sides face, each
once and in ascending number; a refilled group, by the aisle of its side; an aisle that can be granted again. Each is the
re-evaluation of those zones and nothing else, but that a frame's notice is one fewer of those that the PCD has to take before a
floor report for it (R21; the model's field: log 56), and finds nothing to do while no spindle is BROKEN. The zone of an aisle is one
whose patrol list has it; an aisle in no list has none (R85). -/
def Obligations.EventsThatReevaluate : Prop :=
  ∀ (f : FrameId) (g : GroupId) (a : AisleId) (s : State),
    let running : Instr := .frameRunningNotice f
    let refilled : Instr := .groupReevaluation f g
    let free : Instr := .freeAisleNotice a
    let taken :=
      { s.drop running with pcd := { s.pcd with enabling := s.pcd.enabling.set f (s.enablesDue f - 1) } }
    let faced := (List.finRange 8).filter fun z => [Side.A, Side.B].any fun side =>
      decide (0 < (s.entry f).length side) && decide (s.zoneOf ((s.entry f).aisle side) = some z)
    (∀ z, s.zoneOf a = some z → a ∈ s.patrol z) ∧ (s.zoneOf a = none ↔ ∀ z, a ∉ s.patrol z) ∧
    (s.NoneFlying pcdBefore →
    (s.Next (dcuToPcd f) running →
      exec running s = .next (faced.foldl (fun u z => u.reevaluate z) taken)
      ∧ (s.NoBroken → s.NoneFlying aouFirst → exec running s = .next taken))
    ∧ (s.power = .on →
        (∀ z, s.zoneOf ((s.entry f).aisle (groupSide g)) = some z →
          exec refilled s = .next ((s.drop refilled).reevaluate z))
        ∧ (s.zoneOf ((s.entry f).aisle (groupSide g)) = none → exec refilled s = .next (s.drop refilled))
        ∧ (s.NoBroken → s.NoneFlying aouFirst → exec refilled s = .next (s.drop refilled)))
    ∧ (s.Next aouToPcd free →
        (∀ z, s.zoneOf a = some z → exec free s = .next ((s.drop free).reevaluate z))
        ∧ (s.zoneOf a = none → exec free s = .next (s.drop free))
        ∧ (s.NoBroken → s.NoneFlying aouFirst → exec free s = .next (s.drop free))))

/-- The candidates in an aisle for a robot of a zone: the BROKEN spindles of the sides that face it, of frames that spin, of
groups with roving, not CHANGING and without a carrier in WAIT, where the aisle is in the zone's patrol list and unreserved;
each once, in ascending frame number, at its side's offset plus its index (R80). The in-aisle choice: a candidate at or ahead
of the robot in its direction, the nearest of them, and with none ahead the nearest behind, the direction turned; of candidates
at one position the first in frame order; none only of no candidate (R81). A robot's turn in a re-evaluation: an IDLE robot
with candidates in its aisle is assigned the chosen spindle, which the map makes ASSIGNED, is sent ASSIGN with its aisle
position and is PIECING with a new deadline (R82, R86). A PARKED robot is sent to the first aisle of its patrol list that has
no holder, no reservation and a candidate: it becomes the holder, is sent MOVE and is MOVING with a new deadline; with no such
aisle it stays (R83, R84). An IDLE robot without a candidate in its own aisle goes to the first such aisle after its own, in
cyclic order, and its own aisle is released and free again; with no such aisle it stays (R81, R83, R84, R107, R108). A
re-evaluation of a zone is the turns of its robots in ascending number (R86). -/
def Obligations.ChoicesOfRobots : Prop :=
  (∀ (z : ZoneId) (a : AisleId) (s : State),
    (∀ x : Candidate, x ∈ s.candidates z a ↔
      (s.spindle x.frame x.side x.index).state = .broken
        ∧ 0 < (s.entry x.frame).length x.side ∧ (s.entry x.frame).aisle x.side = a
        ∧ a ∈ s.patrol z
        ∧ (s.frameState x.frame = .running ∨ s.frameState x.frame = .starting)
        ∧ (∃ r, s.groupRecord x.frame ((s.entry x.frame).groupOf x.side x.index) = some r ∧ 0 < r.remaining
            ∧ r.state ≠ .changing)
        ∧ (∀ c, (s.carrier c).state = .wait →
            (s.carrier c).trip ≠ some (x.frame, (s.entry x.frame).groupOf x.side x.index))
        ∧ (s.aisleRecord a).reservedBy = none)
    ∧ (s.candidates z a).Nodup ∧ (s.candidates z a).Pairwise (fun x y => x.frame ≤ y.frame)
    ∧ (∀ x : Candidate, s.candidatePosition x = (s.entry x.frame).offset x.side + x.index))
    ∧
  (∀ (pos : Candidate → Nat) (p : Nat) (cs : List Candidate),
    (∀ dir, inAisleChoice pos p dir cs = none ↔ cs = [])
    ∧ (∀ dir c, inAisleChoice pos p dir cs = some (.up, c) →
        c ∈ cs ∧ p ≤ pos c ∧ (∀ d ∈ cs, p ≤ pos d → pos c ≤ pos d)
          ∧ (cs.filter fun d => pos d == pos c).head? = some c ∧ (dir = .down → ∀ d ∈ cs, p < pos d))
    ∧ (∀ dir c, inAisleChoice pos p dir cs = some (.down, c) →
        c ∈ cs ∧ pos c ≤ p ∧ (∀ d ∈ cs, pos d ≤ p → pos d ≤ pos c)
          ∧ (cs.filter fun d => pos d == pos c).head? = some c ∧ (dir = .up → ∀ d ∈ cs, pos d < p)))
    ∧ (∀ (k : RobotId) (a : AisleId) (dir : Sweep) (x : Candidate) (s : State),
      let r := s.robot k
      let pos := (s.entry x.frame).offset x.side + x.index
      s.NoneFlying (smuFirst x.frame) → s.NoneFlying (pcdToSmu x.frame) →
      s.NoneFlying (aboutSpindle x.frame x.side x.index) → r.state = .idle → r.aisle = some a →
      inAisleChoice s.candidatePosition r.position r.sweep (s.candidates (s.robotZone k) a) = some (dir, x) →
      s.turn k =
        (sendAssign k x.frame x.side x.index pos
          (s.change x.frame x.side x.index { s.spindle x.frame x.side x.index with state := .assigned })).setRobot k
          { r with
            sweep := dir, state := .piecing,
            assignment := some { frame := x.frame, side := x.side, index := x.index, satisfied := false },
            deadline := some (s.timer + 1000 * (s.store.zones.get (s.robotZone k)).piecingTimeout) })
    ∧ (∀ (k : RobotId) (s : State),
      let r := s.robot k
      let ok := fun a => (s.aisleRecord a).holder = .none ∧ (s.aisleRecord a).reservedBy = none
        ∧ s.candidates (s.robotZone k) a ≠ []
      s.NoneFlying aouFirst → s.aisleOf k = none → r.state = .parked →
      ((∀ a ∈ s.patrol (s.robotZone k), ¬ok a) → s.turn k = s)
      ∧ (∀ before a after, s.patrol (s.robotZone k) = before ++ a :: after → (∀ b ∈ before, ¬ok b) → ok a →
          s.turn k =
            (sendMove k a (s.setHolder a (.robot k))).setRobot k
              { r with state := .moving, aisle := some a,
                       deadline := some (s.timer + 1000 * (s.store.zones.get (s.robotZone k)).piecingTimeout) }))
    ∧ (∀ (k : RobotId) (a : AisleId) (run : List AisleId) (s : State),
      let r := s.robot k
      let patrol := s.patrol (s.robotZone k)
      let ok := fun x => (s.aisleRecord x).holder = .none ∧ (s.aisleRecord x).reservedBy = none
        ∧ s.candidates (s.robotZone k) x ≠ []
      s.NoneFlying aouFirst → r.state = .idle → r.aisle = some a → s.candidates (s.robotZone k) a = [] →
      ((a ∉ patrol ∧ run = patrol) ∨ ∃ p1 p2, patrol = p1 ++ a :: p2 ∧ a ∉ p1 ∧ run = p2 ++ p1) →
      ((∀ x ∈ run, ¬ok x) → s.turn k = s)
      ∧ (∀ before b after, run = before ++ b :: after → (∀ x ∈ before, ¬ok x) → ok b →
          (∀ x, (s.aisleRecord x).holder = .robot k ↔ x = a) → (s.aisleRecord a).reservedBy = none →
          s.turn k =
            (sendMove k b { ((s.setHolder b (.robot k)).setHolder a .none) with
                            inFlight := s.inFlight ++ [.freeAisleNotice a] }).setRobot k
              { r with state := .moving, aisle := some b,
                       deadline := some (s.timer + 1000 * (s.store.zones.get (s.robotZone k)).piecingTimeout) }))
    ∧ (∀ (z : ZoneId) (s : State),
      s.reevaluate z = ((List.finRange 12).filter fun k => decide (s.robotZone k = z)).foldl (fun u k => u.turn k) s)

/-! ### Aisle occupancy (spec/06) -/


/-- A robot's release of an aisle that it holds leaves the aisle without holder; unreserved, it is free and the PCD is told;
with every aisle reserved for a doffer now empty, the doffer holds them all and the DCU is told, and until then it waits. A
release of an aisle that the robot does not hold changes nothing (R108, R111). A reservation request of a doffer without a
claim: the aisles of the frame's present sides are reserved for it, a recall is made for each that a robot holds, in
ascending aisle number, and with none held the doffer holds them at once; where another doffer has reserved one of them, the
request waits at the end of the pending list and nothing else changes (R109 to R111). A doffer's release clears its pending
entry, its holds and its reservations; a robot still in one of its aisles keeps it; where a reservation was cleared the pending
list is scanned; the PCD is told of each aisle then left free, in ascending number (R112, R113). The scan is one pass from the
head: an entry none of whose aisles is reserved by another leaves the list and is reserved at once, one that is blocked stays in
its place (R113). A request from a doffer that still has a claim releases it in the same event, whose free-aisle notices come
last (R109, R115). A notice "aisles held" in flight to the doffer that asks is of a former claim and goes (log 3). -/
def Obligations.AisleOccupancy : Prop :=
  (∀ (k : RobotId) (a : AisleId) (s : State),
    let c : Instr := .robotRelease k a
    let s1 := s.drop c
    s.Next aouFirst c →
    ((s.aisleRecord a).holder ≠ .robot k → exec c s = .next s1)
    ∧ ((s.aisleRecord a).holder = .robot k → (s.aisleRecord a).reservedBy = none →
        exec c s = .next { s1.setAisle a { holder := .none, reservedBy := none } with
                           inFlight := s.inFlight.erase c ++ [.freeAisleNotice a] })
    ∧ (∀ d, (s.aisleRecord a).holder = .robot k → (s.aisleRecord a).reservedBy = some d →
        (∀ b, b ≠ a → (s.aisleRecord b).reservedBy = some d → (s.aisleRecord b).holder ≠ .none →
          exec c s = .next (s1.setAisle a { holder := .none, reservedBy := some d }))
        ∧ (∀ f, (∀ b, b ≠ a → (s.aisleRecord b).reservedBy = some d → (s.aisleRecord b).holder = .none) →
            s.aou.claims.get d = some f →
            ∃ t, exec c s = .next t
              ∧ (∀ b, t.aisleRecord b =
                  if (s.aisleRecord b).reservedBy = some d then { holder := .doffer d, reservedBy := some d }
                  else s.aisleRecord b)
              ∧ t = { s1 with aou := { s.aou with aisles := t.aou.aisles },
                              inFlight := s.inFlight.erase c ++ [.aislesHeldNotice d f] })))
    ∧ (∀ (d : DofferId) (f : FrameId) (set : List AisleId) (s : State),
      let t := s.reserveSet d f set
      let empty := ∀ a ∈ set, (s.aisleRecord a).holder = .none
      set ≠ [] → set.Pairwise (· < ·) →
      (∀ a, (s.aisleRecord a).reservedBy ≠ some d ∧ (s.aisleRecord a).holder ≠ .doffer d) →
      (empty → ∀ a, t.aisleRecord a = if a ∈ set then { holder := .doffer d, reservedBy := some d } else s.aisleRecord a)
        ∧ (empty → t.inFlight = s.inFlight ++ [.aislesHeldNotice d f])
        ∧ (¬empty → ∀ a, t.aisleRecord a =
            if a ∈ set then { s.aisleRecord a with reservedBy := some d } else s.aisleRecord a)
        ∧ (¬empty → ∃ recalls, t.inFlight = s.inFlight ++ recalls
            ∧ (∀ h, h ∈ recalls ↔ ∃ k, ∃ a ∈ set, (s.aisleRecord a).holder = .robot k ∧ h = .robotRecall k a)
            ∧ recalls.Pairwise fun x y => ∀ k a k' a', x = .robotRecall k a → y = .robotRecall k' a' → a < a')
        ∧ t.aou.claims.get d = some f ∧ (∀ e, e ≠ d → t.aou.claims.get e = s.aou.claims.get e)
        ∧ t.aou.waiting = s.aou.waiting ∧ t = { s with aou := t.aou, inFlight := t.inFlight })
    ∧ (∀ (d : DofferId) (s : State),
      let t := s.endClaim d
      ∃ v : State,
        (∀ a, v.aisleRecord a =
          { holder := if (s.aisleRecord a).holder = .doffer d then .none else (s.aisleRecord a).holder,
            reservedBy := if (s.aisleRecord a).reservedBy = some d then none else (s.aisleRecord a).reservedBy })
        ∧ v.aou.waiting = s.aou.waiting.filter (fun p => p.doffer != d)
        ∧ v.aou.claims.get d = none ∧ (∀ e, e ≠ d → v.aou.claims.get e = s.aou.claims.get e)
        ∧ v = { s with aou := v.aou }
        ∧ ((∃ a, (s.aisleRecord a).reservedBy = some d) → t = v.scan)
        ∧ ((∀ a, (s.aisleRecord a).reservedBy ≠ some d) → t = v))
    ∧ (∀ (p : PendingReservation) (rest : List PendingReservation) (s : State),
      let blocked := ∃ a ∈ p.aisles, ∃ e, (s.aisleRecord a).reservedBy = some e ∧ e ≠ p.doffer
      (s.aou.waiting = [] → s.scan = s)
      ∧ (s.aou.waiting = p :: rest → ¬blocked →
          s.scan = ((s.setWaiting rest).reserveSet p.doffer p.frame p.aisles).scan)
      ∧ (s.aou.waiting = p :: rest → blocked → p ∉ rest →
          s.scan = (s.setWaiting rest).scan.setWaiting (p :: (s.setWaiting rest).scan.aou.waiting)))
    ∧ (∀ (d : DofferId) (f : FrameId) (s : State),
      let c : Instr := .dofferReservation d f
      let faces := fun a =>
        (0 < (s.entry f).lengthA ∧ (s.entry f).aisle .A = a) ∨ (0 < (s.entry f).lengthB ∧ (s.entry f).aisle .B = a)
      let set := (s.entry f).aisleSet
      let u := { s with inFlight := (s.inFlight.erase c).filter fun h => !heldNoticeOf d h }
      let claims := (∃ a, (s.aisleRecord a).reservedBy = some d ∨ (s.aisleRecord a).holder = .doffer d)
        ∨ ∃ p ∈ s.aou.waiting, p.doffer = d
      let place := fun v : State =>
        if ∀ a ∈ set, (v.aisleRecord a).reservedBy = none ∨ (v.aisleRecord a).reservedBy = some d then v.reserveSet d f set
        else v.setWaiting (v.aou.waiting ++ [{ doffer := d, frame := f, aisles := set }])
      let w := u.endClaim d
      s.Next dcuToAou c →
      (∀ a, a ∈ set ↔ faces a) ∧ set.Pairwise (· < ·)
        ∧ (¬claims → exec c s = .next (place u))
        ∧ (claims → exec c s = .next ((place w).emitAll
            (((List.finRange 64).filter fun a =>
              (decide ((s.aisleRecord a).holder = .doffer d) || decide ((s.aisleRecord a).reservedBy = some d))
                && decide ((w.aisleRecord a).holder = .none) && decide ((w.aisleRecord a).reservedBy = none)).map
              Instr.freeAisleNotice))))
    ∧ (∀ (d : DofferId) (s : State),
      let c : Instr := .dofferRelease d
      let w := (s.drop c).endClaim d
      s.Next dcuToAou c →
      exec c s = .next (w.emitAll
        (((List.finRange 64).filter fun a =>
          (decide ((s.aisleRecord a).holder = .doffer d) || decide ((s.aisleRecord a).reservedBy = some d))
            && decide ((w.aisleRecord a).holder = .none) && decide ((w.aisleRecord a).reservedBy = none)).map
          Instr.freeAisleNotice)))

/-! ### Doff cycle (spec/07) -/


/-- The doff trigger: the frame is STOPPING, with the cancel of its piecing, STOP-DOFF, the stop timer and a place at the
tail of the doff queue; it waits there while no IDLE doffer has it in reach, else the lowest-numbered that has picks (R118,
R121, R122, R124). A frame enters HELD with a cause: its stop timer
and its queue entry go, the cancel of its piecing is made if it span, HOLD-FRAME is sent, and FRAME-HELD is raised for the
causes STOP-TIMEOUT and DOFF-TIMEOUT alone; a CLAIMING doffer is sent DOFF-CANCEL, becomes IDLE and its release is asked
(R135). That doffer finds no other frame in its reach. A delivery hand-off with the target reached fires the trigger for a
frame that spins, and the start-up remainder is then left alone; a hand-off of a disabled frame is discarded (R44, R49,
R124). A delivery hand-off at the DCU with no target reached: it counts off the start-up remainder of a STARTING frame
alone, which becomes RUNNING at 0 with the notice to the PCD (R44, R132). -/
def Obligations.StopsOfFrames : Prop :=
  (∀ (f : FrameId) (s : State),
    let queued :=
      { sendStopDoff f s with
        dcu := { s.dcu with
          frames := s.dcu.frames.set f
            { s.cycle f with state := .stopping, stopTimer := some (s.timer + 1000 * s.store.settings.stopTimeout) },
          queue := s.dcu.queue ++ [f] },
        inFlight := s.inFlight ++
          (if s.frameState f = .running ∨ s.frameState f = .starting then [.smuPiecingCancel f, .pcdPiecingCancel f]
           else []) }
    (s.NoIdleDoffer f → s.trigger f = queued) ∧ (∀ d, s.OfferedTo f d → s.trigger f = queued.pick d))
    ∧ (∀ (f : FrameId) (cause : HoldCause) (s : State),
      let queue := s.dcu.queue.filter fun g => g != f
      let cancels : List Instr :=
        if s.frameState f = .running ∨ s.frameState f = .starting then [.smuPiecingCancel f, .pcdPiecingCancel f] else []
      let raised := fun t : State =>
        if cause = .stopTimeout ∨ cause = .doffTimeout then t.alarm .frameHeld 0 f.val cause.code else t
      let held : FrameCycle := { s.cycle f with state := .held, cause := some cause, claim := none, stopTimer := none }
      (((s.cycle f).claim = none ∨ ∃ d, (s.cycle f).claim = some d ∧ (s.doffer d).state ≠ .claiming) →
        s.enterHeld f cause = raised
          { sendHoldFrame f s with
            dcu := { s.dcu with frames := s.dcu.frames.set f held, queue }, inFlight := s.inFlight ++ cancels })
      ∧ (∀ d, (s.cycle f).claim = some d → (s.doffer d).state = .claiming → (s.doffer d).reachPending = none →
          (∀ g ∈ queue, (s.doffer d).reaches g = false) →
          s.enterHeld f cause = raised
            { sendHoldFrame f (sendDoffCancel d s) with
              dcu := { frames := s.dcu.frames.set f held,
                       doffers := s.dcu.doffers.set d
                         { s.doffer d with state := .idle, frame := none, held := false, timer := none },
                       queue },
              inFlight := s.inFlight ++ .dofferRelease d :: cancels }))
    ∧ (∀ (f : FrameId) (dL : Nat) (s : State),
      let c : Instr := .dcuDeliveryHandoff f dL true
      s.Next (dcuLane f) c → s.NoneFlying (dauFirst f) → s.NoneFlying (spuFirst f) →
      (s.enabled f = false → exec c s = .next (s.drop c))
      ∧ (s.enabled f = true → (s.frameState f = .running ∨ s.frameState f = .starting) →
          exec c s = .next ((s.drop c).trigger f))
      ∧ (s.enabled f = true → s.frameState f ≠ .running → s.frameState f ≠ .starting → exec c s = .next (s.drop c)))
    ∧ (∀ (f : FrameId) (dL : Nat) (s : State),
      let c : Instr := .dcuDeliveryHandoff f dL false
      let left := (s.cycle f).startUp - dL
      s.Next (dcuLane f) c → s.NoneFlying (dauFirst f) → s.NoneFlying (spuFirst f) → s.enabled f = true →
      (s.frameState f ≠ .starting → exec c s = .next (s.drop c))
      ∧ (s.frameState f = .starting → 0 < left →
          exec c s = .next ((s.drop c).setCycle f { s.cycle f with startUp := left }))
      ∧ (s.frameState f = .starting → left = 0 →
          exec c s = .next
            { (s.drop c).setCycle f { s.cycle f with startUp := 0, state := .running } with
              inFlight := s.inFlight.erase c ++ [.frameRunningNotice f] }))

/-- An IDLE doffer picks the first frame of the queue in its reach: the entry leaves, doffer and frame record each other,
the doffer is CLAIMING with its aisles not held and the AOU is asked for them; with no such frame it stays IDLE (R121).
DOFFER-READY makes an OFFLINE or FAULTED doffer IDLE with no frame, a pending reach in force; it then picks. In any other
state it is stale (R120). -/
def Obligations.DoffersPick : Prop :=
  (∀ (d : DofferId) (s : State),
    ((∀ f ∈ s.dcu.queue, (s.doffer d).reaches f = false) → s.pick d = s)
    ∧ (∀ before f after, s.dcu.queue = before ++ f :: after → (∀ g ∈ before, (s.doffer d).reaches g = false) →
        (s.doffer d).reaches f = true →
        s.pick d =
          { s with
            dcu := { frames := s.dcu.frames.set f { s.cycle f with claim := some d },
                     doffers := s.dcu.doffers.set d
                       { s.doffer d with state := .claiming, frame := some f, held := false },
                     queue := before ++ after },
            inFlight := s.inFlight ++ [.dofferReservation d f] }))
    ∧ (∀ (node seq : Nat) (s : State),
      let c : Instr := .dofferReady node seq
      let d := dofferAt node
      let r := s.doffer d
      s.Takes c →
      ((r.state = .offline ∨ r.state = .faulted) →
        exec c s = .next (((s.copyReport c).setDoffer d
          { state := .idle, frame := none, held := false, reach := r.reachPending.getD r.reach, reachPending := none,
            timer := none }).pick d))
      ∧ ((r.state = .idle ∨ r.state = .claiming ∨ r.state = .doffing) → exec c s = .next ((s.copyReport c).bump .stale)))

/-- STOPPED, "aisles held" and the doff: a STOPPING frame drops its timer and is DOFF-WAIT, and the doff starts when the
second of STOPPED and "aisles held" comes: DOFF-GO, frame and doffer DOFFING, the doff timer set. A STOPPED in another state
is counted; a notice for a claim that does not stand has no effect, nor one that finds the claim's own request still in flight,
which is of a former claim (R111, R125, R127, R128; log 3). -/
def Obligations.DoffStartsOnBoth : Prop :=
  ∀ (node seq : Nat) (d : DofferId) (s : State),
    let c : Instr := .stopped node seq
    let f := frameAt node
    let n : Instr := .aislesHeldNotice d f
    let stopped : FrameCycle := { s.cycle f with state := .doffWait, stopTimer := none }
    let at_ := fun (t : State) (r : FrameCycle) =>
      { sendDoffGo d f t with
        dcu := { s.dcu with
          frames := s.dcu.frames.set f { r with state := .doffing },
          doffers := s.dcu.doffers.set d
            { s.doffer d with state := .doffing, held := true,
                              timer := some (s.timer + 60000 * (s.store.doffers.get d).timeout) } } }
    s.NoneFlying (dauFirst f) → s.NoneFlying (spuFirst f) →
    (s.Takes c →
      (s.frameState f ≠ .stopping → exec c s = .next ((s.copyReport c).bump .stoppedFrame))
      ∧ (s.frameState f = .stopping → (s.cycle f).claim = none → exec c s = .next ((s.copyReport c).setCycle f stopped))
      ∧ (s.frameState f = .stopping → (s.cycle f).claim = some d →
          ((s.doffer d).held = false → exec c s = .next ((s.copyReport c).setCycle f stopped))
          ∧ ((s.doffer d).held = true → exec c s = .next (at_ (s.copyReport c) stopped))))
    ∧ (s.power = .on →
        (((s.doffer d).state ≠ .claiming ∨ (s.doffer d).frame ≠ some f ∨ .dofferReservation d f ∈ s.inFlight) →
          exec n s = .next (s.drop n))
        ∧ ((s.doffer d).state = .claiming → (s.doffer d).frame = some f → .dofferReservation d f ∉ s.inFlight →
            (s.frameState f = .doffWait → exec n s = .next (at_ (s.drop n) (s.cycle f)))
            ∧ (s.frameState f ≠ .doffWait →
                exec n s = .next ((s.drop n).setDoffer d { s.doffer d with held := true }))))

/-- DOFF-DONE of the frame that the doffer is doffing: the doffer is IDLE and its release is asked, one doff goes to the
SCU, the next article if any comes into force, the DAU and the SMU are asked for the doff completion, and the frame is
STARTING with the start-up length of its article, or RUNNING where that is 0, with the notice to the PCD; after a switch the
DAU keeps the former article until it takes its completion (R51; log 42); the doffer picks last, with a pending reach in force,
and stays IDLE where no queued frame is in its reach (R121). Any other DOFF-DONE is stale (R129, R130). -/
def Obligations.DoffDoneRestartsFrame : Prop :=
  ∀ (node seq frame : Nat) (s : State),
    let c : Instr := .doffDone node seq frame
    let d := dofferAt node
    let f := frameAt frame
    let e := s.entry f
    let switched := decide (e.nextArticle ≠ 0xFF)
    let e' := if e.nextArticle = 0xFF then e else { e with article := e.nextArticle, nextArticle := 0xFF }
    let startUp := (s.store.articles.get (Fin.ofNat 16 e'.article)).startUp
    let r := s.doffer d
    let r' : Doffer :=
      { state := .idle, frame := none, held := false, reach := r.reachPending.getD r.reach, reachPending := none,
        timer := none }
    let done : State :=
      { (s.copyReport c).setEntry f e' with
        dau :=
          if switched = true then
            s.dau.set f { s.deliveryRecord f with former := some ((s.deliveryRecord f).former.getD (s.article f)) }
          else s.dau,
        dcu := { s.dcu with
          frames := s.dcu.frames.set f
            { s.cycle f with state := if 0 < startUp then .starting else .running, startUp, claim := none },
          doffers := s.dcu.doffers.set d r' },
        inFlight := s.inFlight ++ [.dofferRelease d, .scuDoff f, .dauDoffCompletion f switched,
          .spindleDoffCompletion f, .frameRunningNotice f] }
    s.Takes c → s.NoneFlying (dauFirst f) → s.NoneFlying (spuFirst f) →
    ((r.state ≠ .doffing ∨ r.frame ≠ some f) → exec c s = .next ((s.copyReport c).bump .stale))
    ∧ (r.state = .doffing → r.frame = some f → s.frameState f = .doffing →
        exec c s = .next (done.pick d) ∧ ((∀ g ∈ s.dcu.queue, r'.reaches g = false) → exec c s = .next done))

/-- DOFFER-FAULT: an IDLE doffer is FAULTED; a CLAIMING one gives its frame back to the head of the queue, and the
lowest-numbered IDLE doffer that has it in reach, if any, picks (R121, R122); a DOFFING one, or one whose doff timer passes, leaves its frame HELD with cause DOFF-TIMEOUT; each with the alarm DOFFER-FAULT and, where it
had a frame, the release asked of the AOU; the timer's passing also sends DOFF-CANCEL, and the line timer then stands at the
deadline or further on (log 5); with no timer running nothing passes. Otherwise the report is stale (R133, R134). -/
def Obligations.DofferFaults : Prop :=
  ∀ (node seq : Nat) (f : FrameId) (s : State),
    let c : Instr := .dofferFault node seq
    let d := dofferAt node
    let r := s.doffer d
    let s1 := s.copyReport c
    let out : Doffer := { r with state := .faulted, frame := none, held := false, timer := none }
    let gone := fun t : State => { t.setDoffer d out with inFlight := s.inFlight ++ [.dofferRelease d] }
    s.NoneFlying (dauFirst f) → s.NoneFlying (spuFirst f) →
    (s.Takes c →
      ((r.state = .offline ∨ r.state = .faulted) → exec c s = .next (s1.bump .stale))
      ∧ (r.state = .idle → r.frame = none →
          exec c s = .next (State.alarm .dofferFault 2 d.val 0x00FF (s1.setDoffer d out)))
      ∧ (r.state = .claiming → r.frame = some f →
          let queued :=
            { gone s1 with
              dcu := { frames := s.dcu.frames.set f { s.cycle f with claim := none },
                       doffers := s.dcu.doffers.set d out, queue := f :: s.dcu.queue } }
          (s.NoIdleDoffer f → exec c s = .next (State.alarm .dofferFault 2 d.val f.val queued))
          ∧ (∀ d', s.OfferedTo f d' → exec c s = .next (State.alarm .dofferFault 2 d.val f.val (queued.pick d'))))
      ∧ (r.state = .doffing → r.frame = some f →
          exec c s = .next (State.enterHeld f .doffTimeout (State.alarm .dofferFault 2 d.val f.val (gone s1)))))
    ∧ (s.power = .on →
        (r.timer = none → exec (.doffTimerExpiry d) s = .next s)
        ∧ (∀ t, r.timer = some t → r.state = .doffing → r.frame = some f →
            exec (.doffTimerExpiry d) s = .next (State.enterHeld f .doffTimeout
              (State.alarm .dofferFault 2 d.val (0x0100 + f.val)
                (gone (sendDoffCancel d { s with timer := timerReading (max s.timer t) }))))))

/-- FRAME-CMD at the DCU: HOLD takes a frame that runs, starts, stops or waits into HELD with cause MILL; DOFF-NOW fires the
trigger for a frame that spins; RESUME returns a HELD frame to RUNNING with the SPU asked for its speed, or fires the
trigger where the cop is full; each is answered OK, and in any other state BAD-STATE with nothing else changed (R34, R124,
R136, R137). The checks of a FRAME-CMD stand before the frame's own unit: a frame above 47 is BAD-INDEX, a command above 3
BAD-VALUE in field 2, a frame not enabled BAD-STATE, and nothing else changes (R34). -/
def Obligations.FrameCommands : Prop :=
  (∀ (seq : Nat) (f : FrameId) (s : State),
    let ok := fun t : State => t.offerUp (replyTelegram seq .ok 0 [])
    let bad := s.offerUp (replyTelegram seq .badState 0 [])
    let st := s.frameState f
    let spins := st = .running ∨ st = .starting
    let resumed := s.setCycle f { s.cycle f with cause := none }
    s.Manages → s.enabled f = true → s.NoneFlying (dauFirst f) → s.NoneFlying (spuFirst f) →
    ((spins ∨ st = .stopping ∨ st = .doffWait) → exec (.hold seq f.val 0) s = .next (ok (s.enterHeld f .mill)))
    ∧ ((st = .offline ∨ st = .doffing ∨ st = .held) → exec (.hold seq f.val 0) s = .next bad)
    ∧ (spins → exec (.doffNow seq f.val) s = .next (ok (s.trigger f)))
    ∧ (¬spins → exec (.doffNow seq f.val) s = .next bad)
    ∧ (st = .held → (s.article f).doffTarget ≤ (s.deliveryRecord f).cop →
        exec (.resume seq f.val) s = .next (ok ((resumed.trigger f).emit (.spuResumeRequest f false))))
    ∧ (st = .held → (s.deliveryRecord f).cop < (s.article f).doffTarget →
        exec (.resume seq f.val) s = .next (ok
          { s.setCycle f { s.cycle f with state := .running, cause := none, startUp := 0 } with
            inFlight := s.inFlight ++ [.frameRunningNotice f, .spuResumeRequest f true] }))
    ∧ (st ≠ .held → exec (.resume seq f.val) s = .next bad))
    ∧ (∀ (seq frame : Nat) (s : State), s.Manages →
      let answers := fun (c : Instr) (result : Result) (fieldNo : Nat) =>
        exec c s = .next (s.offerUp (replyTelegram seq result fieldNo []))
      (∀ n, 47 < frame → answers (.hold seq frame n) .badIndex 0) ∧ (47 < frame → answers (.resume seq frame) .badIndex 0)
      ∧ (47 < frame → answers (.doffNow seq frame) .badIndex 0)
      ∧ (∀ g l, 47 < frame → answers (.groupLoaded seq frame g l) .badIndex 0)
      ∧ (∀ n, frame ≤ 47 → 3 < n → answers (.hold seq frame n) .badValue 2)
      ∧ (∀ n, frame ≤ 47 → n ≤ 3 → s.enabled (frameAt frame) = false → answers (.hold seq frame n) .badState 0)
      ∧ (frame ≤ 47 → s.enabled (frameAt frame) = false →
          answers (.resume seq frame) .badState 0 ∧ answers (.doffNow seq frame) .badState 0
            ∧ ∀ g l, answers (.groupLoaded seq frame g l) .badState 0))

/-! ### Roving supply (spec/09) -/


/-- The RSU judges a group: one that is SUPPLIED with a figure at or below the low mark of the article in force is admitted:
while the set has room it is QUEUED at the end with the next sequence, and the lowest-numbered IDLE carrier is dispatched;
with the set full it is UNQUEUED, REPL-SET-FULL latches and its alarm is raised. Any other group is left as it is (R153,
R156). A dispatched carrier takes the entry whose group has the least roving, the oldest of equals: the entry leaves the
set, the group is CALLED with the carrier, CARRIER-GO is sent, and the carrier is in TRAVEL with its timer set; with the set
empty it stays as it is; with no group UNQUEUED the place stays free (R157, R158, R160). A freed place is filled from the
UNQUEUED group of least roving, ties going to the lower frame and then the lower group: it is QUEUED at the end of the set with
the next sequence, with no alarm, and the lowest-numbered IDLE carrier is dispatched; several places are filled one after
another (R158). -/
def Obligations.GroupsAreAdmitted : Prop :=
  (∀ (f : FrameId) (g : GroupId) (r : Group) (s : State), s.groupRecord f g = some r →
    let low := r.remaining ≤ (s.article f).lowMark
    let q := s.rsu.nextSequence
    let joined :=
      { s with rsu := { s.rsu with
          groups := s.rsu.groups.modify f fun t => t.set g (some { r with state := .queued, sequence := some q }),
          set := s.rsu.set ++ [{ frame := f, group := g, sequence := q }], nextSequence := q + 1#16 } }
    (r.state ≠ .supplied ∨ ¬low → s.judge f g = s)
    ∧ (r.state = .supplied → low → s.rsu.set.length < 64 →
        ((∀ c, (s.carrier c).state ≠ .idle) → s.judge f g = joined)
        ∧ (∀ c, (s.carrier c).state = .idle → (∀ c', c' < c → (s.carrier c').state ≠ .idle) →
            s.judge f g = joined.dispatch 8 c))
    ∧ (r.state = .supplied → low → 64 ≤ s.rsu.set.length →
        s.judge f g =
          State.alarm .replSetFull 4 (f.val * 32 + g.val) 0
            (State.latch .replSetFull (s.setGroup f g (some { r with state := .unqueued, sequence := none })))))
    ∧ (∀ (c : CarrierId) (s : State), (∀ f g r, s.groupRecord f g = some r → r.state ≠ .unqueued) →
      (s.rsu.set = [] → s.dispatch 8 c = s)
      ∧ (∀ before e after r, s.rsu.set = before ++ e :: after → s.groupRecord e.frame e.group = some r →
          (∀ x ∈ before, s.remaining e.frame e.group < s.remaining x.frame x.group) →
          (∀ x ∈ after, s.remaining e.frame e.group ≤ s.remaining x.frame x.group) →
          s.dispatch 8 c =
            { sendCarrierGo c e.frame e.group s with
              rsu :=
                { groups := s.rsu.groups.modify e.frame fun t =>
                    t.set e.group (some { r with state := .called, carrier := some c }),
                  set := before ++ after, nextSequence := s.rsu.nextSequence,
                  carriers := s.rsu.carriers.set c
                    { s.carrier c with
                      state := .travel, trip := some (e.frame, e.group),
                      timer := some (s.timer + 60000 * (s.store.carriers.get c).travelTimeout) } } }))
    ∧ (∀ s : State,
      (s.leastUnqueued = none ↔ ∀ f g r, s.groupRecord f g = some r → r.state ≠ .unqueued)
      ∧ (∀ f g, s.leastUnqueued = some (f, g) ↔
          (∃ r, s.groupRecord f g = some r ∧ r.state = .unqueued)
          ∧ ∀ f' g' r', s.groupRecord f' g' = some r' → r'.state = .unqueued →
              s.remaining f g < s.remaining f' g'
                ∨ (s.remaining f g = s.remaining f' g' ∧ (f < f' ∨ (f = f' ∧ g ≤ g'))))
      ∧ (s.leastUnqueued = none → s.fillPlace = s)
      ∧ (64 ≤ s.rsu.set.length → s.fillPlace = s)
      ∧ (∀ f g r, s.leastUnqueued = some (f, g) → s.groupRecord f g = some r → s.rsu.set.length < 64 →
          let q := s.rsu.nextSequence
          let joined :=
            { s with rsu := { s.rsu with
                groups := s.rsu.groups.modify f fun t => t.set g (some { r with state := .queued, sequence := some q }),
                set := s.rsu.set ++ [{ frame := f, group := g, sequence := q }], nextSequence := q + 1#16 } }
          ((∀ c, (s.carrier c).state ≠ .idle) → s.fillPlace = joined)
          ∧ (∀ c, (s.carrier c).state = .idle → (∀ c', c' < c → (s.carrier c').state ≠ .idle) →
              s.fillPlace = joined.dispatch 8 c))
      ∧ (∀ n, s.fillPlaces (n + 1) = s.fillPlace.fillPlaces n) ∧ s.fillPlaces 0 = s
      ∧ (∀ c before e after r f g u, s.rsu.set = before ++ e :: after → s.groupRecord e.frame e.group = some r →
          r.state = .queued → (∀ x ∈ before, s.remaining e.frame e.group < s.remaining x.frame x.group) →
          (∀ x ∈ after, s.remaining e.frame e.group ≤ s.remaining x.frame x.group) →
          s.leastUnqueued = some (f, g) → s.groupRecord f g = some u → (∀ c', c' ≠ c → (s.carrier c').state ≠ .idle) →
          s.dispatch 8 c =
            { sendCarrierGo c e.frame e.group s with
              rsu :=
                { groups := (s.rsu.groups.modify e.frame fun t =>
                    t.set e.group (some { r with state := .called, carrier := some c })).modify f fun t =>
                      t.set g (some { u with state := .queued, sequence := some s.rsu.nextSequence }),
                  set := before ++ after ++ [{ frame := f, group := g, sequence := s.rsu.nextSequence }],
                  nextSequence := s.rsu.nextSequence + 1#16,
                  carriers := s.rsu.carriers.set c
                    { s.carrier c with
                      state := .travel, trip := some (e.frame, e.group),
                      timer := some (s.timer + 60000 * (s.store.carriers.get c).travelTimeout) } } }))

/-- CARRIER-READY makes an OFFLINE, RETURNING or FAULTED carrier IDLE with the load reported, and it is then dispatched;
from any other carrier it is stale (R159, R160). ARRIVED of a carrier in TRAVEL to that group: while a spindle of the group
is ASSIGNED it is in WAIT with no timer, else CHANGE-GO is sent and carrier and group are CHANGING with the change timer
set; any other ARRIVED is stale. The notice that the group has no ASSIGNED spindle left starts the change of a carrier in
WAIT there, and has no effect without one (R161, R162). -/
def Obligations.CarrierTrips : Prop :=
  (∀ (node seq load : Nat) (s : State),
    let c : Instr := .carrierReady node seq load
    let x := carrierAt node
    let st := (s.carrier x).state
    s.Takes c →
    ((st = .offline ∨ st = .returning ∨ st = .faulted) →
      exec c s = .next (((s.copyReport c).setCarrier x { state := .idle, trip := none, load, timer := none }).dispatch 8 x))
    ∧ ((st = .idle ∨ st = .travel ∨ st = .wait ∨ st = .changing) → exec c s = .next ((s.copyReport c).bump .stale)))
    ∧ (∀ (node seq frame group : Nat) (s : State),
      let c : Instr := .arrived node seq frame group
      let x := carrierAt node
      let f := frameAt frame
      let g : GroupId := Fin.ofNat 32 group
      let r := s.carrier x
      let n : Instr := .lastAssignedNotice f g
      let change := fun (y : CarrierId) (old : Group) (t : State) =>
        { sendChangeGo y t with
          rsu := { s.rsu with
            groups := s.rsu.groups.modify f fun tab => tab.set g (some { old with state := .changing }),
            carriers := s.rsu.carriers.set y
              { s.carrier y with state := .changing,
                                 timer := some (s.timer + 60000 * (s.store.carriers.get y).changeTimeout) } } }
      (s.Takes c → s.NoneFlying (lastAssignedOf f g) → s.NoneFlying (smuFirst f) →
        ((r.state ≠ .travel ∨ r.trip ≠ some (f, g)) → exec c s = .next ((s.copyReport c).bump .stale))
        ∧ (r.state = .travel → r.trip = some (f, g) →
            (s.groupAssigned f g = true →
              exec c s = .next ((s.copyReport c).setCarrier x { r with state := .wait, timer := none }))
            ∧ (∀ old, s.groupAssigned f g = false → s.groupRecord f g = some old →
                exec c s = .next (change x old (s.copyReport c)))))
      ∧ (s.power = .on →
          ((∀ y, ¬((s.carrier y).state = .wait ∧ (s.carrier y).trip = some (f, g))) → exec n s = .next (s.drop n))
          ∧ (∀ y old, (s.carrier y).state = .wait → (s.carrier y).trip = some (f, g) →
              (∀ y', y' < y → ¬((s.carrier y').state = .wait ∧ (s.carrier y').trip = some (f, g))) →
              s.groupRecord f g = some old → exec n s = .next (change y old (s.drop n)))))

/-- A group refilled to a length: the figure is the length, every STARVED spindle of the group is BROKEN with its notice, the
group is SUPPLIED with no sequence and no carrier; no other group and no other spindle changes (R72). The group is then judged,
so that one whose length is at or below the low mark is admitted, and last the PCD is asked to re-evaluate it; nothing else
changes (R156, R163, R166). A length above the low mark leaves the group as it was filled. -/
def Obligations.GroupIsRefilled : Prop :=
  ∀ (f : FrameId) (g : GroupId) (length : Nat) (r : Group) (s : State),
    s.groupRecord f g = some r → s.NoneFlying (smuFirst f) →
    ∃ t : State,
      s.refill f g length =
          { t.judge f g with inFlight := (t.judge f g).inFlight ++ [.groupReevaluation f g] }
      ∧ ((s.article f).lowMark < length → t.judge f g = t)
      ∧ t.groupRecord f g = some { remaining := length, state := .supplied, sequence := none, carrier := none }
      ∧ (∀ f' g', (f', g') ≠ (f, g) → t.groupRecord f' g' = s.groupRecord f' g')
      ∧ (∀ side i, let sp := s.spindle f side i
          t.spindle f side i =
            if sp.state = .starved ∧ (s.entry f).groupOf side i = g then { sp with state := .broken } else sp)
      ∧ (∀ f' side i, f' ≠ f → t.spindle f' side i = s.spindle f' side i)
      ∧ (∃ notices, t.inFlight = s.inFlight ++ notices ∧ ∀ h, h ∈ notices ↔
          ∃ side i, (s.spindle f side i).state = .starved ∧ (s.entry f).groupOf side i = g ∧ h = .brokenNotice f side i)
      ∧ t = { s with smu := { s.smu with maps := t.smu.maps }, rsu := { s.rsu with groups := t.rsu.groups },
                     inFlight := t.inFlight }

/-- CHANGE-DONE of a carrier CHANGING that group: the carrier is RETURNING with its load kept and the group is refilled to
that load; any other is stale (R163). GROUP-LOADED: a group of the frame is refilled to the length by its supply state: a
SUPPLIED or UNQUEUED one as it is, a QUEUED one after it has left the set and the freed place is filled (the model's order: log
38), a CALLED one after its carrier is sent CARRIER-ABORT and RETURNING; a CHANGING one is refused BAD-STATE; a group the frame
does not have and a length outside 1 to 4,000,000 are BAD-VALUE (R34, R158, R166). An alarm of the refill stands before the
REPLY (the model's choice: log 39). -/
def Obligations.RefillsByCarrierAndHand : Prop :=
  (∀ (node seq frame group : Nat) (s : State),
    let c : Instr := .changeDone node seq frame group
    let x := carrierAt node
    let f := frameAt frame
    let g : GroupId := Fin.ofNat 32 group
    let r := s.carrier x
    s.Takes c →
    ((r.state ≠ .changing ∨ r.trip ≠ some (f, g)) → exec c s = .next ((s.copyReport c).bump .stale))
    ∧ (r.state = .changing → r.trip = some (f, g) →
        exec c s = .next
          (State.refill f g r.load
            ((s.copyReport c).setCarrier x { r with state := .returning, trip := none, timer := none }))))
    ∧ (∀ (seq group length : Nat) (f : FrameId) (s : State),
      let c : Instr := .groupLoaded seq f.val group length
      let g : GroupId := Fin.ofNat 32 group
      let ok := fun t : State => t.offerUp (replyTelegram seq .ok 0 [])
      s.Manages → s.enabled f = true →
      ((s.entry f).hasGroup group = false → exec c s = .next (s.offerUp (replyTelegram seq .badValue 3 [])))
      ∧ ((s.entry f).hasGroup group = true →
          ((length = 0 ∨ 4000000 < length) → exec c s = .next (s.offerUp (replyTelegram seq .badValue 4 [])))
          ∧ (∀ r, 0 < length → length ≤ 4000000 → s.groupRecord f g = some r →
              ((r.state = .supplied ∨ r.state = .unqueued) → exec c s = .next (ok (s.refill f g length)))
              ∧ (r.state = .queued →
                  exec c s = .next (ok (State.refill f g length
                    (s.setSet (s.rsu.set.filter fun e => !(e.frame == f && e.group == g))).fillPlace)))
              ∧ (∀ x, r.state = .called → r.carrier = some x →
                  exec c s = .next (ok (State.refill f g length
                    ((sendCarrierAbort x s).setCarrier x
                      { s.carrier x with state := .returning, trip := none, timer := none }))))
              ∧ (r.state = .changing → exec c s = .next (s.offerUp (replyTelegram seq .badState 0 []))))))

/-- CARRIER-FAULT and the travel and change timers: a carrier on a trip is FAULTED with no group, and its group returns to
SUPPLIED and is judged; the passing of a timer also sends CARRIER-ABORT, and the line timer then stands at the deadline or
further on (the model's choice: log 5); a carrier without a trip is FAULTED; the alarm CARRIER-FAULT tells which, behind an
alarm of the group's re-admission (the model's choice: log 35). The RSU asks for no re-evaluation of the group where a wait
or a change ends so (the model's choice beside R80: log 54). With no timer running nothing passes; any other report is stale
(R164, R165). -/
def Obligations.CarrierTripsFail : Prop :=
  ∀ (node seq : Nat) (f : FrameId) (g : GroupId) (old : Group) (s : State),
    let c : Instr := .carrierFault node seq
    let x := carrierAt node
    let r := s.carrier x
    let onTrip := r.trip = some (f, g) ∧ s.groupRecord f g = some old
    let out := fun (t : State) (detail : Nat) =>
      State.alarm .carrierFault 3 x.val detail
        (State.judge f g
          { t with rsu := { s.rsu with
              groups := s.rsu.groups.modify f fun tab =>
                tab.set g (some { old with state := .supplied, sequence := none, carrier := none }),
              carriers := s.rsu.carriers.set x { r with state := .faulted, trip := none, timer := none } } })
    (s.Takes c →
      ((r.state = .offline ∨ r.state = .faulted) → exec c s = .next ((s.copyReport c).bump .stale))
      ∧ ((r.state = .idle ∨ r.state = .returning) →
          exec c s = .next (State.alarm .carrierFault 3 x.val 0x00FF ((s.copyReport c).setCarrier x { r with state := .faulted })))
      ∧ ((r.state = .travel ∨ r.state = .wait ∨ r.state = .changing) → onTrip →
          exec c s = .next (out (s.copyReport c) f.val)))
    ∧ (s.power = .on →
        (r.timer = none → exec (.travelTimerExpiry x) s = .next s ∧ exec (.changeTimerExpiry x) s = .next s)
        ∧ (∀ t, r.timer = some t → onTrip →
            (r.state = .travel →
              exec (.travelTimerExpiry x) s = .next
                (out (sendCarrierAbort x { s with timer := timerReading (max s.timer t) }) (0x0100 + f.val)))
            ∧ (r.state = .changing →
                exec (.changeTimerExpiry x) s = .next
                  (out (sendCarrierAbort x { s with timer := timerReading (max s.timer t) }) (0x0200 + f.val)))))

/-! ### Line tables and management telegrams (spec/02, spec/10) -/


/-- A TABLE-WRITE of any row with a fault of form is refused before any field is looked at, and changes nothing but the reply:
a table above 7 BAD-TABLE, an index the table does not have BAD-INDEX, a mask bit beyond its fields BAD-VALUE with the lowest
such field, a length that is not the sum of the widths BAD-LENGTH; a mask of 0 is OK and writes nothing (R16 to R18). The
resulting entry of a write: a selected field takes its own bytes of the values, in ascending field number and most significant
byte first, and a field that is not selected keeps its old value (R18). The fields have the widths and the order of Tables 2-3
to 2-6 and R10. The fields of an entry are the entry: what a write of all fields stores and what a read returns spell the same
record, for every record that the tables can hold (Tables 2-3 to 2-6, R18, R19). -/
def Obligations.WritesOfForm : Prop :=
  (∀ (seq table index mask : Nat) (values : List Byte) (s : State), s.Manages →
    let c := decodeTableWrite seq table index mask values
    let size := [48, 16, 8, 12, 8, 8, 1, 256].getD table 0
    let widths :=
      [frameWidths, articleWidths, zoneWidths, robotWidths, dofferWidths, carrierWidths, settingsWidths,
       dispositionWidths].getD table []
    let answers := fun (result : Result) (fieldNo : Nat) => exec c s = .next (s.offerUp (replyTelegram seq result fieldNo []))
    (7 < table → answers .badTable 0)
    ∧ (table ≤ 7 → size ≤ index → answers .badIndex 0)
    ∧ (∀ k, table ≤ 7 → index < size → widths.length ≤ k → k < 16 → mask.testBit k = true →
        (∀ j, widths.length ≤ j → j < k → mask.testBit j = false) → answers .badValue (k + 1))
    ∧ (table ≤ 7 → index < size → mask < 2 ^ widths.length →
        (values.length ≠ selectedWidth mask 0 widths → answers .badLength 0)
        ∧ (mask = 0 → values = [] → answers .ok 0)))
    ∧ (∀ (mask : Nat) (widths old : List Nat) (values : List Byte) (k : Nat),
      old.length = widths.length → values.length = selectedWidth mask 0 widths → k < widths.length →
      (overlay mask 0 widths old values).getD k 0 =
        if mask.testBit k = true then
          beNat ((values.drop (selectedWidth mask 0 (widths.take k))).take (widths.getD k 0))
        else old.getD k 0)
    ∧ (frameWidths = [1, 2, 2, 1, 2, 1, 2, 3, 1, 1, 1, 1]
      ∧ articleWidths = [1, 3, 2, 4, 3, 1, 24, 4, 1, 3, 1, 1, 1, 1, 1, 3] ∧ zoneWidths = [17, 1, 1] ∧ robotWidths = [1, 1]
      ∧ dofferWidths = [1, 6, 1] ∧ carrierWidths = [1, 1, 1] ∧ settingsWidths = [2, 1, 1, 1] ∧ dispositionWidths = [1, 1]
      ∧ (∀ e : FrameEntry, e.fields =
          [e.enabled, e.lengthA, e.lengthB, e.aisleA, e.offsetA, e.aisleB, e.offsetB, e.pulseLength, e.groupA, e.groupB,
           e.article, e.nextArticle])
      ∧ (∀ a : Article, ∃ coeffs, a.fields =
          [a.defined, a.density, a.draft, a.doffTarget, a.startUp, a.degree, coeffs, a.minRpm * 65536 + a.maxRpm, a.speedStep,
           a.interval, a.highThreshold, a.lowThreshold, a.quietIntervals, a.attemptLimit, a.repeatLimit, a.lowMark]
          ∧ beBytes 24 coeffs = a.coeffs.items.flatMap fun c => beBytes 4 c.toNat)
      ∧ (∀ z : ZoneEntry, ∃ list, z.fields = [list, z.piecingTimeout, z.verifyWindow]
          ∧ (z.slots.length = 16 → (∀ b ∈ z.slots, b < 256) → beBytes 17 list = (z.count :: z.slots).map (BitVec.ofNat 8)))
      ∧ (∀ e : RobotEntry, e.fields = [e.enabled, e.zone]) ∧ (∀ e : DofferEntry, e.fields = [e.enabled, e.reach.toNat, e.timeout])
      ∧ (∀ e : CarrierEntry, e.fields = [e.enabled, e.travelTimeout, e.changeTimeout])
      ∧ (∀ e : Settings, e.fields = [e.alarmEnable.toNat, e.stopTimeout, e.warnLevel, e.warnMode])
      ∧ (∀ e : Disposition, e.fields = [if e.copy = true then 0 else 1, if e.pass = true then 0 else 1]))
    ∧ ((∀ e : FrameEntry, FrameEntry.ofFields e.fields = e)
      ∧ (∀ a : Article, a.maxRpm < 65536 → Article.ofFields a.fields = a)
      ∧ (∀ z : ZoneEntry, z.count ≤ 16 → z.slots.length = 16 → (∀ b ∈ z.slots, b < 256) →
          (∀ b ∈ z.slots.drop z.count, b = 255) → ZoneEntry.ofFields z.fields = z)
      ∧ (∀ e : RobotEntry, RobotEntry.ofFields e.fields = e) ∧ (∀ e : DofferEntry, DofferEntry.ofFields e.fields = e)
      ∧ (∀ e : CarrierEntry, CarrierEntry.ofFields e.fields = e) ∧ (∀ e : Settings, Settings.ofFields e.fields = e)
      ∧ (∀ e : Disposition, Disposition.ofFields e.fields = e))

/-- A write that passes every check stores its resulting entry and is answered OK, and one whose entry breaks a condition is
answered BAD-VALUE with the lowest such field and changes nothing: frame writes that neither enable nor disable, articles,
zones, the Line Settings and dispositions. The conditions are those of Tables 2-3 to 2-6, spelled field by field. IN-USE comes
before it: a locked field of an enabled frame, an article in use, an aisle in another zone's list, an empty list for the zone
of an enabled robot. A zone's list has at most 16 aisles, each below 64 and none twice; the reserved bits of the alarm enable
set must be 0; a write that part commands be passed down is refused. The write of the Line Settings is followed by a crossing,
if the new level makes one, whose alarm stands before the REPLY (R10, R18, R20, R23 to R25, R29; the order is the model's: log
39). -/
def Obligations.AcceptedWritesAreStored : Prop :=
  ∀ (seq mask : Nat) (values : List Byte) (f : FrameId) (a : ArticleId) (z : ZoneId) (k : Fin 256) (s : State),
    let ok := fun t : State => t.offerUp (replyTelegram seq .ok 0 [])
    let bad := fun n : Nat => s.offerUp (replyTelegram seq .badValue n [])
    let form := fun widths : List Nat => mask ≠ 0 ∧ mask < 2 ^ widths.length ∧ values.length = selectedWidth mask 0 widths
    let passes := fun l : List Bool => ∀ b ∈ l, b = true
    let fails := fun (l : List Bool) (n : Nat) => n < l.length ∧ l.getD n true = false ∧ ∀ j, j < n → l.getD j true = true
    let frame := FrameEntry.ofFields (overlay mask 0 frameWidths (s.entry f).fields values)
    let article := Article.ofFields (overlay mask 0 articleWidths (s.store.articles.get a).fields values)
    let fields := overlay mask 0 zoneWidths (s.store.zones.get z).fields values
    let listed := (patrolSlots (fields.getD 0 0)).take (fields.getD 0 0 / 256 ^ 16)
    let settings := Settings.ofFields (overlay mask 0 settingsWidths s.store.settings.fields values)
    let written := overlay mask 0 settingsWidths s.store.settings.fields values
    let entry := overlay mask 0 dispositionWidths (s.link.disposition.get k).fields values
    let disposition := Disposition.ofFields entry
    let count := fields.getD 0 0 / 256 ^ 16
    let busy := (∃ b ∈ listed, s.inOtherZone z b = true)
      ∨ (count = 0 ∧ ∃ j, (s.store.robots.get j).enabled = 1 ∧ s.robotZone j = z)
    let ceil := fun length size : Nat => (length + size - 1) / size
    let defined := fun n : Nat => (s.store.articles.get (Fin.ofNat 16 n)).defined = 1
    let frameConds := fun e : FrameEntry =>
      [decide (e.enabled ≤ 1 ∧ (e.enabled = 1 → e.lengthA ≠ 0 ∨ e.lengthB ≠ 0)), decide (e.lengthA ≤ 1024),
       decide (e.lengthB ≤ 1024), decide (e.aisleA ≤ 63), decide (e.offsetA ≤ 2047 ∧ e.offsetA + e.lengthA ≤ 2048),
       decide (e.aisleB ≤ 63 ∧ (e.lengthA ≠ 0 → e.lengthB ≠ 0 → e.aisleB ≠ e.aisleA)),
       decide (e.offsetB ≤ 2047 ∧ e.offsetB + e.lengthB ≤ 2048), decide (1 ≤ e.pulseLength ∧ e.pulseLength ≤ 16777215),
       decide (16 ≤ e.groupA ∧ e.groupA ≤ 128 ∧ ceil e.lengthA e.groupA ≤ 16),
       decide (16 ≤ e.groupB ∧ e.groupB ≤ 128 ∧ ceil e.lengthB e.groupB ≤ 16),
       decide (e.article ≤ 15 ∧ (e.enabled = 1 → defined e.article)),
       decide (e.nextArticle = 0xFF ∨ (e.nextArticle ≤ 15 ∧ defined e.nextArticle))]
    let articleConds := fun e : Article =>
      [decide (e.defined ≤ 1), decide (1 ≤ e.density ∧ e.density ≤ 200000), decide (256 ≤ e.draft ∧ e.draft ≤ 25600),
       decide (1000 ≤ e.doffTarget ∧ e.doffTarget ≤ 50000000), decide (e.startUp ≤ 100000), decide (e.degree ≤ 5), true,
       decide (e.minRpm ≤ 30000 ∧ e.maxRpm ≤ 30000 ∧ e.minRpm ≤ e.maxRpm), decide (e.speedStep ≤ 25),
       decide (1000 ≤ e.interval ∧ e.interval ≤ 1000000), decide (1 ≤ e.highThreshold ∧ e.highThreshold ≤ 255),
       decide (e.lowThreshold ≤ 254 ∧ e.lowThreshold < e.highThreshold), decide (1 ≤ e.quietIntervals ∧ e.quietIntervals ≤ 15),
       decide (1 ≤ e.attemptLimit ∧ e.attemptLimit ≤ 8), decide (2 ≤ e.repeatLimit ∧ e.repeatLimit ≤ 15),
       decide (e.lowMark ≤ 4000000)]
    let inUse := ∃ f, s.enabled f = true ∧ ((s.entry f).article = a.val ∨ (s.entry f).nextArticle = a.val)
    let locked := mask.testBit 1 ∨ mask.testBit 2 ∨ mask.testBit 3 ∨ mask.testBit 4 ∨ mask.testBit 5 ∨ mask.testBit 6
      ∨ mask.testBit 8 ∨ mask.testBit 9 ∨ mask.testBit 10
    let zoneConds :=
      [decide (count ≤ 16 ∧ (∀ b ∈ listed, b < 64) ∧ listed.Nodup), decide (5 ≤ fields.getD 1 0 ∧ fields.getD 1 0 ≤ 255),
       decide (1 ≤ fields.getD 2 0 ∧ fields.getD 2 0 ≤ 30)]
    let settingsConds :=
      [decide (written.getD 0 0 < 2048), decide (1 ≤ settings.stopTimeout ∧ settings.stopTimeout ≤ 60),
       decide (settings.warnLevel ≤ 7), decide (settings.warnMode ≤ 2)]
    let dispositionConds :=
      [decide (entry.getD 0 0 ≤ 1),
       decide (entry.getD 1 0 ≤ 1 ∧ (disposition.pass = false ∨ k.val < 0x20 ∨ 0x30 < k.val))]
    (∀ e : FrameEntry, s.frameConds e = frameConds e) ∧ (locksFrame mask = true ↔ locked)
    ∧ (s.inOtherZone z = fun n => decide (∃ y, y ≠ z ∧ ∃ b ∈ s.patrol y, b.val = n))
    ∧ (s.Manages →
      (form frameWidths → frame.enabled = (s.entry f).enabled → (s.enabled f = false ∨ ¬locked) →
        (passes (frameConds frame) → exec (.frameTableWrite seq f.val mask values) s = .next (ok (s.setEntry f frame)))
        ∧ ∀ n, fails (frameConds frame) n → exec (.frameTableWrite seq f.val mask values) s = .next (bad (n + 1)))
      ∧ (form frameWidths → s.enabled f = true → locked →
          exec (.frameTableWrite seq f.val mask values) s = .next (s.offerUp (replyTelegram seq .inUse 0 [])))
      ∧ (form articleWidths →
          (inUse →
            exec (.articleTableWrite seq a.val mask values) s = .next (s.offerUp (replyTelegram seq .inUse 0 [])))
          ∧ (¬inUse → passes (articleConds article) →
              exec (.articleTableWrite seq a.val mask values) s = .next
                (ok { s with store := { s.store with articles := s.store.articles.set a article } }))
          ∧ ∀ n, ¬inUse → fails (articleConds article) n →
              exec (.articleTableWrite seq a.val mask values) s = .next (bad (n + 1)))
      ∧ (form zoneWidths →
          (busy → exec (.zoneTableWrite seq z.val mask values) s = .next (s.offerUp (replyTelegram seq .inUse 0 [])))
          ∧ (¬busy → passes zoneConds →
              exec (.zoneTableWrite seq z.val mask values) s = .next
                (ok { s with store := { s.store with zones := s.store.zones.set z (.ofFields fields) } }))
          ∧ ∀ n, ¬busy → fails zoneConds n → exec (.zoneTableWrite seq z.val mask values) s = .next (bad (n + 1)))
      ∧ (form settingsWidths →
          (passes settingsConds →
            exec (.lineSettingsWrite seq 0 mask values) s = .next
              (ok (State.settleSupply { s with store := { s.store with settings } })))
          ∧ ∀ n, fails settingsConds n → exec (.lineSettingsWrite seq 0 mask values) s = .next (bad (n + 1)))
      ∧ (form dispositionWidths →
          (passes dispositionConds →
            exec (.dispositionTableWrite seq k.val mask values) s = .next
              (ok { s with link := { s.link with disposition := s.link.disposition.set k disposition } }))
          ∧ ∀ n, fails dispositionConds n → exec (.dispositionTableWrite seq k.val mask values) s = .next (bad (n + 1))))

/-- The enable of a frame: the entry comes into force, the frame is RUNNING with every populated spindle UNKNOWN, its
delivery record begins anew with its three residues 0 and the counts kept (R50; the model's reading for the mass residue: log
46), its groups have no roving and are judged in ascending number, so that each is admitted while the set has room and an
IDLE carrier is dispatched to it, its speed program begins anew with the speed at fill 0 sent, STATE-REQUEST goes to its head
behind it (the model's order: log 16), the PCD is told, which is to take that notice, with those of the frame before it,
ahead of any floor report for the frame (the model's inference: log 56), and the REPLY is OK, behind the alarms of the enable
(R16, R21, R38, R54, R117, R140, R156, R167; the REPLY's place is the model's choice: log 39). -/
def Obligations.EnableStartsFrame : Prop :=
  ∀ (seq mask : Nat) (values : List Byte) (f : FrameId) (s : State),
    let c : Instr := .frameEnable seq f.val mask values
    let e := FrameEntry.ofFields (overlay (mask + 1) 0 frameWidths (s.entry f).fields (1#8 :: values))
    let unknown : Spindle := { state := .unknown, attempts := 0, repeats := 0 }
    let a := s.store.articles.get (Fin.ofNat 16 e.article)
    s.Manages → (s.entry f).enabled = 0 → mask % 2 = 0 → mask + 1 < 2 ^ 12 →
    values.length + 1 = selectedWidth (mask + 1) 0 frameWidths → (∀ b ∈ s.frameConds e, b = true) →
    s.frameState f ≠ .running → s.frameState f ≠ .starting → s.link.floorQueue.length < 16 →
    ∃ t, exec c s = .next t
      ∧ t.entry f = e ∧ (∀ f', f' ≠ f → t.entry f' = s.entry f')
      ∧ t.cycle f = { state := .running, cause := none, claim := none, stopTimer := none, startUp := 0 }
      ∧ t.map f = { sideA := List.replicate e.lengthA unknown, sideB := List.replicate e.lengthB unknown, running := 0,
                    populated := e.lengthA + e.lengthB }
      ∧ t.deliveryRecord f = .initial
      ∧ (∀ g, (t.groupRecord f g).map Group.remaining = if e.hasGroup g.val = true then some 0 else none)
      ∧ (∀ g : GroupId, e.hasGroup g.val = true ↔
          (g.val < 16 ∧ g.val * e.groupA < e.lengthA) ∨ (16 ≤ g.val ∧ (g.val - 16) * e.groupB < e.lengthB))
      ∧ (∃ fresh : State, fresh.link = s.link ∧ fresh.store = { s.store with frames := s.store.frames.set f e }
          ∧ fresh.timer = s.timer ∧ fresh.rsu = { s.rsu with groups := fresh.rsu.groups }
          ∧ (∀ g, fresh.groupRecord f g = if e.hasGroup g.val = true then
                some { remaining := 0, state := .supplied, sequence := none, carrier := none } else none)
          ∧ (∀ f' g, f' ≠ f → fresh.groupRecord f' g = s.groupRecord f' g)
          ∧ let judged := (List.finRange 32).foldl (fun u g => u.judge f g) fresh
            t.rsu = judged.rsu ∧ t.flagSet .replSetFull = judged.flagSet .replSetFull
              ∧ t.link.floorQueue.take (t.link.floorQueue.length - 2) = judged.link.floorQueue
              ∧ judged.link.upQueue <+: t.link.upQueue)
      ∧ (t.speed f).level = 0 ∧ (t.speed f).quiet = 0 ∧ (t.speed f).progress = 0 ∧ (t.speed f).count = 0
      ∧ (t.speed f).levelChanged = false ∧ (t.speed f).heldFill = 0 ∧ (t.speed f).lastRpm = some (a.compute 0 0).rpm
      ∧ (t.link.floorQueue.drop (t.link.floorQueue.length - 2)).map (fun m => (m.kind, m.node, m.payload)) =
          [(0x20#8, BitVec.ofNat 8 f.val, beBytes 2 (a.compute 0 0).rpm), (0x26#8, BitVec.ofNat 8 f.val, [])]
      ∧ t.inFlight = s.inFlight ++ [.frameRunningNotice f]
      ∧ (∀ f', f' ≠ f → t.map f' = s.map f' ∧ t.cycle f' = s.cycle f' ∧ t.speed f' = s.speed f'
          ∧ t.deliveryRecord f' = s.deliveryRecord f')
      ∧ t.scu = { s.scu with current := s.scu.current.set f { s.count f with massResidue := 0 } }
      ∧ t.pcd = { s.pcd with enabling := s.pcd.enabling.set f (s.inFlight.count (.frameRunningNotice f) + 1) }
      ∧ t.aou = s.aou ∧ t.retention = s.retention ∧ t.smu.rogues = s.smu.rogues
      ∧ ∃ (u : State) (alarms : List Telegram), (∀ m ∈ alarms, m.kind = 0x61#8) ∧ u.link.upQueue = s.link.upQueue ++ alarms
          ∧ t = u.offerUp (replyTelegram seq .ok 0 [])

/-- The disable of a frame: OFFLINE with no claim, its spindles VACANT, its groups without record, its rogue and verify
entries gone, no doff queue entry; a robot at work on it is sent ABANDON and is IDLE without assignment, and every other
robot is as it was (R22, R100); a carrier on a trip to one of its groups is sent CARRIER-ABORT and is RETURNING with no trip,
its entries leave the replenishment set and the places they free are filled, and no other carrier changes but by that (R22,
R158, R168); the counts, the delivery and the speed records stay, and of its hand-offs in flight those that a unit discards
after the disable are gone (R49, R140; the model's inference: log 33); a CLAIMING doffer is sent DOFF-CANCEL, is IDLE and its
release is asked; the REPLY is OK and nothing else goes to the uplink; a DOFFING frame is refused BAD-STATE (R16, R20, R22,
R54, R100, R117, R168). The doffer finds no other frame in its reach. The order of the part commands, ABANDON in ascending
robot number, DOFF-CANCEL, CARRIER-ABORT in ascending group number, then those of the filling, is the model's choice (logs
16, 38). -/
def Obligations.DisableEndsFrame : Prop :=
  ∀ (seq mask : Nat) (values : List Byte) (f : FrameId) (s : State),
    let c : Instr := .frameDisable seq f.val mask values
    let e := FrameEntry.ofFields (overlay (mask + 1) 0 frameWidths (s.entry f).fields (0#8 :: values))
    let freed := fun d : DofferId =>
      ({ state := .idle, frame := none, held := false, reach := (s.doffer d).reachPending.getD (s.doffer d).reach,
         reachPending := none, timer := none } : Doffer)
    let working := fun k : RobotId =>
      decide ((s.robot k).state = .piecing) && decide ((s.robot k).assignment.map Assignment.frame = some f)
    let sent := (List.finRange 32).filterMap fun g => (s.groupRecord f g).bind Group.carrier
    s.Manages → s.enabled f = true → mask % 2 = 0 → mask + 1 < 2 ^ 12 → locksFrame (mask + 1) = false →
    values.length + 1 = selectedWidth (mask + 1) 0 frameWidths → (∀ b ∈ s.frameConds e, b = true) →
    (s.frameState f = .doffing → exec c s = .next (s.offerUp (replyTelegram seq .badState 0 [])))
    ∧ (s.frameState f ≠ .doffing → s.Quiet → s.NoneFlying (dauFirst f) → s.NoneFlying (spuFirst f) →
        s.NoneFlying (smuFirst f) →
        (∀ d, (s.cycle f).claim = some d →
          (s.doffer d).state = .claiming ∧ ∀ g ∈ s.dcu.queue, g ≠ f → (freed d).reaches g = false) →
        ∃ t, exec c s = .next t
          ∧ t.entry f = e ∧ t.cycle f = .initial ∧ t.map f = .empty ∧ (∀ g, t.groupRecord f g = none)
          ∧ t.smu.rogues = s.smu.rogues.filter (fun r => r.frame != f)
          ∧ t.pcd.verify = s.pcd.verify.filter (fun v => v.frame != f) ∧ t.pcd.enabling = s.pcd.enabling
          ∧ t.dcu.queue = s.dcu.queue.filter (fun g => g != f) ∧ (∀ x ∈ t.rsu.set, x.frame ≠ f)
          ∧ (∀ h ∈ t.inFlight, discardedBy f h = false)
          ∧ ((s.cycle f).claim = none → t.dcu.doffers = s.dcu.doffers)
          ∧ (∀ d, (s.cycle f).claim = some d →
              t.doffer d = freed d ∧ (∀ d', d' ≠ d → t.doffer d' = s.doffer d') ∧ .dofferRelease d ∈ t.inFlight
                ∧ (s.link.floorQueue.length < 52 →
                    ∃ m ∈ t.link.floorQueue.drop s.link.floorQueue.length,
                      m.kind = 0x2D#8 ∧ m.node = BitVec.ofNat 8 (0x50 + d.val) ∧ m.payload = []))
          ∧ (∀ k, t.robot k =
              if working k = true then { s.robot k with state := .idle, assignment := none, deadline := none } else s.robot k)
          ∧ (∃ left : State, left.timer = s.timer
              ∧ left.store = { s.store with frames := s.store.frames.set f e, flags := left.store.flags }
              ∧ (∀ f' g, left.groupRecord f' g = if f' = f then none else s.groupRecord f' g)
              ∧ left.rsu.set = s.rsu.set.filter (fun x => x.frame != f) ∧ left.rsu.nextSequence = s.rsu.nextSequence
              ∧ (∀ c, left.carrier c =
                  if c ∈ sent then { s.carrier c with state := .returning, trip := none, timer := none } else s.carrier c)
              ∧ t.rsu = (left.fillPlaces (s.rsu.set.filter fun x => x.frame == f).length).rsu
              ∧ (s.link.floorQueue.length < 12 → left.link.floorQueue.length ≤ 56 ∧ ∃ gos,
                  (∀ m ∈ gos, m.kind = 0x2E#8)
                  ∧ (left.fillPlaces (s.rsu.set.filter fun x => x.frame == f).length).link.floorQueue =
                      left.link.floorQueue ++ gos
                  ∧ t.link.floorQueue = left.link.floorQueue ++ gos
                  ∧ (left.link.floorQueue.drop s.link.floorQueue.length).map (fun m => (m.kind, m.node, m.payload)) =
                      ((List.finRange 12).filter working).map (fun k => (0x29#8, BitVec.ofNat 8 (0x40 + k.val), []))
                        ++ (match (s.cycle f).claim with
                            | some d => [(0x2D#8, BitVec.ofNat 8 (0x50 + d.val), [])]
                            | none => [])
                        ++ sent.map (fun c => (0x30#8, BitVec.ofNat 8 (0x58 + c.val), []))))
          ∧ t.dau = s.dau ∧ t.spu = s.spu ∧ t.scu = s.scu ∧ t.aou = s.aou ∧ t.retention = s.retention
          ∧ (∀ f', f' ≠ f → t.entry f' = s.entry f' ∧ t.map f' = s.map f' ∧ t.cycle f' = s.cycle f')
          ∧ ∃ u : State, u.link.upQueue = s.link.upQueue ∧ t = u.offerUp (replyTelegram seq .ok 0 []))

/-- The enable of a robot, doffer or carrier stores its entry and asks its state with STATE-REQUEST; nothing else changes
(R26 to R28). The remaining writes of machine tables: the zone of a robot changes while it is OFFLINE or PARKED and is
IN-USE otherwise; a reach is in force at once for an OFFLINE or IDLE doffer, which then picks, and pending otherwise; the
timeouts of a doffer or a carrier are stored alone (R26 to R28). A write whose resulting entry breaks a condition is BAD-VALUE
with the lowest failing field: the ranges of Table 2-5; for an enabled robot a zone with an empty patrol list or with three
other enabled robots (R26); for a frame, the enable and the disable among them, the conditions of Table 2-3 (R18, R20). The
enables, disables and writes that have rows of their own are the TABLE-WRITEs of their table. -/
def Obligations.MachineWrites : Prop :=
  (∀ (seq mask : Nat) (values : List Byte) (k : RobotId) (d : DofferId) (c : CarrierId) (s : State),
    let ok := fun (node : Nat) (t : State) => (sendStateRequest node t).offerUp (replyTelegram seq .ok 0 [])
    let form := fun widths : List Nat =>
      mask % 2 = 0 ∧ mask + 1 < 2 ^ widths.length ∧ values.length + 1 = selectedWidth (mask + 1) 0 widths
    let robot := RobotEntry.ofFields (overlay (mask + 1) 0 robotWidths (s.store.robots.get k).fields (1#8 :: values))
    let doffer := DofferEntry.ofFields (overlay (mask + 1) 0 dofferWidths (s.store.doffers.get d).fields (1#8 :: values))
    let carrier := CarrierEntry.ofFields (overlay (mask + 1) 0 carrierWidths (s.store.carriers.get c).fields (1#8 :: values))
    s.Manages →
    (form robotWidths → (s.store.robots.get k).enabled = 0 → s.NoneFlying pcdBefore → (s.robot k).state = .offline →
      robot.zone ≤ 7 → 1 ≤ (s.store.zones.get (Fin.ofNat 8 robot.zone)).count →
      ((List.finRange 12).filter fun j =>
        j != k && (s.store.robots.get j).enabled == 1 && (s.store.robots.get j).zone == robot.zone).length < 3 →
      exec (.robotEnable seq k.val mask values) s = .next
        (ok (0x40 + k.val) { s with store := { s.store with robots := s.store.robots.set k robot } }))
    ∧ (form dofferWidths → (s.store.doffers.get d).enabled = 0 → 1 ≤ doffer.timeout → doffer.timeout ≤ 60 →
        (s.doffer d).state = .offline →
        exec (.dofferEnable seq d.val mask values) s = .next
          (ok (0x50 + d.val)
            { s with
              store := { s.store with doffers := s.store.doffers.set d doffer },
              dcu := { s.dcu with
                doffers := s.dcu.doffers.set d
                  (if mask.testBit 1 = true then { s.doffer d with reach := doffer.reach, reachPending := none }
                   else s.doffer d) } }))
    ∧ (form carrierWidths → (s.store.carriers.get c).enabled = 0 → 1 ≤ carrier.travelTimeout → carrier.travelTimeout ≤ 30 →
        1 ≤ carrier.changeTimeout → carrier.changeTimeout ≤ 30 →
        exec (.carrierEnable seq c.val mask values) s = .next
          (ok (0x58 + c.val) { s with store := { s.store with carriers := s.store.carriers.set c carrier } })))
    ∧ (∀ (seq zone reach timeout : Nat) (k : RobotId) (d : DofferId) (c : CarrierId) (s : State),
      let ok := fun t : State => t.offerUp (replyTelegram seq .ok 0 [])
      let e := s.store.robots.get k
      let moved := { e with zone }
      let b := s.store.doffers.get d
      let written := { s with store := { s.store with doffers := s.store.doffers.set d { b with reach := BitVec.ofNat 48 reach } } }
      s.Manages →
      (s.NoneFlying pcdBefore → e.enabled ≤ 1 → zone ≤ 7 →
        (((s.robot k).state = .offline ∨ (s.robot k).state = .parked) →
          (e.enabled = 1 → 1 ≤ (s.store.zones.get (Fin.ofNat 8 zone)).count
            ∧ ((List.finRange 12).filter fun j =>
                j != k && (s.store.robots.get j).enabled == 1 && (s.store.robots.get j).zone == zone).length < 3) →
          exec (.robotZoneChange seq k.val zone) s = .next
            (ok { s with store := { s.store with robots := s.store.robots.set k moved } }))
        ∧ ((s.robot k).state ≠ .offline → (s.robot k).state ≠ .parked → zone ≠ e.zone →
            exec (.robotZoneChange seq k.val zone) s = .next (s.offerUp (replyTelegram seq .inUse 0 []))))
      ∧ (b.enabled ≤ 1 → 1 ≤ b.timeout → b.timeout ≤ 60 → reach < 2 ^ 48 →
          ((s.doffer d).state = .offline →
            exec (.dofferReachWrite seq d.val reach) s = .next (ok (written.setDoffer d
              { s.doffer d with reach := BitVec.ofNat 48 reach, reachPending := none })))
          ∧ ((s.doffer d).state = .idle →
              exec (.dofferReachWrite seq d.val reach) s = .next (ok ((written.setDoffer d
                { s.doffer d with reach := BitVec.ofNat 48 reach, reachPending := none }).pick d)))
          ∧ (((s.doffer d).state = .claiming ∨ (s.doffer d).state = .doffing ∨ (s.doffer d).state = .faulted) →
              exec (.dofferReachWrite seq d.val reach) s = .next (ok (written.setDoffer d
                { s.doffer d with reachPending := some (BitVec.ofNat 48 reach) }))))
      ∧ (b.enabled ≤ 1 → 1 ≤ timeout → timeout ≤ 60 →
          exec (.tableWrite seq 4 d.val 4 (beBytes 1 timeout)) s = .next
            (ok { s with store := { s.store with doffers := s.store.doffers.set d { b with timeout } } }))
      ∧ ((s.store.carriers.get c).enabled ≤ 1 → 1 ≤ timeout → timeout ≤ 30 → 1 ≤ (s.store.carriers.get c).changeTimeout →
          (s.store.carriers.get c).changeTimeout ≤ 30 →
          exec (.tableWrite seq 5 c.val 2 (beBytes 1 timeout)) s = .next
            (ok { s with store := { s.store with
              carriers := s.store.carriers.set c { s.store.carriers.get c with travelTimeout := timeout } } }))
      ∧ ((s.store.carriers.get c).enabled ≤ 1 → 1 ≤ timeout → timeout ≤ 30 → 1 ≤ (s.store.carriers.get c).travelTimeout →
          (s.store.carriers.get c).travelTimeout ≤ 30 →
          exec (.tableWrite seq 5 c.val 4 (beBytes 1 timeout)) s = .next
            (ok { s with store := { s.store with
              carriers := s.store.carriers.set c { s.store.carriers.get c with changeTimeout := timeout } } })))
    ∧ (∀ (seq mask : Nat) (values : List Byte) (before after : List Bool) (f : FrameId) (k : RobotId) (d : DofferId)
        (c : CarrierId) (s : State),
      let form := fun widths : List Nat =>
        0 < mask ∧ mask < 2 ^ widths.length ∧ values.length = selectedWidth mask 0 widths
      let result := fun widths old : List Nat => overlay mask 0 widths old values
      let frame := FrameEntry.ofFields (result frameWidths (s.entry f).fields)
      let robot := RobotEntry.ofFields (result robotWidths (s.store.robots.get k).fields)
      let doffer := DofferEntry.ofFields (result dofferWidths (s.store.doffers.get d).fields)
      let carrier := CarrierEntry.ofFields (result carrierWidths (s.store.carriers.get c).fields)
      let others := (List.finRange 12).filter fun j =>
        j != k && (s.store.robots.get j).enabled == 1 && (s.store.robots.get j).zone == robot.zone
      let fails := fun conds : List Bool => conds = before ++ false :: after ∧ ∀ b ∈ before, b = true
      let refused := s.offerUp (replyTelegram seq .badValue (before.length + 1) [])
      s.Manages →
      (form frameWidths → (s.enabled f = true → locksFrame mask = false) → fails (s.frameConds frame) →
        exec (.tableWrite seq 0 f.val mask values) s = .next refused)
      ∧ (form robotWidths → s.NoneFlying pcdBefore →
          ((s.robot k).state = .offline ∨ (s.robot k).state = .parked ∨ robot.zone = (s.store.robots.get k).zone) →
          fails [decide (robot.enabled ≤ 1),
            decide (robot.zone ≤ 7 ∧ (robot.enabled = 1 →
              1 ≤ (s.store.zones.get (Fin.ofNat 8 robot.zone)).count ∧ others.length < 3))] →
          exec (.tableWrite seq 3 k.val mask values) s = .next refused)
      ∧ (form dofferWidths →
          fails [decide (doffer.enabled ≤ 1), true, decide (1 ≤ doffer.timeout ∧ doffer.timeout ≤ 60)] →
          exec (.tableWrite seq 4 d.val mask values) s = .next refused)
      ∧ (form carrierWidths →
          fails [decide (carrier.enabled ≤ 1), decide (1 ≤ carrier.travelTimeout ∧ carrier.travelTimeout ≤ 30),
            decide (1 ≤ carrier.changeTimeout ∧ carrier.changeTimeout ≤ 30)] →
          exec (.tableWrite seq 5 c.val mask values) s = .next refused))
    ∧ (∀ (seq index mask n : Nat) (values : List Byte) (s : State),
      let write := fun (table m : Nat) (vs : List Byte) => exec (.tableWrite seq table index m vs) s
      exec (.frameEnable seq index mask values) s = write 0 (mask + 1) (1#8 :: values)
      ∧ exec (.frameDisable seq index mask values) s = write 0 (mask + 1) (0#8 :: values)
      ∧ exec (.frameTableWrite seq index mask values) s = write 0 mask values
      ∧ exec (.robotEnable seq index mask values) s = write 3 (mask + 1) (1#8 :: values)
      ∧ exec (.robotDisable seq index mask values) s = write 3 (mask + 1) (0#8 :: values)
      ∧ exec (.robotZoneChange seq index n) s = write 3 2 (beBytes 1 n)
      ∧ exec (.dofferEnable seq index mask values) s = write 4 (mask + 1) (1#8 :: values)
      ∧ exec (.dofferDisable seq index mask values) s = write 4 (mask + 1) (0#8 :: values)
      ∧ exec (.dofferReachWrite seq index n) s = write 4 2 (beBytes 6 n)
      ∧ exec (.carrierEnable seq index mask values) s = write 5 (mask + 1) (1#8 :: values)
      ∧ exec (.carrierDisable seq index mask values) s = write 5 (mask + 1) (0#8 :: values))

/-- The disable of a robot, doffer or carrier that has nothing in hand makes it OFFLINE; a DOFFING doffer is refused
BAD-STATE, a CLAIMING one is sent DOFF-CANCEL and gives its frame back to the head of the queue, where the lowest-numbered IDLE
doffer that has it in reach, if any, picks (R27, R121, R122); a carrier on a trip is sent CARRIER-ABORT and its group returns to
SUPPLIED and is judged with no alarm: where the set is full the group is UNQUEUED and the flag REPL-SET-FULL latches (R28, R156;
the latch is the model's inference: log 48), and no re-evaluation of the group is asked where a wait or a change ends so (the
model's choice beside R80: log 54); a robot with an assignment and an aisle is
sent ABANDON and LEAVE (none) and gives up both (R26 to R28, R105). In general a robot that is not OFFLINE is sent ABANDON where
it has an assignment, an unsatisfied one being withdrawn, and LEAVE (none) where it holds an aisle, which is released at once;
it is OFFLINE with neither, and the zone that it served is re-evaluated, as it is where the robot was OFFLINE already (R26, R105;
which zone, the model's inference: log 36). -/
def Obligations.MachinesAreDisabled : Prop :=
  ∀ (seq : Nat) (k : RobotId) (d : DofferId) (c : CarrierId) (s : State),
    let ok := fun t : State => t.offerUp (replyTelegram seq .ok 0 [])
    let robots := { s with store := { s.store with robots := s.store.robots.set k { s.store.robots.get k with enabled := 0 } } }
    let doffers :=
      { s with store := { s.store with doffers := s.store.doffers.set d { s.store.doffers.get d with enabled := 0 } } }
    let carriers :=
      { s with store := { s.store with carriers := s.store.carriers.set c { s.store.carriers.get c with enabled := 0 } } }
    let r := s.robot k
    let off : Robot := { r with state := .offline, assignment := none, leaveTarget := none, deadline := none }
    let free : Doffer := { s.doffer d with state := .offline, frame := none, held := false, timer := none }
    s.Manages →
    ((s.store.robots.get k).enabled = 1 → (s.store.robots.get k).zone ≤ 7 → s.NoneFlying pcdBefore → r.state = .offline →
      exec (.robotDisable seq k.val 0 []) s = .next (ok (robots.reevaluate (s.robotZone k))))
    ∧ ((s.store.robots.get k).enabled = 1 → (s.store.robots.get k).zone ≤ 7 → s.Quiet →
      (r.aisle = none → r.assignment = none → r.state ≠ .offline →
        exec (.robotDisable seq k.val 0 []) s = .next (ok (robots.setRobot k off)))
      ∧ (∀ a x, r.state = .piecing → r.aisle = some a → r.assignment = some x →
          (∀ j, j ≠ k → s.robotZone j = s.robotZone k → (s.robot j).state ≠ .idle ∧ (s.robot j).state ≠ .parked) →
          exec (.robotDisable seq k.val 0 []) s = .next (ok
            { (sendLeave k none (sendAbandon k robots)).setRobot k { off with aisle := none } with
              inFlight := s.inFlight
                ++ (if x.satisfied = true then [] else [.withdrawRequest x.frame x.side x.index]) ++ [.robotRelease k a] })))
    ∧ ((s.store.robots.get k).enabled = 1 → (s.store.robots.get k).zone ≤ 7 → s.NoneFlying pcdBefore → r.state ≠ .offline →
        let told := if r.assignment.isSome = true then sendAbandon k robots else robots
        let sent := if r.aisle.isSome = true then sendLeave k none told else told
        exec (.robotDisable seq k.val 0 []) s = .next (ok (State.reevaluate (s.robotZone k)
          { sent.setRobot k { off with aisle := none } with
            inFlight := s.inFlight
              ++ (match r.assignment with
                  | some x => if x.satisfied = true then [] else [.withdrawRequest x.frame x.side x.index]
                  | none => [])
              ++ (match r.aisle with
                  | some a => [.robotRelease k a]
                  | none => []) })))
    ∧ ((s.store.doffers.get d).enabled = 1 → 1 ≤ (s.store.doffers.get d).timeout → (s.store.doffers.get d).timeout ≤ 60 →
        ((s.doffer d).state = .doffing →
          exec (.dofferDisable seq d.val 0 []) s = .next (s.offerUp (replyTelegram seq .badState 0 [])))
        ∧ (((s.doffer d).state = .idle ∨ (s.doffer d).state = .faulted ∨ (s.doffer d).state = .offline) →
            exec (.dofferDisable seq d.val 0 []) s = .next (ok (doffers.setDoffer d free)))
        ∧ (∀ f, (s.doffer d).state = .claiming → (s.doffer d).frame = some f → s.NoneFlying (dauFirst f) →
            s.NoneFlying (spuFirst f) →
            let queued :=
              { sendDoffCancel d doffers with
                dcu := { frames := s.dcu.frames.set f { s.cycle f with claim := none },
                         doffers := s.dcu.doffers.set d free, queue := f :: s.dcu.queue },
                inFlight := s.inFlight ++ [.dofferRelease d] }
            (s.NoIdleDoffer f → exec (.dofferDisable seq d.val 0 []) s = .next (ok queued))
            ∧ (∀ d', s.OfferedTo f d' → exec (.dofferDisable seq d.val 0 []) s = .next (ok (queued.pick d')))))
    ∧ ((s.store.carriers.get c).enabled = 1 → 1 ≤ (s.store.carriers.get c).travelTimeout →
        (s.store.carriers.get c).travelTimeout ≤ 30 → 1 ≤ (s.store.carriers.get c).changeTimeout →
        (s.store.carriers.get c).changeTimeout ≤ 30 →
        (((s.carrier c).state = .idle ∨ (s.carrier c).state = .returning ∨ (s.carrier c).state = .faulted
            ∨ (s.carrier c).state = .offline) →
          exec (.carrierDisable seq c.val 0 []) s = .next (ok
            (carriers.setCarrier c { s.carrier c with state := .offline, trip := none, timer := none })))
        ∧ (∀ f g old, ((s.carrier c).state = .travel ∨ (s.carrier c).state = .wait ∨ (s.carrier c).state = .changing) →
            (s.carrier c).trip = some (f, g) → s.groupRecord f g = some old →
            exec (.carrierDisable seq c.val 0 []) s = .next (ok (State.judgeSilently f g
              { sendCarrierAbort c carriers with
                rsu := { s.rsu with
                  groups := s.rsu.groups.modify f fun tab =>
                    tab.set g (some { old with state := .supplied, sequence := none, carrier := none }),
                  carriers := s.rsu.carriers.set c { s.carrier c with state := .offline, trip := none, timer := none } } })))
        ∧ (∀ (f : FrameId) (g : GroupId) (old : Group) (t : State), t.groupRecord f g = some old →
            ((old.state ≠ .supplied ∨ (t.article f).lowMark < old.remaining ∨ t.rsu.set.length < 64) →
              t.judgeSilently f g = t.judge f g)
            ∧ (old.state = .supplied → old.remaining ≤ (t.article f).lowMark → 64 ≤ t.rsu.set.length →
                t.judgeSilently f g =
                  State.latch .replSetFull (t.setGroup f g (some { old with state := .unqueued, sequence := none })))))

/-- TABLE-READ, STATE-READ, MAP-READ, LIST-READ and COUNTS-READ answer OK with the data of the entry, record, range, list or
counts that their operands name, of at most 38 bytes, or say which operand names none; nothing changes but the reply, the free
bytes drawn, of which a satisfied byte is 0 or 1 (the model's choice: log 13), and, for a COUNTS-READ with clear, the link
counters, which are set to 0 (R15, R19, R30 to R33, R180, R181). A COUNTS-READ is checked by frame, record and clear, in that
order (R33). The milliseconds left to a deadline that has been reached read as 0, in the records and in the verify list (the
model's choice: log 14). A LIST-READ that finds among its entries a rogue spindle listed at 2^32 seconds or more, which 4 bytes
do not hold and of which the spec gives no reading, draws four free bytes for each entry asked for (the model's choice: log 15).
The fields of every table's entry at their widths, article 16 + a giving the degree and the
coefficients (R19), the codes of Table 2-8, the data of every object class of Table 2-7 and of every list of Table 2-9 with its
length and limit, the spindle states of a MAP-READ and the records and line totals of Table 10-3, byte for byte. -/
def Obligations.ReadsReply : Prop :=
  (([FrameState.offline, .running, .starting, .stopping, .doffWait, .doffing, .held].map FrameState.code = List.range 7
    ∧ [HoldCause.mill, .stopTimeout, .doffTimeout, .reset].map HoldCause.code = List.range 4
    ∧ [SpindleState.vacant, .unknown, .running, .broken, .assigned, .verify, .starved, .rogue].map SpindleState.code =
        List.range 8
    ∧ [RobotState.offline, .parked, .moving, .idle, .piecing, .leaving, .unresponsive].map RobotState.code = List.range 7
    ∧ [DofferState.offline, .idle, .claiming, .doffing, .faulted].map DofferState.code = List.range 5
    ∧ [CarrierState.offline, .idle, .travel, .wait, .changing, .returning, .faulted].map CarrierState.code = List.range 7
    ∧ [SupplyState.supplied, .queued, .unqueued, .called, .changing].map SupplyState.code = List.range 5
    ∧ [RogueCause.attempts, .repeats].map RogueCause.code = List.range 2)
    ∧ (∀ s : State,
      let bytes := fun rows : List (Nat × Nat) => rows.flatMap fun p => beBytes p.1 p.2
      let bit := fun (b : Bool) (v : Nat) => if b = true then v else 0
      let left := fun deadline : Option Nat => (deadline.map fun t => t - s.timer).getD 0xFFFFFFFF
      (∀ f : FrameId, let c := s.cycle f; let d := s.deliveryRecord f; let v := s.speed f
        s.frameData f = bytes
          [(1, c.state.code), (1, (c.cause.map HoldCause.code).getD 0xFF), (1, (c.claim.map Fin.val).getD 0xFF),
           (1, (s.entry f).article), (1, (s.entry f).nextArticle), (4, d.cop), (2, d.fill), (4, c.startUp),
           (1, bit d.baseline 1), (1, v.level), (2, v.lastRpm.getD 0xFFFF), (2, (s.map f).running),
           (2, (s.map f).populated), (1, bit v.sat 1 + bit v.clampLow 2 + bit v.clampHigh 4 + bit v.levelChanged 8)])
      ∧ (∀ (k : RobotId) (free : List Byte), ∃ work fault : List Byte, let r := s.robot k
          let rest := if r.assignment = none then free.drop 4 else free
          s.robotData k free =
              bytes [(1, r.state.code), (1, (s.robotZone k).val), (1, (r.aisle.map Fin.val).getD 0xFF), (2, r.position),
                     (1, if r.sweep = .down then 1 else 0)] ++ work ++ bytes [(4, left r.deadline)] ++ fault
            ∧ (∀ x, r.assignment = some x →
                work = bytes [(1, x.frame.val), (1, x.side.code), (2, x.index), (1, bit x.satisfied 1)])
            ∧ (r.assignment = none → work = 0xFF#8 :: (free.take 3 ++ [free.getD 3 0 &&& 1#8]))
            ∧ (r.faultRecord = .none → fault = 0#8 :: rest)
            ∧ (∀ f side i, r.faultRecord = .assignment f side i →
                fault = bytes [(1, 1), (1, f.val), (1, side.code), (2, i)])
            ∧ (∀ a, r.faultRecord = .move a → fault = bytes [(1, 2), (1, (a.map Fin.val).getD 0xFF)] ++ rest))
      ∧ (∀ d : DofferId, let r := s.doffer d
          s.dofferData d = bytes
            [(1, r.state.code), (1, (r.frame.map Fin.val).getD 0xFF), (6, r.reach.toNat),
             (1, if r.reachPending = none then 0 else 1), (4, left r.timer)])
      ∧ (∀ c : CarrierId, let r := s.carrier c
          s.carrierData c = bytes
            [(1, r.state.code), (1, (r.trip.map fun p => p.1.val).getD 0xFF), (1, (r.trip.map fun p => p.2.val).getD 0xFF),
             (4, r.load), (4, left r.timer)])
      ∧ (∀ (f : FrameId) (g : GroupId) (r : Group) (free : List Byte), s.groupRecord f g = some r →
          let level := if r.remaining = 0 then 0 else if r.remaining ≤ (s.article f).lowMark then 1 else 2
          let carrier := (r.carrier.map Fin.val).getD 0xFF
          (∀ q, r.sequence = some q → s.groupData f g free = bytes
            [(4, r.remaining), (1, r.state.code), (1, level), (1, 1), (2, q.toNat), (1, carrier)])
          ∧ (r.sequence = none → s.groupData f g free =
              bytes [(4, r.remaining), (1, r.state.code), (1, level), (1, 0)] ++ free ++ bytes [(1, carrier)]))
      ∧ ((∀ f : FrameId, let e := s.entry f
            s.entryBytes 0 f.val = some (bytes
              [(1, e.enabled), (2, e.lengthA), (2, e.lengthB), (1, e.aisleA), (2, e.offsetA), (1, e.aisleB), (2, e.offsetB),
               (3, e.pulseLength), (1, e.groupA), (1, e.groupB), (1, e.article), (1, e.nextArticle)]))
        ∧ (∀ n : ArticleId, let a := s.store.articles.get n
            (a.maxRpm < 65536 →
              s.entryBytes 1 n.val = some (bytes
                [(1, a.defined), (3, a.density), (2, a.draft), (4, a.doffTarget), (3, a.startUp), (1, a.degree),
                 (2, a.minRpm), (2, a.maxRpm), (1, a.speedStep), (3, a.interval), (1, a.highThreshold), (1, a.lowThreshold),
                 (1, a.quietIntervals), (1, a.attemptLimit), (1, a.repeatLimit), (3, a.lowMark)]))
            ∧ s.entryBytes 1 (16 + n.val) =
                some (bytes ((1, a.degree) :: a.coeffs.items.map fun c => (4, c.toNat))))
        ∧ (∀ n : ZoneId, let z := s.store.zones.get n
            z.slots.length = 16 → (∀ b ∈ z.slots, b < 256) →
              s.entryBytes 2 n.val = some (bytes
                ((1, z.count) :: z.slots.map (fun b => (1, b)) ++ [(1, z.piecingTimeout), (1, z.verifyWindow)])))
        ∧ (∀ n : RobotId, let e := s.store.robots.get n
            s.entryBytes 3 n.val = some (bytes [(1, e.enabled), (1, e.zone)]))
        ∧ (∀ n : DofferId, let e := s.store.doffers.get n
            s.entryBytes 4 n.val = some (bytes [(1, e.enabled), (6, e.reach.toNat), (1, e.timeout)]))
        ∧ (∀ n : CarrierId, let e := s.store.carriers.get n
            s.entryBytes 5 n.val = some (bytes [(1, e.enabled), (1, e.travelTimeout), (1, e.changeTimeout)]))
        ∧ s.entryBytes 6 0 = some (bytes
            [(2, s.store.settings.alarmEnable.toNat), (1, s.store.settings.stopTimeout), (1, s.store.settings.warnLevel),
             (1, s.store.settings.warnMode)])
        ∧ (∀ n : Fin 256, let e := s.link.disposition.get n
            s.entryBytes 7 n.val = some (bytes [(1, bit (!e.copy) 1), (1, bit (!e.pass) 1)])))
      ∧ ([0, 1, 2, 3].map listLimit = [4, 37, 5, 4]
        ∧ [0, 1, 2, 3].map s.listLength =
            [s.smu.rogues.length, s.dcu.queue.length, s.rsu.set.length, s.pcd.verify.length]
        ∧ ∀ list first count : Nat,
            ((list ≠ 0 ∨ ∀ e ∈ (s.smu.rogues.drop first).take count, e.seconds < 2 ^ 32) → s.listOpen list first count = 0)
            ∧ ((list = 0 ∧ ∃ e ∈ (s.smu.rogues.drop first).take count, 2 ^ 32 ≤ e.seconds) →
                s.listOpen list first count = 4 * count))
      ∧ (∀ a : AisleId, let r := s.aisleRecord a
          s.aisleData a = bytes
            [(1, match r.holder with | .none => 0 | .robot _ => 1 | .doffer _ => 2),
             (1, match r.holder with | .none => 0xFF | .robot k => k.val | .doffer d => d.val),
             (1, (r.reservedBy.map Fin.val).getD 0xFF), (1, ((s.zoneOf a).map Fin.val).getD 0xFF)])
      ∧ (∀ (f : FrameId) (side : Side) (first count : Nat),
          let short := s.mapData f side first count false
          let long := s.mapData f side first count true
          short.length = (count + 1) / 2 ∧ long.length = 2 * count
            ∧ (∀ j, j < count → let sp := s.spindle f side (first + j)
                ((short.getD (j / 2) 0).toNat / (if j % 2 = 0 then 16 else 1)) % 16 = sp.state.code
                ∧ long.getD (2 * j) 0 = BitVec.ofNat 8 sp.state.code
                ∧ long.getD (2 * j + 1) 0 = BitVec.ofNat 8 (sp.attempts * 16 + sp.repeats))
            ∧ (count % 2 = 1 → (short.getD (count / 2) 0).toNat % 16 = 0))
      ∧ (∀ (first count : Nat) (free : List Byte),
          ((∀ e ∈ (s.smu.rogues.drop first).take count, e.seconds < 2 ^ 32) →
            s.listEntries 0 first count free = ((s.smu.rogues.drop first).take count).flatMap fun e =>
              bytes [(1, e.frame.val), (1, e.side.code), (2, e.index), (1, e.cause.code), (4, e.seconds)])
          ∧ s.listEntries 1 first count free = ((s.dcu.queue.drop first).take count).map (fun f => BitVec.ofNat 8 f.val)
          ∧ (s.listEntries 2 first count free = ((s.rsu.set.drop first).take count).flatMap fun e =>
              bytes [(1, e.frame.val), (1, e.group.val), (2, e.sequence.toNat), (3, s.remaining e.frame e.group)])
          ∧ (s.listEntries 3 first count free = ((s.pcd.verify.drop first).take count).flatMap fun e =>
              bytes [(1, e.frame.val), (1, e.side.code), (2, e.index), (4, e.deadline - s.timer)]))
      ∧ (let flags := fun (flag : (CountView → Bool) → Bool) (pegged : Bool) =>
            bit (flag CountView.restored) 1 + bit (flag CountView.lost) 2 + bit (flag CountView.saturated) 4 + bit pegged 8
        let amounts := fun (frame : Nat) (sum : (Counts → Nat) → Nat) (flag : (CountView → Bool) → Bool) (eff : Nat) =>
          bytes
            [(1, frame),
             (1, flags flag (decide (2 ^ 40 ≤ sum Counts.delivered ∨ 2 ^ 48 ≤ sum Counts.possible
               ∨ 2 ^ 48 ≤ sum Counts.produced ∨ 2 ^ 40 ≤ sum Counts.mass))),
             (5, min (sum Counts.delivered) (2 ^ 40 - 1)), (6, min (sum Counts.possible) (2 ^ 48 - 1)),
             (6, min (sum Counts.produced) (2 ^ 48 - 1)), (5, min (sum Counts.mass) (2 ^ 40 - 1)), (2, eff)]
        let events := fun (frame : Nat) (sum : (Counts → Nat) → Nat) (flag : (CountView → Bool) → Bool) =>
          bytes
            [(1, frame),
             (1, flags flag (decide (2 ^ 24 ≤ sum Counts.breaks ∨ 2 ^ 24 ≤ sum Counts.rovingEnds ∨ 2 ^ 24 ≤ sum Counts.piecedOk
               ∨ 2 ^ 24 ≤ sum Counts.piecedFailed ∨ 2 ^ 16 ≤ sum Counts.rogues ∨ 2 ^ 16 ≤ sum Counts.doffs
               ∨ 2 ^ 24 ≤ sum Counts.stoppedSeconds ∨ 2 ^ 24 ≤ sum Counts.doffWaitSeconds))),
             (3, min (sum Counts.breaks) (2 ^ 24 - 1)), (3, min (sum Counts.rovingEnds) (2 ^ 24 - 1)),
             (3, min (sum Counts.piecedOk) (2 ^ 24 - 1)), (3, min (sum Counts.piecedFailed) (2 ^ 24 - 1)),
             (2, min (sum Counts.rogues) (2 ^ 16 - 1)), (2, min (sum Counts.doffs) (2 ^ 16 - 1)),
             (3, min (sum Counts.stoppedSeconds) (2 ^ 24 - 1)), (3, min (sum Counts.doffWaitSeconds) (2 ^ 24 - 1))]
        let rate := fun produced possible : Nat => if possible = 0 then 0 else produced * 10000 / possible
        let current := fun f : FrameId => let r := s.scu.current.get f
          ({ counts := r.counts, restored := r.restored, lost := r.lost, saturated := r.saturated } : CountView)
        let closed := fun f : FrameId => let r := s.scu.closed.get f
          ({ counts := r.counts, restored := r.restored, lost := r.lost, saturated := r.saturated } : CountView)
        let label := fun f : FrameId =>
          bytes [(2, (s.scu.closed.get f).shift), (1, (s.scu.closed.get f).lineNumber.val)]
        let own := fun (v : CountView) (field : Counts → Nat) => field v.counts
        let has := fun (v : CountView) (p : CountView → Bool) => p v
        let total := fun (v : FrameId → CountView) (field : Counts → Nat) =>
          ((List.finRange 48).map fun f => field (v f).counts).sum
        let any := fun (v : FrameId → CountView) (p : CountView → Bool) => (List.finRange 48).any fun f => p (v f)
        (∀ f : FrameId, let v := current f; let w := closed f
          s.frameCounts f 0 = amounts f.val (own v) (has v) (rate v.counts.produced v.counts.possible)
          ∧ s.frameCounts f 1 = events f.val (own v) (has v)
          ∧ s.frameCounts f 2 = amounts f.val (own w) (has w) (s.scu.closed.get f).efficiency ++ label f
          ∧ s.frameCounts f 3 = events f.val (own w) (has w) ++ label f)
        ∧ s.lineCounts 0 = amounts 0xFF (total current) (any current)
            (rate (total current Counts.produced) (total current Counts.possible))
        ∧ s.lineCounts 1 = events 0xFF (total current) (any current)
        ∧ s.lineCounts 2 = amounts 0xFF (total closed) (any closed)
            (rate (total closed Counts.produced) (total closed Counts.possible)) ++ label 0
        ∧ s.lineCounts 3 = events 0xFF (total closed) (any closed) ++ label 0)))
    ∧ ∀ (seq : Nat) (s : State), s.Manages →
    let answers := fun (c : Instr) (result : Result) (fieldNo : Nat) =>
      exec c s = .next (s.offerUp (replyTelegram seq result fieldNo []))
    let gives := fun (c : Instr) (t : State) (data : List Byte) =>
      data.length ≤ 38 ∧ exec c s = .next (t.offerUp (replyTelegram seq .ok 0 data))
    (∀ table index,
      (7 < table → answers (.tableRead seq table index) .badTable 0)
      ∧ (table ≤ 7 → [48, 32, 8, 12, 8, 8, 1, 256].getD table 0 ≤ index → answers (.tableRead seq table index) .badIndex 0)
      ∧ (∀ data, table ≤ 7 → s.entryBytes table index = some data → gives (.tableRead seq table index) s data))
    ∧ (∀ cls index, 5 < cls → answers (.stateRead seq cls index) .badValue 1)
    ∧ (∀ cls index, cls ≤ 5 → [48, 12, 8, 8, 1536, 64].getD cls 0 ≤ index → answers (.stateRead seq cls index) .badIndex 0)
    ∧ (∀ f : FrameId, s.NoneFlying (dauFirst f) → s.NoneFlying (spuFirst f) → s.NoneFlying (smuFirst f) →
        gives (.stateRead seq 0 f.val) s (s.frameData f))
    ∧ (∀ k : RobotId, s.NoneFlying pcdBefore →
        let n := (s.robot k).openBytes
        gives (.stateRead seq 1 k.val) { s with freeUses := s.freeUses + n } (s.robotData k (s.freeBytes n)))
    ∧ (∀ d : DofferId, gives (.stateRead seq 2 d.val) s (s.dofferData d))
    ∧ (∀ c : CarrierId, gives (.stateRead seq 3 c.val) s (s.carrierData c))
    ∧ (∀ (f : FrameId) (g : GroupId),
        ((s.enabled f = false ∨ (s.entry f).hasGroup g.val = false) →
          answers (.stateRead seq 4 (f.val * 32 + g.val)) .badIndex 0)
        ∧ (∀ r, s.groupRecord f g = some r → s.enabled f = true → (s.entry f).hasGroup g.val = true →
            (∀ q, r.sequence = some q → gives (.stateRead seq 4 (f.val * 32 + g.val)) s (s.groupData f g []))
            ∧ (r.sequence = none →
                gives (.stateRead seq 4 (f.val * 32 + g.val)) { s with freeUses := s.freeUses + 2 }
                  (s.groupData f g (s.freeBytes 2)))))
    ∧ (∀ a : AisleId, gives (.stateRead seq 5 a.val) s (s.aisleData a))
    ∧ (∀ frame side first count, 47 < frame → answers (.mapRead seq frame side first count) .badIndex 0)
    ∧ (∀ frame side first count, frame ≤ 47 → side ≠ 0 → side ≠ 1 → side ≠ 0x80 → side ≠ 0x81 →
        answers (.mapRead seq frame side first count) .badValue 2)
    ∧ (∀ (f : FrameId) (side : Side) (first count : Nat) (detail : Bool),
        let c : Instr := .mapRead seq f.val (side.code + if detail then 0x80 else 0) first count
        let most := if detail then 19 else 64
        s.NoneFlying (smuFirst f) →
        ((count = 0 ∨ most < count) → answers c .badValue 4)
        ∧ (0 < count → count ≤ most → (s.entry f).length side < first + count → answers c .badIndex 0)
        ∧ (0 < count → count ≤ most → first + count ≤ (s.entry f).length side →
            gives c s (s.mapData f side first count detail)))
    ∧ (∀ list first count,
        let c : Instr := .listRead seq list first count
        let n := s.listOpen list first count
        (3 < list → answers c .badValue 1)
        ∧ (list ≤ 3 → (count = 0 ∨ listLimit list < count) → answers c .badValue 3)
        ∧ (list ≤ 3 → 0 < count → count ≤ listLimit list →
            gives c { s with freeUses := s.freeUses + n }
              (beBytes 1 (s.listLength list) ++ s.listEntries list first count (s.freeBytes n))))
    ∧ (∀ frame record clear,
        let c : Instr := .countsRead seq frame record clear
        let t := if clear = 1 then { s with link := { s.link with counters := .fill 12 0 } } else s
        (47 < frame → frame ≠ 0xFF → answers c .badIndex 0)
        ∧ ((frame ≤ 47 ∨ frame = 0xFF) → 3 < record → answers c .badValue 2)
        ∧ ((frame ≤ 47 ∨ frame = 0xFF) → record ≤ 3 → 1 < clear → answers c .badValue 3)
        ∧ (frame ≤ 47 → record ≤ 3 → clear ≤ 1 → gives c t (s.frameCounts (frameAt frame) record))
        ∧ (frame = 0xFF → record ≤ 3 → clear ≤ 1 → gives c t (s.lineCounts record)))

/-- SHIFT-CLOSE: every frame's closed record is its current record with the shift number, the line number and the efficiency
in basis points, and its current record begins anew with the mass residue kept; while a snapshot is in flight it is BUSY and
changes nothing (R176 to R178). -/
def Obligations.ShiftCloses : Prop :=
  ∀ (seq shift : Nat) (s : State), s.Manages →
    (s.ssu.snapshot = true → exec (.shiftClose seq shift) s = .next (s.offerUp (replyTelegram seq .busy 0 [])))
    ∧ (s.ssu.snapshot = false →
        ∃ t : State, exec (.shiftClose seq shift) s = .next (t.offerUp (replyTelegram seq .ok 0 []))
          ∧ (∀ f, let r := s.scu.current.get f
              t.scu.closed.get f =
                { counts := r.counts, restored := r.restored, lost := r.lost, saturated := r.saturated, shift,
                  lineNumber := s.store.lineNumber,
                  efficiency :=
                    if r.counts.possible = 0 then 0 else r.counts.produced * 10000 / r.counts.possible })
          ∧ (∀ f, t.scu.current.get f =
              { counts := .zero, restored := false, lost := false, saturated := false,
                massResidue := (s.scu.current.get f).massResidue })
          ∧ (∀ f, (s.scu.current.get f).counts.lawful → (t.scu.closed.get f).efficiency ≤ 10000)
          ∧ t = { s with scu := t.scu })

/-- FLAGS-READ answers the line flags, each at the bit of its number, the reset cause and count, the first-fault record and the
twelve link counters in the order of R15, in 31 bytes, a cause as its code of R1; with clear it then empties all of them and the
flags SAT, CLAMP-LOW and CLAMP-HIGH of every frame, but for the cause and the count; a clear above 1 is BAD-VALUE (R37).
PART-RESET is answered OK and the part then takes no management telegram until its reset; the reset begins when the reply has
been sent, or at once where the uplink queue refuses the reply. Not one other command of the mill station changes anything while
it waits (R14, R35, log 29). How the units take the reset that has begun, with the pins that they read, is LINE_RESET's (log
41). -/
def Obligations.FlagsAndPartReset : Prop :=
  [LineFlag.checkErr, .malformed, .upCopyLoss, .downPassLoss, .partLoss, .rogueListFull, .replSetFull, .verifySkipped, .arith,
      .supplyWarn, .restored, .lost].map LineFlag.bit = List.range 12
    ∧ [ResetCause.power, .dip, .lineCmd, .pin].map ResetCause.code = List.range 4
    ∧ (∀ (seq : Nat) (s : State), s.Manages →
    let first :=
      match s.spu.firstFault with
      | some x => [BitVec.ofNat 8 x.frame.val, BitVec.ofNat 8 x.article.val, BitVec.ofNat 8 x.stage]
      | none => [0xFF#8, 0xFF#8, 0xFF#8]
    let data := beBytes 2 s.store.flags.toNat ++ beBytes 1 s.retention.cause.code ++ beBytes 1 s.retention.count ++ first
      ++ [LinkCounter.checkFloor, .checkUplink, .malformed, .unknownNode, .downBlocked, .upCopyLoss, .downPassLoss, .partLossUp,
          .partLossFloor, .stale, .duplicate, .stoppedFrame].flatMap fun c => beBytes 2 (s.counter c)
    data.length = 31
    ∧ exec (.flagsRead seq 0) s = .next (s.offerUp (replyTelegram seq .ok 0 data))
    ∧ (∀ clear, 1 < clear → exec (.flagsRead seq clear) s = .next (s.offerUp (replyTelegram seq .badValue 1 [])))
    ∧ ∃ t : State, exec (.flagsRead seq 1) s = .next (t.offerUp (replyTelegram seq .ok 0 data))
      ∧ t.store.flags = 0 ∧ (∀ c, t.counter c = 0) ∧ t.spu.firstFault = none
      ∧ (∀ f, t.speed f = { s.speed f with sat := false, clampLow := false, clampHigh := false })
      ∧ t = { s with link := { s.link with counters := t.link.counters }, store := { s.store with flags := 0 }, spu := t.spu })
    ∧ (∀ (seq : Nat) (s : State),
      (s.Manages → s.link.upQueue.length < 64 →
        exec (.partReset seq) s = .next
          { s with link := { s.link with upQueue := s.link.upQueue ++ [replyTelegram seq .ok 0 []] },
                   store := { s.store with resetWait := some (s.link.upQueue.length + 1) } })
      ∧ (s.Manages → 64 ≤ s.link.upQueue.length →
          exec (.partReset seq) s = .next
            { (s.bump .partLossUp).latch .partLoss with
              store := { s.store with flags := s.store.flags ||| 16#16, resetWait := some 0 } })
      ∧ (∀ c tel, s.store.resetWait ≠ none → c.port = .uplink → encodeTelegram c = some tel → exec c s = .next s))

/-! ### Supply supervision and resets (spec/11) -/


/-- A line reset, of either cause: each unit has its line-reset values and makes no notice (the model's inference: log 52),
the tables, counts, rogue list, fault records and figures are kept, STARTUP leads the uplink queue and the broadcast
STATE-REQUEST is all of the floor queue. Behind STARTUP stand the alarms held since the reset began, in the order raised (R189;
of those raised before the units take it the model's inference: log 55), and then those of the re-admissions: the groups at or
below their low mark are admitted again in ascending frame and group number, the first 64 into the set with the sequences from
0 on; each further one is UNQUEUED and raises REPL-SET-FULL (R10, R12, R14, R38, R53, R78, R106, R116, R119, R140, R152, R188,
R189). The hand-offs in flight are taken first, the oldest by its own command, until none is left, the alarms that they raise
being held (R188, R189; their number is bounded: log 19). LINE_RESET is the reset that a PART-RESET has begun (R35, R188), and
has no effect without one (the model's choice: log 41). PIN_RESET is the same with RSTN low, and the part is then on and takes
commands (the model's choice: log 20). A LINE-CMD reset that has begun is a reset of its own, and one that still waits for its
reply is not (R188); PIN_RESET takes the begun one first, with the same reading of the pins (the model's choice: log 41). -/
def Obligations.LineResetValues : Prop :=
  (∀ (n : Nat) (h : Instr) (rest : List Instr) (s t : State),
    s.settleHandoffs = s.drain (16 * s.inFlight.length + 4096) ∧ (s.inFlight = [] → s.drain n = s)
    ∧ (s.inFlight = h :: rest → isHandOff h = true → exec h s = .next t → s.drain (n + 1) = t.drain n))
    ∧ (∀ (pins : Fin 32) (s : State),
    let begun : State := { s with rstnLow := true, store := { s.store with resetWait := some 0 } }
    let out := fun (s : State) (cause : ResetCause) (low : Bool) (t : State) =>
      let count := min (s.retention.count + 1) 255
      let lows := (List.finRange 48).flatMap fun f => (List.finRange 32).filterMap fun g =>
        match s.groupRecord f g with
        | some r => if r.remaining ≤ (s.article f).lowMark then some (f, g) else none
        | none => none
      (∃ base : State,
        base = { s with
          link := base.link, store := { s.store with resetWait := none, lineNumber := pins, heldAlarms := [] } }
        ∧ base.link.upQueue =
            [telegram 0x62 0xFF 0 [BitVec.ofNat 8 pins.val, BitVec.ofNat 8 cause.code, 0#8, BitVec.ofNat 8 count]]
        ∧ base.link.floorQueue = [telegram 0x26 0x7F 0 []] ∧ base.link.upSeq = 1#8 ∧ base.link.floorSeq = 1#8
        ∧ base.link.counters = s.link.counters
        ∧ (∀ k : Fin 256, base.link.disposition.get k =
            if 0x20 ≤ k.val ∧ k.val ≤ 0x30 then { s.link.disposition.get k with pass := false } else s.link.disposition.get k)
        ∧ let behind := s.store.heldAlarms.foldl
            (fun u a => State.sendUp 0x61
              ([BitVec.ofNat 8 a.kind.code, BitVec.ofNat 8 a.cls] ++ beBytes 2 a.index ++ beBytes 2 a.detail) u) base
          let full := (lows.drop 64).foldl
            (fun u p => State.alarm .replSetFull 4 (p.1.val * 32 + p.2.val) 0 (u.latch .replSetFull)) behind
          t.link = full.link ∧ t.store = full.store)
        ∧ (∀ f, t.deliveryRecord f = { s.deliveryRecord f with baseline := false })
        ∧ (∀ f side i, let sp := s.spindle f side i
            t.spindle f side i =
              if sp.state = .vacant ∨ sp.state = .rogue then sp else { sp with state := .unknown })
        ∧ (∀ f, (t.map f).running = 0 ∧ (t.map f).populated = (s.map f).populated) ∧ t.smu.rogues = s.smu.rogues
        ∧ (∀ k, t.robot k = { Robot.initial with faultRecord := (s.robot k).faultRecord }) ∧ t.pcd.verify = []
        ∧ (∀ f, t.enablesDue f = 0)
        ∧ t.aou = .initial
        ∧ (∀ f, let r := s.cycle f
            t.cycle f =
              { r with
                state := if r.state = .stopping ∨ r.state = .doffWait ∨ r.state = .doffing then .held else r.state,
                cause := if r.state = .stopping ∨ r.state = .doffWait ∨ r.state = .doffing then some .reset else r.cause,
                claim := none, stopTimer := none })
        ∧ (∀ d, t.doffer d = .initial (s.store.doffers.get d).reach) ∧ t.dcu.queue = []
        ∧ (∀ f, t.speed f = { s.speed f with lastRpm := none }) ∧ t.spu.firstFault = s.spu.firstFault
        ∧ (∀ f g, t.groupRecord f g = (s.groupRecord f g).map fun r =>
            let place := lows.idxOf (f, g)
            { remaining := r.remaining, carrier := none,
              state := if (s.article f).lowMark < r.remaining then .supplied else if place < 64 then .queued else .unqueued,
              sequence :=
                if r.remaining ≤ (s.article f).lowMark ∧ place < 64 then some (BitVec.ofNat 16 place) else none })
        ∧ t.rsu.set = (lows.take 64).zipIdx.map (fun x =>
            { frame := x.1.1, group := x.1.2, sequence := BitVec.ofNat 16 x.2 })
        ∧ t.rsu.nextSequence = BitVec.ofNat 16 (min lows.length 64) ∧ (∀ c, t.carrier c = .initial)
        ∧ t.scu = s.scu ∧ t.ssu = s.ssu ∧ t.retention = { s.retention with cause, count }
        ∧ t.timer = 0 ∧ t.ticks = 0 ∧ t.inFlight = [] ∧ t.freeUses = s.freeUses ∧ t.pending = s.pending
        ∧ t.power = .on ∧ t.supply = s.supply ∧ t.rstnLow = low
    s.power = .on →
    (s.store.resetWait = some 0 → s.inFlight = [] → ∃ t, exec (.lineReset pins) s = .next t ∧ out s .lineCmd s.rstnLow t)
    ∧ (s.store.resetWait = some 0 → ∀ u, u = s.settleHandoffs → u.power = .on → u.inFlight = [] →
        ∃ t, exec (.lineReset pins) s = .next t ∧ out u .lineCmd u.rstnLow t)
    ∧ (s.store.resetWait ≠ some 0 → exec (.lineReset pins) s = .next s)
    ∧ (s.store.resetWait ≠ some 0 → s.inFlight = [] → ∃ t, exec (.pinReset pins) s = .next t ∧ out s .pin true t)
    ∧ (s.store.resetWait ≠ some 0 → ∀ u, u = begun.settleHandoffs → u.power = .on → u.inFlight = [] →
        ∃ t, exec (.pinReset pins) s = .next t ∧ out u .pin u.rstnLow t)
    ∧ (s.store.resetWait = some 0 → ∀ u, exec (.lineReset pins) { s with rstnLow := true } = .next u →
        exec (.pinReset pins) s = exec (.pinReset pins) u))

/-- The supply below the fail level holds the part in reset with everything volatile lost; the retention domain keeps its
contents, but that the fall through the warn level is taken first and, in mode RETAIN, clears the valid flag (R183, R184,
R186). A SUPPLY_FAIL at or above the fail level and a SUPPLY_RESET_EXIT at or below it have no effect (the model's choice: log
21). The end of a supply reset: of class DIP where the intact mark is set, else POWER; cause and count are recorded as it is
classed, also where RSTN then holds it (the model's inference: log 44); every volatile value is its reset value, which ResetIsSound spells; with the class
DIP and the valid flag set every current record is restored from its image with RESTORED, else every record is zeroed with
LOST; STARTUP and the broadcast STATE-REQUEST are queued; RSTN low holds the reset, with its class, until RSTN rises (R53, R171,
R186, R187, R189). At the levels of State.reset, which are the model's (log 8), it ends in State.reset. -/
def Obligations.SupplyResets : Prop :=
  (∀ (mv : Nat) (s : State),
    (2850 ≤ mv → exec (.supplyFail mv) s = .next s)
    ∧ (mv < 2850 →
        exec (.supplyFail mv) s = .next
          (State.blank s.store.lineNumber
            { s.retention with
              valid := s.retention.valid
                && !(decide (s.power = .on ∧ s.ssu.comparator = .normal ∧ 2 ≤ s.store.settings.warnMode)) }
            .heldBySupply s.rstnLow mv s.freeUses s.pending)))
    ∧ (∀ (mv : Nat) (pins : Fin 32) (s : State),
      let recorded :=
        if s.retention.intact = true then
          { s.retention with cause := .dip, count := min (s.retention.count + 1) 255 }
        else { s.retention with cause := .power, count := 0, valid := false, intact := true }
      let out := fun (dip : Bool) (r : Retention) (supply : Nat) =>
        let restored := dip && r.valid
        let t := State.blank pins { r with valid := false } .on false supply s.freeUses s.pending
        { t with
          link := { t.link with
            upQueue := [telegram 0x62 0xFF 0 [BitVec.ofNat 8 pins.val, BitVec.ofNat 8 r.cause.code,
              (if restored then 1#8 else 2#8), BitVec.ofNat 8 r.count]],
            floorQueue := [telegram 0x26 0x7F 0 []], upSeq := 1#8, floorSeq := 1#8 },
          store := { t.store with flags := if restored then 0x0400#16 else 0x0800#16 },
          scu := { t.scu with
            current :=
              if restored then r.images.map fun i =>
                { counts := i.counts, restored := true, lost := false, saturated := i.saturated, massResidue := i.massResidue }
              else .fill 48
                { counts := .zero, restored := false, lost := true, saturated := false, massResidue := 0 } },
          ssu := { t.ssu with comparator := if 3150 < supply then .normal else .low } }
      (s.power = .heldBySupply → 2850 < mv →
        (s.rstnLow = false → exec (.supplyResetExit mv pins) s = .next (out s.retention.intact recorded mv))
        ∧ (s.rstnLow = true →
            exec (.supplyResetExit mv pins) s = .next
              { s with supply := mv, power := .heldByPin s.retention.intact, retention := recorded }))
      ∧ ((s.power ≠ .heldBySupply ∨ mv ≤ 2850) → exec (.supplyResetExit mv pins) s = .next s)
      ∧ (∀ dip, s.power = .heldByPin dip → (dip = true ∨ s.retention.valid = false) →
          exec (.rstnRises pins) s = .next (out dip s.retention s.supply))
      ∧ ((s.power = .on ∨ s.power = .heldBySupply) → exec (.rstnRises pins) s = .next { s with rstnLow := false })
      ∧ (s.power = .heldBySupply → s.rstnLow = false → s.retention.intact = false → s.retention.images = .fill 48 .empty →
          s.freeUses = 0 → s.pending = [] → exec (.supplyResetExit 2851 0) s = .next State.reset))

/-- A fall of the supply is taken in NORMAL below the warn level and a rise in LOW above the recovery level, at the levels
in force, and no other level is a crossing; SUPPLY_FALL and SUPPLY_RISE each bring the one that the comparator allows (the
model's choice: log 21). A fall makes LOW and, by the warn mode, latches SUPPLY-WARN with its alarm and begins a snapshot at
frame 0 with the valid flag cleared; a rise makes NORMAL, ends a snapshot, clears the valid flag and, where the fall was
reported, raises SUPPLY-OK (R183 to R185). A snapshot copies one frame's current record with its mass residue at a read, in
ascending frame number; the read of frame 47 completes it and sets the valid flag; with none in flight a read does nothing. The
next frame to copy keeps its value outside a snapshot (the model's choice: log 23). The loss of the retention supply clears the
whole domain, and a snapshot in flight goes on (R184, R185; the model's choice: logs 22, 43). -/
def Obligations.CrossingsAndSnapshot : Prop :=
  (∀ (mv : Nat) (s : State), s.power = .on →
    let code := s.store.settings.warnLevel
    let warn := 3000 + 50 * code
    let s1 := { s with supply := mv }
    let both := fun t : State => exec (.supplyFall mv) s = .next t ∧ exec (.supplyRise mv) s = .next t
    let fallen := fun (reported : Bool) => { s1 with ssu := { s.ssu with comparator := .low, warnReported := reported } }
    let warned := State.alarm .supplyWarn 7 0 code (State.latch .supplyWarn (fallen true))
    (s.ssu.comparator = .normal → warn ≤ mv → both s1)
    ∧ (s.ssu.comparator = .normal → mv < warn →
        (s.store.settings.warnMode = 0 → both (fallen false))
        ∧ (s.store.settings.warnMode = 1 → both warned)
        ∧ (s.store.settings.warnMode = 2 → both
            { warned with ssu := { warned.ssu with snapshot := true, nextFrame := 0 },
                          retention := { s.retention with valid := false } }))
    ∧ (s.ssu.comparator = .low → mv ≤ warn + 50 → both s1)
    ∧ (s.ssu.comparator = .low → warn + 50 < mv →
        let risen := { s1 with ssu := { s.ssu with comparator := .normal, warnReported := false, snapshot := false },
                               retention := { s.retention with valid := false } }
        both (if s.ssu.warnReported = true then State.alarm .supplyOk 7 0 code risen else risen)))
    ∧ (∀ s : State,
      let f := s.ssu.nextFrame
      let copied := s.retention.images.set f
        { counts := (s.count f).counts, saturated := (s.count f).saturated, massResidue := (s.count f).massResidue }
      (s.power = .on →
        (s.ssu.snapshot = false → exec .snapshotRead s = .next s)
        ∧ (∀ g : FrameId, s.ssu.snapshot = true → g.val = f.val + 1 →
            exec .snapshotRead s = .next
              { s with retention := { s.retention with images := copied }, ssu := { s.ssu with nextFrame := g } })
        ∧ (s.ssu.snapshot = true → f = 47 →
            exec .snapshotRead s = .next
              { s with retention := { s.retention with images := copied, valid := true },
                       ssu := { s.ssu with snapshot := false } }))
      ∧ exec .vretLoss s = .next
          { s with retention := { images := .fill 48 { counts := .zero, saturated := false, massResidue := 0 }, valid := false,
                                  intact := false, cause := .power, count := 0 } })

/-! ### What every step keeps -/


/-- The state after a power-on reset, chapter by chapter: the Disposition Table, the queues with the STARTUP (line 0, POWER,
LOST, count 0) and the broadcast STATE-REQUEST of the reset, their sequence counters and the link counters (R10, R12, R15, R53,
R189); the reset values of Tables 2-3 to 2-6, the flags with LOST alone, no reset waiting (R37, R187); every record, list and
queue at the power-on value of Tables 3-1, 4-2, 4-3, 5-2, 5-3, 6-1, 6-2, 7-3, 7-5, 7-6, 8-1, 8-2, 9-1, 9-3, 9-5, 10-1, 10-2 and
11-2, the line timer at 0, nothing in flight and the retention domain not valid with the intact mark set, cause POWER and count 0
(R186, R187, R189). The model's choices are the pins' reading 0, the supply at 2,851 mV, RSTN high and no free value drawn (log
8), the frame images' 0 (log 22), and its own fields: the former article, the claimed frames, the enables, the ticks and the
waiting commands (logs 42, 17, 56, 5, 7). `State.blank` is that state with the levels outside, the retention domain and the model's
own counters given, before the reset's own telegrams and the restore. The state after reset is sound: every bound and law of the
statements below holds of it (R10, R13, R15, R50, R55, R76, R96, R179). -/
def Obligations.ResetIsSound : Prop :=
  (let s := State.reset
    let zero : Counts :=
      { delivered := 0, possible := 0, produced := 0, mass := 0, breaks := 0, rovingEnds := 0, piecedOk := 0, piecedFailed := 0,
        rogues := 0, doffs := 0, stoppedSeconds := 0, doffWaitSeconds := 0 }
    -- the line link (R10, R12, R13, R15)
    (∀ k : Fin 256,
      ((s.link.disposition.get k).copy = false ↔ k = 0x01 ∨ k = 0x04 ∨ k = 0x11)
        ∧ ((s.link.disposition.get k).pass = false ↔ 0x20 ≤ k.val ∧ k.val ≤ 0x30))
    ∧ s.link.upQueue = [telegram 0x62 0xFF 0 [0, 0, 2, 0]] ∧ s.link.floorQueue = [telegram 0x26 0x7F 0 []]
    ∧ s.link.upSeq = 1 ∧ s.link.floorSeq = 1 ∧ (∀ c, s.counter c = 0)
    -- the tables and flags (Tables 2-3 to 2-6, R35, R37)
    ∧ (∀ f, s.entry f =
        { enabled := 0, lengthA := 0, lengthB := 0, aisleA := 0, offsetA := 0, aisleB := 0, offsetB := 0, pulseLength := 65536,
          groupA := 16, groupB := 16, article := 0, nextArticle := 0xFF })
    ∧ (∀ a, s.store.articles.get a =
        { defined := 0, density := 1, draft := 256, doffTarget := 1000, startUp := 0, degree := 0, coeffs := .fill 6 0,
          minRpm := 0, maxRpm := 0, speedStep := 0, interval := 1000, highThreshold := 1, lowThreshold := 0, quietIntervals := 1,
          attemptLimit := 1, repeatLimit := 2, lowMark := 0 })
    ∧ (∀ z, (s.store.zones.get z).count = 0 ∧ (s.store.zones.get z).piecingTimeout = 60
        ∧ (s.store.zones.get z).verifyWindow = 10 ∧ s.patrol z = [])
    ∧ (∀ k, s.store.robots.get k = { enabled := 0, zone := 0 })
    ∧ (∀ d, s.store.doffers.get d = { enabled := 0, reach := 0, timeout := 30 })
    ∧ (∀ c, s.store.carriers.get c = { enabled := 0, travelTimeout := 10, changeTimeout := 10 })
    ∧ s.store.settings = { alarmEnable := 0x07FF, stopTimeout := 20, warnLevel := 2, warnMode := 2 }
    ∧ (∀ x, s.flagSet x = true ↔ x = .lost) ∧ s.store.flags = 0x0800 ∧ s.store.resetWait = none ∧ s.store.heldAlarms = []
    ∧ s.store.lineNumber = 0
    -- the records of the units (Tables 3-1 to 9-5)
    ∧ Delivery.initial =
        { baseline := false, lastPulse := 0, lengthResidue := 0, rovingResidue := 0, cop := 0, fill := 0, former := none }
    ∧ (∀ f, s.deliveryRecord f = .initial)
    ∧ (∀ f side i, s.spindle f side i = { state := .vacant, attempts := 0, repeats := 0 })
    ∧ FrameMap.empty = { sideA := [], sideB := [], running := 0, populated := 0 } ∧ (∀ f, s.map f = .empty)
    ∧ s.smu.rogues = []
    ∧ Robot.initial =
        { state := .offline, aisle := none, position := 0, sweep := .up, assignment := none, leaveTarget := none,
          deadline := none, faultRecord := .none }
    ∧ (∀ k, s.robot k = .initial) ∧ s.pcd.verify = [] ∧ (∀ f, s.enablesDue f = 0)
    ∧ s.aou = .initial ∧ (∀ a, s.aisleRecord a = { holder := .none, reservedBy := none }) ∧ s.aou.waiting = []
    ∧ (∀ d, s.aou.claims.get d = none)
    ∧ FrameCycle.initial = { state := .offline, cause := none, claim := none, stopTimer := none, startUp := 0 }
    ∧ (∀ f, s.cycle f = .initial)
    ∧ (∀ reach, Doffer.initial reach =
        { state := .offline, frame := none, held := false, reach, reachPending := none, timer := none })
    ∧ (∀ d, s.doffer d = .initial 0) ∧ s.dcu.queue = []
    ∧ (∀ f, s.speed f =
        { level := 0, quiet := 0, progress := 0, count := 0, heldFill := 0, fillStep := 0, lastRpm := none, sat := false,
          clampLow := false, clampHigh := false, levelChanged := false })
    ∧ s.spu.firstFault = none
    ∧ (∀ f g, s.groupRecord f g = none) ∧ s.rsu.set = [] ∧ s.rsu.nextSequence = 0
    ∧ Carrier.initial = { state := .offline, trip := none, load := 0, timer := none } ∧ (∀ c, s.carrier c = .initial)
    -- the counts, the supervision and the retention domain (Tables 10-1, 10-2, 11-2, 11-3)
    ∧ (∀ f, s.count f = { counts := zero, restored := false, lost := true, saturated := false, massResidue := 0 })
    ∧ (∀ f, s.scu.closed.get f =
        { counts := zero, restored := false, lost := false, saturated := false, shift := 0, lineNumber := 0, efficiency := 0 })
    ∧ s.ssu = { comparator := .low, warnReported := false, snapshot := false, nextFrame := 0 }
    ∧ s.retention.valid = false ∧ s.retention.intact = true ∧ s.retention.cause = .power ∧ s.retention.count = 0
    ∧ (∀ f, s.retention.images.get f = { counts := zero, saturated := false, massResidue := 0 })
    -- the levels outside, the time and the model's own fields
    ∧ s.power = .on ∧ s.rstnLow = false ∧ s.supply = 2851 ∧ s.timer = 0 ∧ s.ticks = 0 ∧ s.inFlight = [] ∧ s.freeUses = 0
    ∧ s.pending = []
    ∧ ∀ (line : Fin 32) (r : Retention) (p : Power) (low : Bool) (mv uses : Nat) (q : List Instr),
        let b := State.blank line r p low mv uses q
        (∀ f, b.scu.closed.get f = { s.scu.closed.get f with lineNumber := line })
        ∧ b = { s with
          link := { s.link with upQueue := [], floorQueue := [], upSeq := 0, floorSeq := 0 },
          store := { s.store with flags := 0, lineNumber := line }, scu := { s.scu with closed := b.scu.closed },
          retention := r, power := p, rstnLow := low, supply := mv, freeUses := uses, pending := q })
    ∧ State.reset.queuesBounded ∧ State.reset.countersBounded ∧ State.reset.listsBounded ∧ State.reset.mapsCounted
    ∧ State.reset.residuesBounded ∧ State.reset.commandsBlocked ∧ State.reset.productionLawful

/-- No step takes a transmit queue above 64 entries, a link counter above 65,535, the rogue list above 128, the verify list
above 32 or the replenishment set above 64 (R13, R15, R76, R96, Table 9-3). After every step the counts of every map agree
with its records, the length, roving and mass residues are below their bounds, that of roving of an enabled frame below the
draft by which the DAU works, and no part command is passed down (R10, R11, R50, R55). -/
def Obligations.StepKeepsBounds : Prop :=
  (∀ s t : State, step s = .next t →
    (s.queuesBounded → t.queuesBounded) ∧ (s.countersBounded → t.countersBounded) ∧ (s.listsBounded → t.listsBounded))
    ∧ (∀ s t : State, step s = .next t →
      (s.mapsCounted → t.mapsCounted) ∧ (s.residuesBounded → t.residuesBounded) ∧ (s.commandsBlocked → t.commandsBlocked))

/-- Produced never exceeds possible, in any current record, closed record or image, after any step from a state where that
holds, the maps are counted and no production item says otherwise (R179). -/
def Obligations.StepKeepsProductionLawful : Prop :=
  ∀ s t : State, step s = .next t → s.productionLawful → t.productionLawful

/-- What no command of another kind can change: the tables of the Table Store, but by a TABLE-WRITE (and an article by the
switch at a DOFF-DONE); the Disposition Table, but by a write to it and, for the part commands' kinds, by a line reset, which
blocks them; a line flag once latched, which stays so but for a FLAGS-READ with clear; the closed records, but by SHIFT-CLOSE;
in each case a supply reset apart (R10, R18, R37, R130, R172). -/
def Obligations.OnlyTheirOwnCommands : Prop :=
  ∀ (c : Instr) (s t : State), exec c s = .next t → losesState c = false →
    (writesTable c = false →
      t.store.articles = s.store.articles ∧ t.store.zones = s.store.zones ∧ t.store.robots = s.store.robots
        ∧ t.store.doffers = s.store.doffers ∧ t.store.carriers = s.store.carriers ∧ t.store.settings = s.store.settings
        ∧ ((∀ node seq frame, c ≠ .doffDone node seq frame) → t.store.frames = s.store.frames))
    ∧ ((∀ seq index mask values, c ≠ .dispositionTableWrite seq index mask values) →
        (∀ seq index mask values, c ≠ .tableWrite seq 7 index mask values) → ∀ k : Fin 256,
        t.link.disposition.get k = s.link.disposition.get k
          ∨ ((∃ pins, c = .lineReset pins ∨ c = .pinReset pins) ∧ 0x20 ≤ k.val ∧ k.val ≤ 0x30
              ∧ t.link.disposition.get k = { s.link.disposition.get k with pass := false }))
    ∧ ((∀ seq, c ≠ .flagsRead seq 1) → ∀ x, s.flagSet x = true → t.flagSet x = true)
    ∧ ((∀ seq shift, c ≠ .shiftClose seq shift) → t.scu.closed = s.scu.closed)
end

