-- ==== Sys2Proof/Laws/State.lean ====
section
/-! SUPPORT. The state's updates: each field after each update, true by computation, and the tables of like records. -/

namespace Sys2Proof

variable {n : Nat} {α β : Type}

@[simp] theorem Tab.get_set_self (t : Tab n α) (i : Fin n) (v : α) : (t.set i v).get i = v := by
  simp [Tab.get, Tab.set]

theorem Tab.get_set (t : Tab n α) (i j : Fin n) (v : α) : (t.set i v).get j = if i = j then v else t.get j := by
  simp [Tab.get, Tab.set, List.getElem_set, Fin.ext_iff]

@[simp] theorem Tab.get_set_ne (t : Tab n α) {i j : Fin n} (h : i ≠ j) (v : α) : (t.set i v).get j = t.get j := by
  simp [Tab.get_set, h]

@[simp] theorem Tab.get_fill (v : α) (i : Fin n) : (Tab.fill n v).get i = v := by simp [Tab.get, Tab.fill]

@[simp] theorem Tab.get_map (f : α → β) (t : Tab n α) (i : Fin n) : (t.map f).get i = f (t.get i) := by
  simp [Tab.get, Tab.map]

@[simp] theorem Tab.get_build (f : Fin n → α) (i : Fin n) : (Tab.build f).get i = f i := by simp [Tab.get, Tab.build]

theorem Tab.get_modify (t : Tab n α) (i j : Fin n) (f : α → α) :
    (t.modify i f).get j = if i = j then f (t.get j) else t.get j := by
  unfold Tab.modify
  rw [Tab.get_set]
  split
  · rename_i h; rw [h]
  · rfl

@[simp] theorem Tab.get_modify_self (t : Tab n α) (i : Fin n) (f : α → α) : (t.modify i f).get i = f (t.get i) := by
  simp [Tab.get_modify]

@[simp] theorem Tab.get_modify_ne (t : Tab n α) {i j : Fin n} (h : i ≠ j) (f : α → α) :
    (t.modify i f).get j = t.get j := by simp [Tab.get_modify, h]

/-- Two tables with the same records are the same table. -/
theorem Tab.ext_get {t u : Tab n α} (h : ∀ i, t.get i = u.get i) : t = u := by
  obtain ⟨a, ha⟩ := t
  obtain ⟨b, hb⟩ := u
  have : a = b := by
    apply List.ext_getElem (by omega)
    intro i h1 h2
    exact h ⟨i, by omega⟩
  subst this
  rfl

namespace Machine

variable (s : State)


/-! ### State.setUpQueue -/

@[simp] theorem State.setUpQueue_link (q : List Telegram) : (s.setUpQueue q).link = { s.link with upQueue := q } := rfl
@[simp] theorem State.setUpQueue_store (q : List Telegram) : (s.setUpQueue q).store = s.store := rfl
@[simp] theorem State.setUpQueue_dau (q : List Telegram) : (s.setUpQueue q).dau = s.dau := rfl
@[simp] theorem State.setUpQueue_smu (q : List Telegram) : (s.setUpQueue q).smu = s.smu := rfl
@[simp] theorem State.setUpQueue_pcd (q : List Telegram) : (s.setUpQueue q).pcd = s.pcd := rfl
@[simp] theorem State.setUpQueue_aou (q : List Telegram) : (s.setUpQueue q).aou = s.aou := rfl
@[simp] theorem State.setUpQueue_dcu (q : List Telegram) : (s.setUpQueue q).dcu = s.dcu := rfl
@[simp] theorem State.setUpQueue_spu (q : List Telegram) : (s.setUpQueue q).spu = s.spu := rfl
@[simp] theorem State.setUpQueue_rsu (q : List Telegram) : (s.setUpQueue q).rsu = s.rsu := rfl
@[simp] theorem State.setUpQueue_scu (q : List Telegram) : (s.setUpQueue q).scu = s.scu := rfl
@[simp] theorem State.setUpQueue_ssu (q : List Telegram) : (s.setUpQueue q).ssu = s.ssu := rfl
@[simp] theorem State.setUpQueue_retention (q : List Telegram) : (s.setUpQueue q).retention = s.retention := rfl
@[simp] theorem State.setUpQueue_power (q : List Telegram) : (s.setUpQueue q).power = s.power := rfl
@[simp] theorem State.setUpQueue_rstnLow (q : List Telegram) : (s.setUpQueue q).rstnLow = s.rstnLow := rfl
@[simp] theorem State.setUpQueue_supply (q : List Telegram) : (s.setUpQueue q).supply = s.supply := rfl
@[simp] theorem State.setUpQueue_timer (q : List Telegram) : (s.setUpQueue q).timer = s.timer := rfl
@[simp] theorem State.setUpQueue_ticks (q : List Telegram) : (s.setUpQueue q).ticks = s.ticks := rfl
@[simp] theorem State.setUpQueue_inFlight (q : List Telegram) : (s.setUpQueue q).inFlight = s.inFlight := rfl
@[simp] theorem State.setUpQueue_freeUses (q : List Telegram) : (s.setUpQueue q).freeUses = s.freeUses := rfl
@[simp] theorem State.setUpQueue_pending (q : List Telegram) : (s.setUpQueue q).pending = s.pending := rfl

/-! ### State.setFloorQueue -/

@[simp] theorem State.setFloorQueue_link (q : List Telegram) :
    (s.setFloorQueue q).link = { s.link with floorQueue := q } := rfl
@[simp] theorem State.setFloorQueue_store (q : List Telegram) : (s.setFloorQueue q).store = s.store := rfl
@[simp] theorem State.setFloorQueue_dau (q : List Telegram) : (s.setFloorQueue q).dau = s.dau := rfl
@[simp] theorem State.setFloorQueue_smu (q : List Telegram) : (s.setFloorQueue q).smu = s.smu := rfl
@[simp] theorem State.setFloorQueue_pcd (q : List Telegram) : (s.setFloorQueue q).pcd = s.pcd := rfl
@[simp] theorem State.setFloorQueue_aou (q : List Telegram) : (s.setFloorQueue q).aou = s.aou := rfl
@[simp] theorem State.setFloorQueue_dcu (q : List Telegram) : (s.setFloorQueue q).dcu = s.dcu := rfl
@[simp] theorem State.setFloorQueue_spu (q : List Telegram) : (s.setFloorQueue q).spu = s.spu := rfl
@[simp] theorem State.setFloorQueue_rsu (q : List Telegram) : (s.setFloorQueue q).rsu = s.rsu := rfl
@[simp] theorem State.setFloorQueue_scu (q : List Telegram) : (s.setFloorQueue q).scu = s.scu := rfl
@[simp] theorem State.setFloorQueue_ssu (q : List Telegram) : (s.setFloorQueue q).ssu = s.ssu := rfl
@[simp] theorem State.setFloorQueue_retention (q : List Telegram) : (s.setFloorQueue q).retention = s.retention := rfl
@[simp] theorem State.setFloorQueue_power (q : List Telegram) : (s.setFloorQueue q).power = s.power := rfl
@[simp] theorem State.setFloorQueue_rstnLow (q : List Telegram) : (s.setFloorQueue q).rstnLow = s.rstnLow := rfl
@[simp] theorem State.setFloorQueue_supply (q : List Telegram) : (s.setFloorQueue q).supply = s.supply := rfl
@[simp] theorem State.setFloorQueue_timer (q : List Telegram) : (s.setFloorQueue q).timer = s.timer := rfl
@[simp] theorem State.setFloorQueue_ticks (q : List Telegram) : (s.setFloorQueue q).ticks = s.ticks := rfl
@[simp] theorem State.setFloorQueue_inFlight (q : List Telegram) : (s.setFloorQueue q).inFlight = s.inFlight := rfl
@[simp] theorem State.setFloorQueue_freeUses (q : List Telegram) : (s.setFloorQueue q).freeUses = s.freeUses := rfl
@[simp] theorem State.setFloorQueue_pending (q : List Telegram) : (s.setFloorQueue q).pending = s.pending := rfl

/-! ### State.bump -/

@[simp] theorem State.bump_link (c : LinkCounter) :
    (s.bump c).link = { s.link with counters := s.link.counters.modify c.place fun n => min (n + 1) 65535 } := rfl
@[simp] theorem State.bump_store (c : LinkCounter) : (s.bump c).store = s.store := rfl
@[simp] theorem State.bump_dau (c : LinkCounter) : (s.bump c).dau = s.dau := rfl
@[simp] theorem State.bump_smu (c : LinkCounter) : (s.bump c).smu = s.smu := rfl
@[simp] theorem State.bump_pcd (c : LinkCounter) : (s.bump c).pcd = s.pcd := rfl
@[simp] theorem State.bump_aou (c : LinkCounter) : (s.bump c).aou = s.aou := rfl
@[simp] theorem State.bump_dcu (c : LinkCounter) : (s.bump c).dcu = s.dcu := rfl
@[simp] theorem State.bump_spu (c : LinkCounter) : (s.bump c).spu = s.spu := rfl
@[simp] theorem State.bump_rsu (c : LinkCounter) : (s.bump c).rsu = s.rsu := rfl
@[simp] theorem State.bump_scu (c : LinkCounter) : (s.bump c).scu = s.scu := rfl
@[simp] theorem State.bump_ssu (c : LinkCounter) : (s.bump c).ssu = s.ssu := rfl
@[simp] theorem State.bump_retention (c : LinkCounter) : (s.bump c).retention = s.retention := rfl
@[simp] theorem State.bump_power (c : LinkCounter) : (s.bump c).power = s.power := rfl
@[simp] theorem State.bump_rstnLow (c : LinkCounter) : (s.bump c).rstnLow = s.rstnLow := rfl
@[simp] theorem State.bump_supply (c : LinkCounter) : (s.bump c).supply = s.supply := rfl
@[simp] theorem State.bump_timer (c : LinkCounter) : (s.bump c).timer = s.timer := rfl
@[simp] theorem State.bump_ticks (c : LinkCounter) : (s.bump c).ticks = s.ticks := rfl
@[simp] theorem State.bump_inFlight (c : LinkCounter) : (s.bump c).inFlight = s.inFlight := rfl
@[simp] theorem State.bump_freeUses (c : LinkCounter) : (s.bump c).freeUses = s.freeUses := rfl
@[simp] theorem State.bump_pending (c : LinkCounter) : (s.bump c).pending = s.pending := rfl

/-! ### State.latch -/

@[simp] theorem State.latch_link (x : LineFlag) : (s.latch x).link = s.link := rfl
@[simp] theorem State.latch_store (x : LineFlag) :
    (s.latch x).store = { s.store with flags := s.store.flags ||| (1#16 <<< x.bit) } := rfl
@[simp] theorem State.latch_dau (x : LineFlag) : (s.latch x).dau = s.dau := rfl
@[simp] theorem State.latch_smu (x : LineFlag) : (s.latch x).smu = s.smu := rfl
@[simp] theorem State.latch_pcd (x : LineFlag) : (s.latch x).pcd = s.pcd := rfl
@[simp] theorem State.latch_aou (x : LineFlag) : (s.latch x).aou = s.aou := rfl
@[simp] theorem State.latch_dcu (x : LineFlag) : (s.latch x).dcu = s.dcu := rfl
@[simp] theorem State.latch_spu (x : LineFlag) : (s.latch x).spu = s.spu := rfl
@[simp] theorem State.latch_rsu (x : LineFlag) : (s.latch x).rsu = s.rsu := rfl
@[simp] theorem State.latch_scu (x : LineFlag) : (s.latch x).scu = s.scu := rfl
@[simp] theorem State.latch_ssu (x : LineFlag) : (s.latch x).ssu = s.ssu := rfl
@[simp] theorem State.latch_retention (x : LineFlag) : (s.latch x).retention = s.retention := rfl
@[simp] theorem State.latch_power (x : LineFlag) : (s.latch x).power = s.power := rfl
@[simp] theorem State.latch_rstnLow (x : LineFlag) : (s.latch x).rstnLow = s.rstnLow := rfl
@[simp] theorem State.latch_supply (x : LineFlag) : (s.latch x).supply = s.supply := rfl
@[simp] theorem State.latch_timer (x : LineFlag) : (s.latch x).timer = s.timer := rfl
@[simp] theorem State.latch_ticks (x : LineFlag) : (s.latch x).ticks = s.ticks := rfl
@[simp] theorem State.latch_inFlight (x : LineFlag) : (s.latch x).inFlight = s.inFlight := rfl
@[simp] theorem State.latch_freeUses (x : LineFlag) : (s.latch x).freeUses = s.freeUses := rfl
@[simp] theorem State.latch_pending (x : LineFlag) : (s.latch x).pending = s.pending := rfl

/-! ### State.setEntry -/

@[simp] theorem State.setEntry_link (f : FrameId) (e : FrameEntry) : (s.setEntry f e).link = s.link := rfl
@[simp] theorem State.setEntry_store (f : FrameId) (e : FrameEntry) :
    (s.setEntry f e).store = { s.store with frames := s.store.frames.set f e } := rfl
@[simp] theorem State.setEntry_dau (f : FrameId) (e : FrameEntry) : (s.setEntry f e).dau = s.dau := rfl
@[simp] theorem State.setEntry_smu (f : FrameId) (e : FrameEntry) : (s.setEntry f e).smu = s.smu := rfl
@[simp] theorem State.setEntry_pcd (f : FrameId) (e : FrameEntry) : (s.setEntry f e).pcd = s.pcd := rfl
@[simp] theorem State.setEntry_aou (f : FrameId) (e : FrameEntry) : (s.setEntry f e).aou = s.aou := rfl
@[simp] theorem State.setEntry_dcu (f : FrameId) (e : FrameEntry) : (s.setEntry f e).dcu = s.dcu := rfl
@[simp] theorem State.setEntry_spu (f : FrameId) (e : FrameEntry) : (s.setEntry f e).spu = s.spu := rfl
@[simp] theorem State.setEntry_rsu (f : FrameId) (e : FrameEntry) : (s.setEntry f e).rsu = s.rsu := rfl
@[simp] theorem State.setEntry_scu (f : FrameId) (e : FrameEntry) : (s.setEntry f e).scu = s.scu := rfl
@[simp] theorem State.setEntry_ssu (f : FrameId) (e : FrameEntry) : (s.setEntry f e).ssu = s.ssu := rfl
@[simp] theorem State.setEntry_retention (f : FrameId) (e : FrameEntry) :
    (s.setEntry f e).retention = s.retention := rfl
@[simp] theorem State.setEntry_power (f : FrameId) (e : FrameEntry) : (s.setEntry f e).power = s.power := rfl
@[simp] theorem State.setEntry_rstnLow (f : FrameId) (e : FrameEntry) : (s.setEntry f e).rstnLow = s.rstnLow := rfl
@[simp] theorem State.setEntry_supply (f : FrameId) (e : FrameEntry) : (s.setEntry f e).supply = s.supply := rfl
@[simp] theorem State.setEntry_timer (f : FrameId) (e : FrameEntry) : (s.setEntry f e).timer = s.timer := rfl
@[simp] theorem State.setEntry_ticks (f : FrameId) (e : FrameEntry) : (s.setEntry f e).ticks = s.ticks := rfl
@[simp] theorem State.setEntry_inFlight (f : FrameId) (e : FrameEntry) : (s.setEntry f e).inFlight = s.inFlight := rfl
@[simp] theorem State.setEntry_freeUses (f : FrameId) (e : FrameEntry) : (s.setEntry f e).freeUses = s.freeUses := rfl
@[simp] theorem State.setEntry_pending (f : FrameId) (e : FrameEntry) : (s.setEntry f e).pending = s.pending := rfl

/-! ### State.setDelivery -/

@[simp] theorem State.setDelivery_link (f : FrameId) (r : Delivery) : (s.setDelivery f r).link = s.link := rfl
@[simp] theorem State.setDelivery_store (f : FrameId) (r : Delivery) : (s.setDelivery f r).store = s.store := rfl
@[simp] theorem State.setDelivery_dau (f : FrameId) (r : Delivery) : (s.setDelivery f r).dau = s.dau.set f r := rfl
@[simp] theorem State.setDelivery_smu (f : FrameId) (r : Delivery) : (s.setDelivery f r).smu = s.smu := rfl
@[simp] theorem State.setDelivery_pcd (f : FrameId) (r : Delivery) : (s.setDelivery f r).pcd = s.pcd := rfl
@[simp] theorem State.setDelivery_aou (f : FrameId) (r : Delivery) : (s.setDelivery f r).aou = s.aou := rfl
@[simp] theorem State.setDelivery_dcu (f : FrameId) (r : Delivery) : (s.setDelivery f r).dcu = s.dcu := rfl
@[simp] theorem State.setDelivery_spu (f : FrameId) (r : Delivery) : (s.setDelivery f r).spu = s.spu := rfl
@[simp] theorem State.setDelivery_rsu (f : FrameId) (r : Delivery) : (s.setDelivery f r).rsu = s.rsu := rfl
@[simp] theorem State.setDelivery_scu (f : FrameId) (r : Delivery) : (s.setDelivery f r).scu = s.scu := rfl
@[simp] theorem State.setDelivery_ssu (f : FrameId) (r : Delivery) : (s.setDelivery f r).ssu = s.ssu := rfl
@[simp] theorem State.setDelivery_retention (f : FrameId) (r : Delivery) :
    (s.setDelivery f r).retention = s.retention := rfl
@[simp] theorem State.setDelivery_power (f : FrameId) (r : Delivery) : (s.setDelivery f r).power = s.power := rfl
@[simp] theorem State.setDelivery_rstnLow (f : FrameId) (r : Delivery) : (s.setDelivery f r).rstnLow = s.rstnLow := rfl
@[simp] theorem State.setDelivery_supply (f : FrameId) (r : Delivery) : (s.setDelivery f r).supply = s.supply := rfl
@[simp] theorem State.setDelivery_timer (f : FrameId) (r : Delivery) : (s.setDelivery f r).timer = s.timer := rfl
@[simp] theorem State.setDelivery_ticks (f : FrameId) (r : Delivery) : (s.setDelivery f r).ticks = s.ticks := rfl
@[simp] theorem State.setDelivery_inFlight (f : FrameId) (r : Delivery) :
    (s.setDelivery f r).inFlight = s.inFlight := rfl
@[simp] theorem State.setDelivery_freeUses (f : FrameId) (r : Delivery) :
    (s.setDelivery f r).freeUses = s.freeUses := rfl
@[simp] theorem State.setDelivery_pending (f : FrameId) (r : Delivery) : (s.setDelivery f r).pending = s.pending := rfl

/-! ### State.setMap -/

@[simp] theorem State.setMap_link (f : FrameId) (m : FrameMap) : (s.setMap f m).link = s.link := rfl
@[simp] theorem State.setMap_store (f : FrameId) (m : FrameMap) : (s.setMap f m).store = s.store := rfl
@[simp] theorem State.setMap_dau (f : FrameId) (m : FrameMap) : (s.setMap f m).dau = s.dau := rfl
@[simp] theorem State.setMap_smu (f : FrameId) (m : FrameMap) :
    (s.setMap f m).smu = { s.smu with maps := s.smu.maps.set f m } := rfl
@[simp] theorem State.setMap_pcd (f : FrameId) (m : FrameMap) : (s.setMap f m).pcd = s.pcd := rfl
@[simp] theorem State.setMap_aou (f : FrameId) (m : FrameMap) : (s.setMap f m).aou = s.aou := rfl
@[simp] theorem State.setMap_dcu (f : FrameId) (m : FrameMap) : (s.setMap f m).dcu = s.dcu := rfl
@[simp] theorem State.setMap_spu (f : FrameId) (m : FrameMap) : (s.setMap f m).spu = s.spu := rfl
@[simp] theorem State.setMap_rsu (f : FrameId) (m : FrameMap) : (s.setMap f m).rsu = s.rsu := rfl
@[simp] theorem State.setMap_scu (f : FrameId) (m : FrameMap) : (s.setMap f m).scu = s.scu := rfl
@[simp] theorem State.setMap_ssu (f : FrameId) (m : FrameMap) : (s.setMap f m).ssu = s.ssu := rfl
@[simp] theorem State.setMap_retention (f : FrameId) (m : FrameMap) : (s.setMap f m).retention = s.retention := rfl
@[simp] theorem State.setMap_power (f : FrameId) (m : FrameMap) : (s.setMap f m).power = s.power := rfl
@[simp] theorem State.setMap_rstnLow (f : FrameId) (m : FrameMap) : (s.setMap f m).rstnLow = s.rstnLow := rfl
@[simp] theorem State.setMap_supply (f : FrameId) (m : FrameMap) : (s.setMap f m).supply = s.supply := rfl
@[simp] theorem State.setMap_timer (f : FrameId) (m : FrameMap) : (s.setMap f m).timer = s.timer := rfl
@[simp] theorem State.setMap_ticks (f : FrameId) (m : FrameMap) : (s.setMap f m).ticks = s.ticks := rfl
@[simp] theorem State.setMap_inFlight (f : FrameId) (m : FrameMap) : (s.setMap f m).inFlight = s.inFlight := rfl
@[simp] theorem State.setMap_freeUses (f : FrameId) (m : FrameMap) : (s.setMap f m).freeUses = s.freeUses := rfl
@[simp] theorem State.setMap_pending (f : FrameId) (m : FrameMap) : (s.setMap f m).pending = s.pending := rfl

/-! ### State.setRogues -/

@[simp] theorem State.setRogues_link (l : List RogueEntry) : (s.setRogues l).link = s.link := rfl
@[simp] theorem State.setRogues_store (l : List RogueEntry) : (s.setRogues l).store = s.store := rfl
@[simp] theorem State.setRogues_dau (l : List RogueEntry) : (s.setRogues l).dau = s.dau := rfl
@[simp] theorem State.setRogues_smu (l : List RogueEntry) : (s.setRogues l).smu = { s.smu with rogues := l } := rfl
@[simp] theorem State.setRogues_pcd (l : List RogueEntry) : (s.setRogues l).pcd = s.pcd := rfl
@[simp] theorem State.setRogues_aou (l : List RogueEntry) : (s.setRogues l).aou = s.aou := rfl
@[simp] theorem State.setRogues_dcu (l : List RogueEntry) : (s.setRogues l).dcu = s.dcu := rfl
@[simp] theorem State.setRogues_spu (l : List RogueEntry) : (s.setRogues l).spu = s.spu := rfl
@[simp] theorem State.setRogues_rsu (l : List RogueEntry) : (s.setRogues l).rsu = s.rsu := rfl
@[simp] theorem State.setRogues_scu (l : List RogueEntry) : (s.setRogues l).scu = s.scu := rfl
@[simp] theorem State.setRogues_ssu (l : List RogueEntry) : (s.setRogues l).ssu = s.ssu := rfl
@[simp] theorem State.setRogues_retention (l : List RogueEntry) : (s.setRogues l).retention = s.retention := rfl
@[simp] theorem State.setRogues_power (l : List RogueEntry) : (s.setRogues l).power = s.power := rfl
@[simp] theorem State.setRogues_rstnLow (l : List RogueEntry) : (s.setRogues l).rstnLow = s.rstnLow := rfl
@[simp] theorem State.setRogues_supply (l : List RogueEntry) : (s.setRogues l).supply = s.supply := rfl
@[simp] theorem State.setRogues_timer (l : List RogueEntry) : (s.setRogues l).timer = s.timer := rfl
@[simp] theorem State.setRogues_ticks (l : List RogueEntry) : (s.setRogues l).ticks = s.ticks := rfl
@[simp] theorem State.setRogues_inFlight (l : List RogueEntry) : (s.setRogues l).inFlight = s.inFlight := rfl
@[simp] theorem State.setRogues_freeUses (l : List RogueEntry) : (s.setRogues l).freeUses = s.freeUses := rfl
@[simp] theorem State.setRogues_pending (l : List RogueEntry) : (s.setRogues l).pending = s.pending := rfl

/-! ### State.setRobot -/

@[simp] theorem State.setRobot_link (k : RobotId) (r : Robot) : (s.setRobot k r).link = s.link := rfl
@[simp] theorem State.setRobot_store (k : RobotId) (r : Robot) : (s.setRobot k r).store = s.store := rfl
@[simp] theorem State.setRobot_dau (k : RobotId) (r : Robot) : (s.setRobot k r).dau = s.dau := rfl
@[simp] theorem State.setRobot_smu (k : RobotId) (r : Robot) : (s.setRobot k r).smu = s.smu := rfl
@[simp] theorem State.setRobot_pcd (k : RobotId) (r : Robot) :
    (s.setRobot k r).pcd = { s.pcd with robots := s.pcd.robots.set k r } := rfl
@[simp] theorem State.setRobot_aou (k : RobotId) (r : Robot) : (s.setRobot k r).aou = s.aou := rfl
@[simp] theorem State.setRobot_dcu (k : RobotId) (r : Robot) : (s.setRobot k r).dcu = s.dcu := rfl
@[simp] theorem State.setRobot_spu (k : RobotId) (r : Robot) : (s.setRobot k r).spu = s.spu := rfl
@[simp] theorem State.setRobot_rsu (k : RobotId) (r : Robot) : (s.setRobot k r).rsu = s.rsu := rfl
@[simp] theorem State.setRobot_scu (k : RobotId) (r : Robot) : (s.setRobot k r).scu = s.scu := rfl
@[simp] theorem State.setRobot_ssu (k : RobotId) (r : Robot) : (s.setRobot k r).ssu = s.ssu := rfl
@[simp] theorem State.setRobot_retention (k : RobotId) (r : Robot) : (s.setRobot k r).retention = s.retention := rfl
@[simp] theorem State.setRobot_power (k : RobotId) (r : Robot) : (s.setRobot k r).power = s.power := rfl
@[simp] theorem State.setRobot_rstnLow (k : RobotId) (r : Robot) : (s.setRobot k r).rstnLow = s.rstnLow := rfl
@[simp] theorem State.setRobot_supply (k : RobotId) (r : Robot) : (s.setRobot k r).supply = s.supply := rfl
@[simp] theorem State.setRobot_timer (k : RobotId) (r : Robot) : (s.setRobot k r).timer = s.timer := rfl
@[simp] theorem State.setRobot_ticks (k : RobotId) (r : Robot) : (s.setRobot k r).ticks = s.ticks := rfl
@[simp] theorem State.setRobot_inFlight (k : RobotId) (r : Robot) : (s.setRobot k r).inFlight = s.inFlight := rfl
@[simp] theorem State.setRobot_freeUses (k : RobotId) (r : Robot) : (s.setRobot k r).freeUses = s.freeUses := rfl
@[simp] theorem State.setRobot_pending (k : RobotId) (r : Robot) : (s.setRobot k r).pending = s.pending := rfl

/-! ### State.setVerify -/

@[simp] theorem State.setVerify_link (l : List VerifyEntry) : (s.setVerify l).link = s.link := rfl
@[simp] theorem State.setVerify_store (l : List VerifyEntry) : (s.setVerify l).store = s.store := rfl
@[simp] theorem State.setVerify_dau (l : List VerifyEntry) : (s.setVerify l).dau = s.dau := rfl
@[simp] theorem State.setVerify_smu (l : List VerifyEntry) : (s.setVerify l).smu = s.smu := rfl
@[simp] theorem State.setVerify_pcd (l : List VerifyEntry) : (s.setVerify l).pcd = { s.pcd with verify := l } := rfl
@[simp] theorem State.setVerify_aou (l : List VerifyEntry) : (s.setVerify l).aou = s.aou := rfl
@[simp] theorem State.setVerify_dcu (l : List VerifyEntry) : (s.setVerify l).dcu = s.dcu := rfl
@[simp] theorem State.setVerify_spu (l : List VerifyEntry) : (s.setVerify l).spu = s.spu := rfl
@[simp] theorem State.setVerify_rsu (l : List VerifyEntry) : (s.setVerify l).rsu = s.rsu := rfl
@[simp] theorem State.setVerify_scu (l : List VerifyEntry) : (s.setVerify l).scu = s.scu := rfl
@[simp] theorem State.setVerify_ssu (l : List VerifyEntry) : (s.setVerify l).ssu = s.ssu := rfl
@[simp] theorem State.setVerify_retention (l : List VerifyEntry) : (s.setVerify l).retention = s.retention := rfl
@[simp] theorem State.setVerify_power (l : List VerifyEntry) : (s.setVerify l).power = s.power := rfl
@[simp] theorem State.setVerify_rstnLow (l : List VerifyEntry) : (s.setVerify l).rstnLow = s.rstnLow := rfl
@[simp] theorem State.setVerify_supply (l : List VerifyEntry) : (s.setVerify l).supply = s.supply := rfl
@[simp] theorem State.setVerify_timer (l : List VerifyEntry) : (s.setVerify l).timer = s.timer := rfl
@[simp] theorem State.setVerify_ticks (l : List VerifyEntry) : (s.setVerify l).ticks = s.ticks := rfl
@[simp] theorem State.setVerify_inFlight (l : List VerifyEntry) : (s.setVerify l).inFlight = s.inFlight := rfl
@[simp] theorem State.setVerify_freeUses (l : List VerifyEntry) : (s.setVerify l).freeUses = s.freeUses := rfl
@[simp] theorem State.setVerify_pending (l : List VerifyEntry) : (s.setVerify l).pending = s.pending := rfl

/-! ### State.setEnabling -/

@[simp] theorem State.setEnabling_link (f : FrameId) (n : Nat) : (s.setEnabling f n).link = s.link := rfl
@[simp] theorem State.setEnabling_store (f : FrameId) (n : Nat) : (s.setEnabling f n).store = s.store := rfl
@[simp] theorem State.setEnabling_dau (f : FrameId) (n : Nat) : (s.setEnabling f n).dau = s.dau := rfl
@[simp] theorem State.setEnabling_smu (f : FrameId) (n : Nat) : (s.setEnabling f n).smu = s.smu := rfl
@[simp] theorem State.setEnabling_pcd (f : FrameId) (n : Nat) :
    (s.setEnabling f n).pcd = { s.pcd with enabling := s.pcd.enabling.set f n } := rfl
@[simp] theorem State.setEnabling_aou (f : FrameId) (n : Nat) : (s.setEnabling f n).aou = s.aou := rfl
@[simp] theorem State.setEnabling_dcu (f : FrameId) (n : Nat) : (s.setEnabling f n).dcu = s.dcu := rfl
@[simp] theorem State.setEnabling_spu (f : FrameId) (n : Nat) : (s.setEnabling f n).spu = s.spu := rfl
@[simp] theorem State.setEnabling_rsu (f : FrameId) (n : Nat) : (s.setEnabling f n).rsu = s.rsu := rfl
@[simp] theorem State.setEnabling_scu (f : FrameId) (n : Nat) : (s.setEnabling f n).scu = s.scu := rfl
@[simp] theorem State.setEnabling_ssu (f : FrameId) (n : Nat) : (s.setEnabling f n).ssu = s.ssu := rfl
@[simp] theorem State.setEnabling_retention (f : FrameId) (n : Nat) : (s.setEnabling f n).retention = s.retention := rfl
@[simp] theorem State.setEnabling_power (f : FrameId) (n : Nat) : (s.setEnabling f n).power = s.power := rfl
@[simp] theorem State.setEnabling_rstnLow (f : FrameId) (n : Nat) : (s.setEnabling f n).rstnLow = s.rstnLow := rfl
@[simp] theorem State.setEnabling_supply (f : FrameId) (n : Nat) : (s.setEnabling f n).supply = s.supply := rfl
@[simp] theorem State.setEnabling_timer (f : FrameId) (n : Nat) : (s.setEnabling f n).timer = s.timer := rfl
@[simp] theorem State.setEnabling_ticks (f : FrameId) (n : Nat) : (s.setEnabling f n).ticks = s.ticks := rfl
@[simp] theorem State.setEnabling_inFlight (f : FrameId) (n : Nat) : (s.setEnabling f n).inFlight = s.inFlight := rfl
@[simp] theorem State.setEnabling_freeUses (f : FrameId) (n : Nat) : (s.setEnabling f n).freeUses = s.freeUses := rfl
@[simp] theorem State.setEnabling_pending (f : FrameId) (n : Nat) : (s.setEnabling f n).pending = s.pending := rfl

/-! ### State.setAisle -/

@[simp] theorem State.setAisle_link (a : AisleId) (r : Aisle) : (s.setAisle a r).link = s.link := rfl
@[simp] theorem State.setAisle_store (a : AisleId) (r : Aisle) : (s.setAisle a r).store = s.store := rfl
@[simp] theorem State.setAisle_dau (a : AisleId) (r : Aisle) : (s.setAisle a r).dau = s.dau := rfl
@[simp] theorem State.setAisle_smu (a : AisleId) (r : Aisle) : (s.setAisle a r).smu = s.smu := rfl
@[simp] theorem State.setAisle_pcd (a : AisleId) (r : Aisle) : (s.setAisle a r).pcd = s.pcd := rfl
@[simp] theorem State.setAisle_aou (a : AisleId) (r : Aisle) :
    (s.setAisle a r).aou = { s.aou with aisles := s.aou.aisles.set a r } := rfl
@[simp] theorem State.setAisle_dcu (a : AisleId) (r : Aisle) : (s.setAisle a r).dcu = s.dcu := rfl
@[simp] theorem State.setAisle_spu (a : AisleId) (r : Aisle) : (s.setAisle a r).spu = s.spu := rfl
@[simp] theorem State.setAisle_rsu (a : AisleId) (r : Aisle) : (s.setAisle a r).rsu = s.rsu := rfl
@[simp] theorem State.setAisle_scu (a : AisleId) (r : Aisle) : (s.setAisle a r).scu = s.scu := rfl
@[simp] theorem State.setAisle_ssu (a : AisleId) (r : Aisle) : (s.setAisle a r).ssu = s.ssu := rfl
@[simp] theorem State.setAisle_retention (a : AisleId) (r : Aisle) : (s.setAisle a r).retention = s.retention := rfl
@[simp] theorem State.setAisle_power (a : AisleId) (r : Aisle) : (s.setAisle a r).power = s.power := rfl
@[simp] theorem State.setAisle_rstnLow (a : AisleId) (r : Aisle) : (s.setAisle a r).rstnLow = s.rstnLow := rfl
@[simp] theorem State.setAisle_supply (a : AisleId) (r : Aisle) : (s.setAisle a r).supply = s.supply := rfl
@[simp] theorem State.setAisle_timer (a : AisleId) (r : Aisle) : (s.setAisle a r).timer = s.timer := rfl
@[simp] theorem State.setAisle_ticks (a : AisleId) (r : Aisle) : (s.setAisle a r).ticks = s.ticks := rfl
@[simp] theorem State.setAisle_inFlight (a : AisleId) (r : Aisle) : (s.setAisle a r).inFlight = s.inFlight := rfl
@[simp] theorem State.setAisle_freeUses (a : AisleId) (r : Aisle) : (s.setAisle a r).freeUses = s.freeUses := rfl
@[simp] theorem State.setAisle_pending (a : AisleId) (r : Aisle) : (s.setAisle a r).pending = s.pending := rfl

/-! ### State.setWaiting -/

@[simp] theorem State.setWaiting_link (l : List PendingReservation) : (s.setWaiting l).link = s.link := rfl
@[simp] theorem State.setWaiting_store (l : List PendingReservation) : (s.setWaiting l).store = s.store := rfl
@[simp] theorem State.setWaiting_dau (l : List PendingReservation) : (s.setWaiting l).dau = s.dau := rfl
@[simp] theorem State.setWaiting_smu (l : List PendingReservation) : (s.setWaiting l).smu = s.smu := rfl
@[simp] theorem State.setWaiting_pcd (l : List PendingReservation) : (s.setWaiting l).pcd = s.pcd := rfl
@[simp] theorem State.setWaiting_aou (l : List PendingReservation) :
    (s.setWaiting l).aou = { s.aou with waiting := l } := rfl
@[simp] theorem State.setWaiting_dcu (l : List PendingReservation) : (s.setWaiting l).dcu = s.dcu := rfl
@[simp] theorem State.setWaiting_spu (l : List PendingReservation) : (s.setWaiting l).spu = s.spu := rfl
@[simp] theorem State.setWaiting_rsu (l : List PendingReservation) : (s.setWaiting l).rsu = s.rsu := rfl
@[simp] theorem State.setWaiting_scu (l : List PendingReservation) : (s.setWaiting l).scu = s.scu := rfl
@[simp] theorem State.setWaiting_ssu (l : List PendingReservation) : (s.setWaiting l).ssu = s.ssu := rfl
@[simp] theorem State.setWaiting_retention (l : List PendingReservation) :
    (s.setWaiting l).retention = s.retention := rfl
@[simp] theorem State.setWaiting_power (l : List PendingReservation) : (s.setWaiting l).power = s.power := rfl
@[simp] theorem State.setWaiting_rstnLow (l : List PendingReservation) : (s.setWaiting l).rstnLow = s.rstnLow := rfl
@[simp] theorem State.setWaiting_supply (l : List PendingReservation) : (s.setWaiting l).supply = s.supply := rfl
@[simp] theorem State.setWaiting_timer (l : List PendingReservation) : (s.setWaiting l).timer = s.timer := rfl
@[simp] theorem State.setWaiting_ticks (l : List PendingReservation) : (s.setWaiting l).ticks = s.ticks := rfl
@[simp] theorem State.setWaiting_inFlight (l : List PendingReservation) : (s.setWaiting l).inFlight = s.inFlight := rfl
@[simp] theorem State.setWaiting_freeUses (l : List PendingReservation) : (s.setWaiting l).freeUses = s.freeUses := rfl
@[simp] theorem State.setWaiting_pending (l : List PendingReservation) : (s.setWaiting l).pending = s.pending := rfl

/-! ### State.setClaimed -/

@[simp] theorem State.setClaimed_link (d : DofferId) (o : Option FrameId) : (s.setClaimed d o).link = s.link := rfl
@[simp] theorem State.setClaimed_store (d : DofferId) (o : Option FrameId) : (s.setClaimed d o).store = s.store := rfl
@[simp] theorem State.setClaimed_dau (d : DofferId) (o : Option FrameId) : (s.setClaimed d o).dau = s.dau := rfl
@[simp] theorem State.setClaimed_smu (d : DofferId) (o : Option FrameId) : (s.setClaimed d o).smu = s.smu := rfl
@[simp] theorem State.setClaimed_pcd (d : DofferId) (o : Option FrameId) : (s.setClaimed d o).pcd = s.pcd := rfl
@[simp] theorem State.setClaimed_aou (d : DofferId) (o : Option FrameId) :
    (s.setClaimed d o).aou = { s.aou with claims := s.aou.claims.set d o } := rfl
@[simp] theorem State.setClaimed_dcu (d : DofferId) (o : Option FrameId) : (s.setClaimed d o).dcu = s.dcu := rfl
@[simp] theorem State.setClaimed_spu (d : DofferId) (o : Option FrameId) : (s.setClaimed d o).spu = s.spu := rfl
@[simp] theorem State.setClaimed_rsu (d : DofferId) (o : Option FrameId) : (s.setClaimed d o).rsu = s.rsu := rfl
@[simp] theorem State.setClaimed_scu (d : DofferId) (o : Option FrameId) : (s.setClaimed d o).scu = s.scu := rfl
@[simp] theorem State.setClaimed_ssu (d : DofferId) (o : Option FrameId) : (s.setClaimed d o).ssu = s.ssu := rfl
@[simp] theorem State.setClaimed_retention (d : DofferId) (o : Option FrameId) :
    (s.setClaimed d o).retention = s.retention := rfl
@[simp] theorem State.setClaimed_power (d : DofferId) (o : Option FrameId) : (s.setClaimed d o).power = s.power := rfl
@[simp] theorem State.setClaimed_rstnLow (d : DofferId) (o : Option FrameId) :
    (s.setClaimed d o).rstnLow = s.rstnLow := rfl
@[simp] theorem State.setClaimed_supply (d : DofferId) (o : Option FrameId) :
    (s.setClaimed d o).supply = s.supply := rfl
@[simp] theorem State.setClaimed_timer (d : DofferId) (o : Option FrameId) : (s.setClaimed d o).timer = s.timer := rfl
@[simp] theorem State.setClaimed_ticks (d : DofferId) (o : Option FrameId) : (s.setClaimed d o).ticks = s.ticks := rfl
@[simp] theorem State.setClaimed_inFlight (d : DofferId) (o : Option FrameId) :
    (s.setClaimed d o).inFlight = s.inFlight := rfl
@[simp] theorem State.setClaimed_freeUses (d : DofferId) (o : Option FrameId) :
    (s.setClaimed d o).freeUses = s.freeUses := rfl
@[simp] theorem State.setClaimed_pending (d : DofferId) (o : Option FrameId) :
    (s.setClaimed d o).pending = s.pending := rfl

/-! ### State.setCycle -/

@[simp] theorem State.setCycle_link (f : FrameId) (r : FrameCycle) : (s.setCycle f r).link = s.link := rfl
@[simp] theorem State.setCycle_store (f : FrameId) (r : FrameCycle) : (s.setCycle f r).store = s.store := rfl
@[simp] theorem State.setCycle_dau (f : FrameId) (r : FrameCycle) : (s.setCycle f r).dau = s.dau := rfl
@[simp] theorem State.setCycle_smu (f : FrameId) (r : FrameCycle) : (s.setCycle f r).smu = s.smu := rfl
@[simp] theorem State.setCycle_pcd (f : FrameId) (r : FrameCycle) : (s.setCycle f r).pcd = s.pcd := rfl
@[simp] theorem State.setCycle_aou (f : FrameId) (r : FrameCycle) : (s.setCycle f r).aou = s.aou := rfl
@[simp] theorem State.setCycle_dcu (f : FrameId) (r : FrameCycle) :
    (s.setCycle f r).dcu = { s.dcu with frames := s.dcu.frames.set f r } := rfl
@[simp] theorem State.setCycle_spu (f : FrameId) (r : FrameCycle) : (s.setCycle f r).spu = s.spu := rfl
@[simp] theorem State.setCycle_rsu (f : FrameId) (r : FrameCycle) : (s.setCycle f r).rsu = s.rsu := rfl
@[simp] theorem State.setCycle_scu (f : FrameId) (r : FrameCycle) : (s.setCycle f r).scu = s.scu := rfl
@[simp] theorem State.setCycle_ssu (f : FrameId) (r : FrameCycle) : (s.setCycle f r).ssu = s.ssu := rfl
@[simp] theorem State.setCycle_retention (f : FrameId) (r : FrameCycle) :
    (s.setCycle f r).retention = s.retention := rfl
@[simp] theorem State.setCycle_power (f : FrameId) (r : FrameCycle) : (s.setCycle f r).power = s.power := rfl
@[simp] theorem State.setCycle_rstnLow (f : FrameId) (r : FrameCycle) : (s.setCycle f r).rstnLow = s.rstnLow := rfl
@[simp] theorem State.setCycle_supply (f : FrameId) (r : FrameCycle) : (s.setCycle f r).supply = s.supply := rfl
@[simp] theorem State.setCycle_timer (f : FrameId) (r : FrameCycle) : (s.setCycle f r).timer = s.timer := rfl
@[simp] theorem State.setCycle_ticks (f : FrameId) (r : FrameCycle) : (s.setCycle f r).ticks = s.ticks := rfl
@[simp] theorem State.setCycle_inFlight (f : FrameId) (r : FrameCycle) : (s.setCycle f r).inFlight = s.inFlight := rfl
@[simp] theorem State.setCycle_freeUses (f : FrameId) (r : FrameCycle) : (s.setCycle f r).freeUses = s.freeUses := rfl
@[simp] theorem State.setCycle_pending (f : FrameId) (r : FrameCycle) : (s.setCycle f r).pending = s.pending := rfl

/-! ### State.setDoffer -/

@[simp] theorem State.setDoffer_link (d : DofferId) (r : Doffer) : (s.setDoffer d r).link = s.link := rfl
@[simp] theorem State.setDoffer_store (d : DofferId) (r : Doffer) : (s.setDoffer d r).store = s.store := rfl
@[simp] theorem State.setDoffer_dau (d : DofferId) (r : Doffer) : (s.setDoffer d r).dau = s.dau := rfl
@[simp] theorem State.setDoffer_smu (d : DofferId) (r : Doffer) : (s.setDoffer d r).smu = s.smu := rfl
@[simp] theorem State.setDoffer_pcd (d : DofferId) (r : Doffer) : (s.setDoffer d r).pcd = s.pcd := rfl
@[simp] theorem State.setDoffer_aou (d : DofferId) (r : Doffer) : (s.setDoffer d r).aou = s.aou := rfl
@[simp] theorem State.setDoffer_dcu (d : DofferId) (r : Doffer) :
    (s.setDoffer d r).dcu = { s.dcu with doffers := s.dcu.doffers.set d r } := rfl
@[simp] theorem State.setDoffer_spu (d : DofferId) (r : Doffer) : (s.setDoffer d r).spu = s.spu := rfl
@[simp] theorem State.setDoffer_rsu (d : DofferId) (r : Doffer) : (s.setDoffer d r).rsu = s.rsu := rfl
@[simp] theorem State.setDoffer_scu (d : DofferId) (r : Doffer) : (s.setDoffer d r).scu = s.scu := rfl
@[simp] theorem State.setDoffer_ssu (d : DofferId) (r : Doffer) : (s.setDoffer d r).ssu = s.ssu := rfl
@[simp] theorem State.setDoffer_retention (d : DofferId) (r : Doffer) : (s.setDoffer d r).retention = s.retention := rfl
@[simp] theorem State.setDoffer_power (d : DofferId) (r : Doffer) : (s.setDoffer d r).power = s.power := rfl
@[simp] theorem State.setDoffer_rstnLow (d : DofferId) (r : Doffer) : (s.setDoffer d r).rstnLow = s.rstnLow := rfl
@[simp] theorem State.setDoffer_supply (d : DofferId) (r : Doffer) : (s.setDoffer d r).supply = s.supply := rfl
@[simp] theorem State.setDoffer_timer (d : DofferId) (r : Doffer) : (s.setDoffer d r).timer = s.timer := rfl
@[simp] theorem State.setDoffer_ticks (d : DofferId) (r : Doffer) : (s.setDoffer d r).ticks = s.ticks := rfl
@[simp] theorem State.setDoffer_inFlight (d : DofferId) (r : Doffer) : (s.setDoffer d r).inFlight = s.inFlight := rfl
@[simp] theorem State.setDoffer_freeUses (d : DofferId) (r : Doffer) : (s.setDoffer d r).freeUses = s.freeUses := rfl
@[simp] theorem State.setDoffer_pending (d : DofferId) (r : Doffer) : (s.setDoffer d r).pending = s.pending := rfl

/-! ### State.setQueue -/

@[simp] theorem State.setQueue_link (q : List FrameId) : (s.setQueue q).link = s.link := rfl
@[simp] theorem State.setQueue_store (q : List FrameId) : (s.setQueue q).store = s.store := rfl
@[simp] theorem State.setQueue_dau (q : List FrameId) : (s.setQueue q).dau = s.dau := rfl
@[simp] theorem State.setQueue_smu (q : List FrameId) : (s.setQueue q).smu = s.smu := rfl
@[simp] theorem State.setQueue_pcd (q : List FrameId) : (s.setQueue q).pcd = s.pcd := rfl
@[simp] theorem State.setQueue_aou (q : List FrameId) : (s.setQueue q).aou = s.aou := rfl
@[simp] theorem State.setQueue_dcu (q : List FrameId) : (s.setQueue q).dcu = { s.dcu with queue := q } := rfl
@[simp] theorem State.setQueue_spu (q : List FrameId) : (s.setQueue q).spu = s.spu := rfl
@[simp] theorem State.setQueue_rsu (q : List FrameId) : (s.setQueue q).rsu = s.rsu := rfl
@[simp] theorem State.setQueue_scu (q : List FrameId) : (s.setQueue q).scu = s.scu := rfl
@[simp] theorem State.setQueue_ssu (q : List FrameId) : (s.setQueue q).ssu = s.ssu := rfl
@[simp] theorem State.setQueue_retention (q : List FrameId) : (s.setQueue q).retention = s.retention := rfl
@[simp] theorem State.setQueue_power (q : List FrameId) : (s.setQueue q).power = s.power := rfl
@[simp] theorem State.setQueue_rstnLow (q : List FrameId) : (s.setQueue q).rstnLow = s.rstnLow := rfl
@[simp] theorem State.setQueue_supply (q : List FrameId) : (s.setQueue q).supply = s.supply := rfl
@[simp] theorem State.setQueue_timer (q : List FrameId) : (s.setQueue q).timer = s.timer := rfl
@[simp] theorem State.setQueue_ticks (q : List FrameId) : (s.setQueue q).ticks = s.ticks := rfl
@[simp] theorem State.setQueue_inFlight (q : List FrameId) : (s.setQueue q).inFlight = s.inFlight := rfl
@[simp] theorem State.setQueue_freeUses (q : List FrameId) : (s.setQueue q).freeUses = s.freeUses := rfl
@[simp] theorem State.setQueue_pending (q : List FrameId) : (s.setQueue q).pending = s.pending := rfl

/-! ### State.setSpeed -/

@[simp] theorem State.setSpeed_link (f : FrameId) (r : SpeedRecord) : (s.setSpeed f r).link = s.link := rfl
@[simp] theorem State.setSpeed_store (f : FrameId) (r : SpeedRecord) : (s.setSpeed f r).store = s.store := rfl
@[simp] theorem State.setSpeed_dau (f : FrameId) (r : SpeedRecord) : (s.setSpeed f r).dau = s.dau := rfl
@[simp] theorem State.setSpeed_smu (f : FrameId) (r : SpeedRecord) : (s.setSpeed f r).smu = s.smu := rfl
@[simp] theorem State.setSpeed_pcd (f : FrameId) (r : SpeedRecord) : (s.setSpeed f r).pcd = s.pcd := rfl
@[simp] theorem State.setSpeed_aou (f : FrameId) (r : SpeedRecord) : (s.setSpeed f r).aou = s.aou := rfl
@[simp] theorem State.setSpeed_dcu (f : FrameId) (r : SpeedRecord) : (s.setSpeed f r).dcu = s.dcu := rfl
@[simp] theorem State.setSpeed_spu (f : FrameId) (r : SpeedRecord) :
    (s.setSpeed f r).spu = { s.spu with records := s.spu.records.set f r } := rfl
@[simp] theorem State.setSpeed_rsu (f : FrameId) (r : SpeedRecord) : (s.setSpeed f r).rsu = s.rsu := rfl
@[simp] theorem State.setSpeed_scu (f : FrameId) (r : SpeedRecord) : (s.setSpeed f r).scu = s.scu := rfl
@[simp] theorem State.setSpeed_ssu (f : FrameId) (r : SpeedRecord) : (s.setSpeed f r).ssu = s.ssu := rfl
@[simp] theorem State.setSpeed_retention (f : FrameId) (r : SpeedRecord) :
    (s.setSpeed f r).retention = s.retention := rfl
@[simp] theorem State.setSpeed_power (f : FrameId) (r : SpeedRecord) : (s.setSpeed f r).power = s.power := rfl
@[simp] theorem State.setSpeed_rstnLow (f : FrameId) (r : SpeedRecord) : (s.setSpeed f r).rstnLow = s.rstnLow := rfl
@[simp] theorem State.setSpeed_supply (f : FrameId) (r : SpeedRecord) : (s.setSpeed f r).supply = s.supply := rfl
@[simp] theorem State.setSpeed_timer (f : FrameId) (r : SpeedRecord) : (s.setSpeed f r).timer = s.timer := rfl
@[simp] theorem State.setSpeed_ticks (f : FrameId) (r : SpeedRecord) : (s.setSpeed f r).ticks = s.ticks := rfl
@[simp] theorem State.setSpeed_inFlight (f : FrameId) (r : SpeedRecord) : (s.setSpeed f r).inFlight = s.inFlight := rfl
@[simp] theorem State.setSpeed_freeUses (f : FrameId) (r : SpeedRecord) : (s.setSpeed f r).freeUses = s.freeUses := rfl
@[simp] theorem State.setSpeed_pending (f : FrameId) (r : SpeedRecord) : (s.setSpeed f r).pending = s.pending := rfl

/-! ### State.setGroup -/

@[simp] theorem State.setGroup_link (f : FrameId) (g : GroupId) (r : Option Group) :
    (s.setGroup f g r).link = s.link := rfl
@[simp] theorem State.setGroup_store (f : FrameId) (g : GroupId) (r : Option Group) :
    (s.setGroup f g r).store = s.store := rfl
@[simp] theorem State.setGroup_dau (f : FrameId) (g : GroupId) (r : Option Group) :
    (s.setGroup f g r).dau = s.dau := rfl
@[simp] theorem State.setGroup_smu (f : FrameId) (g : GroupId) (r : Option Group) :
    (s.setGroup f g r).smu = s.smu := rfl
@[simp] theorem State.setGroup_pcd (f : FrameId) (g : GroupId) (r : Option Group) :
    (s.setGroup f g r).pcd = s.pcd := rfl
@[simp] theorem State.setGroup_aou (f : FrameId) (g : GroupId) (r : Option Group) :
    (s.setGroup f g r).aou = s.aou := rfl
@[simp] theorem State.setGroup_dcu (f : FrameId) (g : GroupId) (r : Option Group) :
    (s.setGroup f g r).dcu = s.dcu := rfl
@[simp] theorem State.setGroup_spu (f : FrameId) (g : GroupId) (r : Option Group) :
    (s.setGroup f g r).spu = s.spu := rfl
@[simp] theorem State.setGroup_rsu (f : FrameId) (g : GroupId) (r : Option Group) :
    (s.setGroup f g r).rsu = { s.rsu with groups := s.rsu.groups.modify f fun t => t.set g r } := rfl
@[simp] theorem State.setGroup_scu (f : FrameId) (g : GroupId) (r : Option Group) :
    (s.setGroup f g r).scu = s.scu := rfl
@[simp] theorem State.setGroup_ssu (f : FrameId) (g : GroupId) (r : Option Group) :
    (s.setGroup f g r).ssu = s.ssu := rfl
@[simp] theorem State.setGroup_retention (f : FrameId) (g : GroupId) (r : Option Group) :
    (s.setGroup f g r).retention = s.retention := rfl
@[simp] theorem State.setGroup_power (f : FrameId) (g : GroupId) (r : Option Group) :
    (s.setGroup f g r).power = s.power := rfl
@[simp] theorem State.setGroup_rstnLow (f : FrameId) (g : GroupId) (r : Option Group) :
    (s.setGroup f g r).rstnLow = s.rstnLow := rfl
@[simp] theorem State.setGroup_supply (f : FrameId) (g : GroupId) (r : Option Group) :
    (s.setGroup f g r).supply = s.supply := rfl
@[simp] theorem State.setGroup_timer (f : FrameId) (g : GroupId) (r : Option Group) :
    (s.setGroup f g r).timer = s.timer := rfl
@[simp] theorem State.setGroup_ticks (f : FrameId) (g : GroupId) (r : Option Group) :
    (s.setGroup f g r).ticks = s.ticks := rfl
@[simp] theorem State.setGroup_inFlight (f : FrameId) (g : GroupId) (r : Option Group) :
    (s.setGroup f g r).inFlight = s.inFlight := rfl
@[simp] theorem State.setGroup_freeUses (f : FrameId) (g : GroupId) (r : Option Group) :
    (s.setGroup f g r).freeUses = s.freeUses := rfl
@[simp] theorem State.setGroup_pending (f : FrameId) (g : GroupId) (r : Option Group) :
    (s.setGroup f g r).pending = s.pending := rfl

/-! ### State.setSet -/

@[simp] theorem State.setSet_link (l : List SetEntry) : (s.setSet l).link = s.link := rfl
@[simp] theorem State.setSet_store (l : List SetEntry) : (s.setSet l).store = s.store := rfl
@[simp] theorem State.setSet_dau (l : List SetEntry) : (s.setSet l).dau = s.dau := rfl
@[simp] theorem State.setSet_smu (l : List SetEntry) : (s.setSet l).smu = s.smu := rfl
@[simp] theorem State.setSet_pcd (l : List SetEntry) : (s.setSet l).pcd = s.pcd := rfl
@[simp] theorem State.setSet_aou (l : List SetEntry) : (s.setSet l).aou = s.aou := rfl
@[simp] theorem State.setSet_dcu (l : List SetEntry) : (s.setSet l).dcu = s.dcu := rfl
@[simp] theorem State.setSet_spu (l : List SetEntry) : (s.setSet l).spu = s.spu := rfl
@[simp] theorem State.setSet_rsu (l : List SetEntry) : (s.setSet l).rsu = { s.rsu with set := l } := rfl
@[simp] theorem State.setSet_scu (l : List SetEntry) : (s.setSet l).scu = s.scu := rfl
@[simp] theorem State.setSet_ssu (l : List SetEntry) : (s.setSet l).ssu = s.ssu := rfl
@[simp] theorem State.setSet_retention (l : List SetEntry) : (s.setSet l).retention = s.retention := rfl
@[simp] theorem State.setSet_power (l : List SetEntry) : (s.setSet l).power = s.power := rfl
@[simp] theorem State.setSet_rstnLow (l : List SetEntry) : (s.setSet l).rstnLow = s.rstnLow := rfl
@[simp] theorem State.setSet_supply (l : List SetEntry) : (s.setSet l).supply = s.supply := rfl
@[simp] theorem State.setSet_timer (l : List SetEntry) : (s.setSet l).timer = s.timer := rfl
@[simp] theorem State.setSet_ticks (l : List SetEntry) : (s.setSet l).ticks = s.ticks := rfl
@[simp] theorem State.setSet_inFlight (l : List SetEntry) : (s.setSet l).inFlight = s.inFlight := rfl
@[simp] theorem State.setSet_freeUses (l : List SetEntry) : (s.setSet l).freeUses = s.freeUses := rfl
@[simp] theorem State.setSet_pending (l : List SetEntry) : (s.setSet l).pending = s.pending := rfl

/-! ### State.setCarrier -/

@[simp] theorem State.setCarrier_link (c : CarrierId) (r : Carrier) : (s.setCarrier c r).link = s.link := rfl
@[simp] theorem State.setCarrier_store (c : CarrierId) (r : Carrier) : (s.setCarrier c r).store = s.store := rfl
@[simp] theorem State.setCarrier_dau (c : CarrierId) (r : Carrier) : (s.setCarrier c r).dau = s.dau := rfl
@[simp] theorem State.setCarrier_smu (c : CarrierId) (r : Carrier) : (s.setCarrier c r).smu = s.smu := rfl
@[simp] theorem State.setCarrier_pcd (c : CarrierId) (r : Carrier) : (s.setCarrier c r).pcd = s.pcd := rfl
@[simp] theorem State.setCarrier_aou (c : CarrierId) (r : Carrier) : (s.setCarrier c r).aou = s.aou := rfl
@[simp] theorem State.setCarrier_dcu (c : CarrierId) (r : Carrier) : (s.setCarrier c r).dcu = s.dcu := rfl
@[simp] theorem State.setCarrier_spu (c : CarrierId) (r : Carrier) : (s.setCarrier c r).spu = s.spu := rfl
@[simp] theorem State.setCarrier_rsu (c : CarrierId) (r : Carrier) :
    (s.setCarrier c r).rsu = { s.rsu with carriers := s.rsu.carriers.set c r } := rfl
@[simp] theorem State.setCarrier_scu (c : CarrierId) (r : Carrier) : (s.setCarrier c r).scu = s.scu := rfl
@[simp] theorem State.setCarrier_ssu (c : CarrierId) (r : Carrier) : (s.setCarrier c r).ssu = s.ssu := rfl
@[simp] theorem State.setCarrier_retention (c : CarrierId) (r : Carrier) :
    (s.setCarrier c r).retention = s.retention := rfl
@[simp] theorem State.setCarrier_power (c : CarrierId) (r : Carrier) : (s.setCarrier c r).power = s.power := rfl
@[simp] theorem State.setCarrier_rstnLow (c : CarrierId) (r : Carrier) : (s.setCarrier c r).rstnLow = s.rstnLow := rfl
@[simp] theorem State.setCarrier_supply (c : CarrierId) (r : Carrier) : (s.setCarrier c r).supply = s.supply := rfl
@[simp] theorem State.setCarrier_timer (c : CarrierId) (r : Carrier) : (s.setCarrier c r).timer = s.timer := rfl
@[simp] theorem State.setCarrier_ticks (c : CarrierId) (r : Carrier) : (s.setCarrier c r).ticks = s.ticks := rfl
@[simp] theorem State.setCarrier_inFlight (c : CarrierId) (r : Carrier) :
    (s.setCarrier c r).inFlight = s.inFlight := rfl
@[simp] theorem State.setCarrier_freeUses (c : CarrierId) (r : Carrier) :
    (s.setCarrier c r).freeUses = s.freeUses := rfl
@[simp] theorem State.setCarrier_pending (c : CarrierId) (r : Carrier) : (s.setCarrier c r).pending = s.pending := rfl

/-! ### State.setCount -/

@[simp] theorem State.setCount_link (f : FrameId) (r : CountRecord) : (s.setCount f r).link = s.link := rfl
@[simp] theorem State.setCount_store (f : FrameId) (r : CountRecord) : (s.setCount f r).store = s.store := rfl
@[simp] theorem State.setCount_dau (f : FrameId) (r : CountRecord) : (s.setCount f r).dau = s.dau := rfl
@[simp] theorem State.setCount_smu (f : FrameId) (r : CountRecord) : (s.setCount f r).smu = s.smu := rfl
@[simp] theorem State.setCount_pcd (f : FrameId) (r : CountRecord) : (s.setCount f r).pcd = s.pcd := rfl
@[simp] theorem State.setCount_aou (f : FrameId) (r : CountRecord) : (s.setCount f r).aou = s.aou := rfl
@[simp] theorem State.setCount_dcu (f : FrameId) (r : CountRecord) : (s.setCount f r).dcu = s.dcu := rfl
@[simp] theorem State.setCount_spu (f : FrameId) (r : CountRecord) : (s.setCount f r).spu = s.spu := rfl
@[simp] theorem State.setCount_rsu (f : FrameId) (r : CountRecord) : (s.setCount f r).rsu = s.rsu := rfl
@[simp] theorem State.setCount_scu (f : FrameId) (r : CountRecord) :
    (s.setCount f r).scu = { s.scu with current := s.scu.current.set f r } := rfl
@[simp] theorem State.setCount_ssu (f : FrameId) (r : CountRecord) : (s.setCount f r).ssu = s.ssu := rfl
@[simp] theorem State.setCount_retention (f : FrameId) (r : CountRecord) :
    (s.setCount f r).retention = s.retention := rfl
@[simp] theorem State.setCount_power (f : FrameId) (r : CountRecord) : (s.setCount f r).power = s.power := rfl
@[simp] theorem State.setCount_rstnLow (f : FrameId) (r : CountRecord) : (s.setCount f r).rstnLow = s.rstnLow := rfl
@[simp] theorem State.setCount_supply (f : FrameId) (r : CountRecord) : (s.setCount f r).supply = s.supply := rfl
@[simp] theorem State.setCount_timer (f : FrameId) (r : CountRecord) : (s.setCount f r).timer = s.timer := rfl
@[simp] theorem State.setCount_ticks (f : FrameId) (r : CountRecord) : (s.setCount f r).ticks = s.ticks := rfl
@[simp] theorem State.setCount_inFlight (f : FrameId) (r : CountRecord) : (s.setCount f r).inFlight = s.inFlight := rfl
@[simp] theorem State.setCount_freeUses (f : FrameId) (r : CountRecord) : (s.setCount f r).freeUses = s.freeUses := rfl
@[simp] theorem State.setCount_pending (f : FrameId) (r : CountRecord) : (s.setCount f r).pending = s.pending := rfl

/-! ### State.setSupervision -/

@[simp] theorem State.setSupervision_link (r : Supervision) : (s.setSupervision r).link = s.link := rfl
@[simp] theorem State.setSupervision_store (r : Supervision) : (s.setSupervision r).store = s.store := rfl
@[simp] theorem State.setSupervision_dau (r : Supervision) : (s.setSupervision r).dau = s.dau := rfl
@[simp] theorem State.setSupervision_smu (r : Supervision) : (s.setSupervision r).smu = s.smu := rfl
@[simp] theorem State.setSupervision_pcd (r : Supervision) : (s.setSupervision r).pcd = s.pcd := rfl
@[simp] theorem State.setSupervision_aou (r : Supervision) : (s.setSupervision r).aou = s.aou := rfl
@[simp] theorem State.setSupervision_dcu (r : Supervision) : (s.setSupervision r).dcu = s.dcu := rfl
@[simp] theorem State.setSupervision_spu (r : Supervision) : (s.setSupervision r).spu = s.spu := rfl
@[simp] theorem State.setSupervision_rsu (r : Supervision) : (s.setSupervision r).rsu = s.rsu := rfl
@[simp] theorem State.setSupervision_scu (r : Supervision) : (s.setSupervision r).scu = s.scu := rfl
@[simp] theorem State.setSupervision_ssu (r : Supervision) : (s.setSupervision r).ssu = r := rfl
@[simp] theorem State.setSupervision_retention (r : Supervision) : (s.setSupervision r).retention = s.retention := rfl
@[simp] theorem State.setSupervision_power (r : Supervision) : (s.setSupervision r).power = s.power := rfl
@[simp] theorem State.setSupervision_rstnLow (r : Supervision) : (s.setSupervision r).rstnLow = s.rstnLow := rfl
@[simp] theorem State.setSupervision_supply (r : Supervision) : (s.setSupervision r).supply = s.supply := rfl
@[simp] theorem State.setSupervision_timer (r : Supervision) : (s.setSupervision r).timer = s.timer := rfl
@[simp] theorem State.setSupervision_ticks (r : Supervision) : (s.setSupervision r).ticks = s.ticks := rfl
@[simp] theorem State.setSupervision_inFlight (r : Supervision) : (s.setSupervision r).inFlight = s.inFlight := rfl
@[simp] theorem State.setSupervision_freeUses (r : Supervision) : (s.setSupervision r).freeUses = s.freeUses := rfl
@[simp] theorem State.setSupervision_pending (r : Supervision) : (s.setSupervision r).pending = s.pending := rfl

/-! ### State.setValid -/

@[simp] theorem State.setValid_link (v : Bool) : (s.setValid v).link = s.link := rfl
@[simp] theorem State.setValid_store (v : Bool) : (s.setValid v).store = s.store := rfl
@[simp] theorem State.setValid_dau (v : Bool) : (s.setValid v).dau = s.dau := rfl
@[simp] theorem State.setValid_smu (v : Bool) : (s.setValid v).smu = s.smu := rfl
@[simp] theorem State.setValid_pcd (v : Bool) : (s.setValid v).pcd = s.pcd := rfl
@[simp] theorem State.setValid_aou (v : Bool) : (s.setValid v).aou = s.aou := rfl
@[simp] theorem State.setValid_dcu (v : Bool) : (s.setValid v).dcu = s.dcu := rfl
@[simp] theorem State.setValid_spu (v : Bool) : (s.setValid v).spu = s.spu := rfl
@[simp] theorem State.setValid_rsu (v : Bool) : (s.setValid v).rsu = s.rsu := rfl
@[simp] theorem State.setValid_scu (v : Bool) : (s.setValid v).scu = s.scu := rfl
@[simp] theorem State.setValid_ssu (v : Bool) : (s.setValid v).ssu = s.ssu := rfl
@[simp] theorem State.setValid_retention (v : Bool) : (s.setValid v).retention = { s.retention with valid := v } := rfl
@[simp] theorem State.setValid_power (v : Bool) : (s.setValid v).power = s.power := rfl
@[simp] theorem State.setValid_rstnLow (v : Bool) : (s.setValid v).rstnLow = s.rstnLow := rfl
@[simp] theorem State.setValid_supply (v : Bool) : (s.setValid v).supply = s.supply := rfl
@[simp] theorem State.setValid_timer (v : Bool) : (s.setValid v).timer = s.timer := rfl
@[simp] theorem State.setValid_ticks (v : Bool) : (s.setValid v).ticks = s.ticks := rfl
@[simp] theorem State.setValid_inFlight (v : Bool) : (s.setValid v).inFlight = s.inFlight := rfl
@[simp] theorem State.setValid_freeUses (v : Bool) : (s.setValid v).freeUses = s.freeUses := rfl
@[simp] theorem State.setValid_pending (v : Bool) : (s.setValid v).pending = s.pending := rfl

/-! ### State.reach -/

@[simp] theorem State.reach_link (t : Nat) : (s.reach t).link = s.link := rfl
@[simp] theorem State.reach_store (t : Nat) : (s.reach t).store = s.store := rfl
@[simp] theorem State.reach_dau (t : Nat) : (s.reach t).dau = s.dau := rfl
@[simp] theorem State.reach_smu (t : Nat) : (s.reach t).smu = s.smu := rfl
@[simp] theorem State.reach_pcd (t : Nat) : (s.reach t).pcd = s.pcd := rfl
@[simp] theorem State.reach_aou (t : Nat) : (s.reach t).aou = s.aou := rfl
@[simp] theorem State.reach_dcu (t : Nat) : (s.reach t).dcu = s.dcu := rfl
@[simp] theorem State.reach_spu (t : Nat) : (s.reach t).spu = s.spu := rfl
@[simp] theorem State.reach_rsu (t : Nat) : (s.reach t).rsu = s.rsu := rfl
@[simp] theorem State.reach_scu (t : Nat) : (s.reach t).scu = s.scu := rfl
@[simp] theorem State.reach_ssu (t : Nat) : (s.reach t).ssu = s.ssu := rfl
@[simp] theorem State.reach_retention (t : Nat) : (s.reach t).retention = s.retention := rfl
@[simp] theorem State.reach_power (t : Nat) : (s.reach t).power = s.power := rfl
@[simp] theorem State.reach_rstnLow (t : Nat) : (s.reach t).rstnLow = s.rstnLow := rfl
@[simp] theorem State.reach_supply (t : Nat) : (s.reach t).supply = s.supply := rfl
@[simp] theorem State.reach_timer (t : Nat) : (s.reach t).timer = timerReading (max s.timer t) := rfl
@[simp] theorem State.reach_ticks (t : Nat) : (s.reach t).ticks = s.ticks := rfl
@[simp] theorem State.reach_inFlight (t : Nat) : (s.reach t).inFlight = s.inFlight := rfl
@[simp] theorem State.reach_freeUses (t : Nat) : (s.reach t).freeUses = s.freeUses := rfl
@[simp] theorem State.reach_pending (t : Nat) : (s.reach t).pending = s.pending := rfl

/-! ### State.emit -/

@[simp] theorem State.emit_link (h : Instr) : (s.emit h).link = s.link := rfl
@[simp] theorem State.emit_store (h : Instr) : (s.emit h).store = s.store := rfl
@[simp] theorem State.emit_dau (h : Instr) : (s.emit h).dau = s.dau := rfl
@[simp] theorem State.emit_smu (h : Instr) : (s.emit h).smu = s.smu := rfl
@[simp] theorem State.emit_pcd (h : Instr) : (s.emit h).pcd = s.pcd := rfl
@[simp] theorem State.emit_aou (h : Instr) : (s.emit h).aou = s.aou := rfl
@[simp] theorem State.emit_dcu (h : Instr) : (s.emit h).dcu = s.dcu := rfl
@[simp] theorem State.emit_spu (h : Instr) : (s.emit h).spu = s.spu := rfl
@[simp] theorem State.emit_rsu (h : Instr) : (s.emit h).rsu = s.rsu := rfl
@[simp] theorem State.emit_scu (h : Instr) : (s.emit h).scu = s.scu := rfl
@[simp] theorem State.emit_ssu (h : Instr) : (s.emit h).ssu = s.ssu := rfl
@[simp] theorem State.emit_retention (h : Instr) : (s.emit h).retention = s.retention := rfl
@[simp] theorem State.emit_power (h : Instr) : (s.emit h).power = s.power := rfl
@[simp] theorem State.emit_rstnLow (h : Instr) : (s.emit h).rstnLow = s.rstnLow := rfl
@[simp] theorem State.emit_supply (h : Instr) : (s.emit h).supply = s.supply := rfl
@[simp] theorem State.emit_timer (h : Instr) : (s.emit h).timer = s.timer := rfl
@[simp] theorem State.emit_ticks (h : Instr) : (s.emit h).ticks = s.ticks := rfl
@[simp] theorem State.emit_inFlight (h : Instr) : (s.emit h).inFlight = s.inFlight ++ [h] := rfl
@[simp] theorem State.emit_freeUses (h : Instr) : (s.emit h).freeUses = s.freeUses := rfl
@[simp] theorem State.emit_pending (h : Instr) : (s.emit h).pending = s.pending := rfl

/-! ### State.emitAll -/

@[simp] theorem State.emitAll_link (hs : List Instr) : (s.emitAll hs).link = s.link := rfl
@[simp] theorem State.emitAll_store (hs : List Instr) : (s.emitAll hs).store = s.store := rfl
@[simp] theorem State.emitAll_dau (hs : List Instr) : (s.emitAll hs).dau = s.dau := rfl
@[simp] theorem State.emitAll_smu (hs : List Instr) : (s.emitAll hs).smu = s.smu := rfl
@[simp] theorem State.emitAll_pcd (hs : List Instr) : (s.emitAll hs).pcd = s.pcd := rfl
@[simp] theorem State.emitAll_aou (hs : List Instr) : (s.emitAll hs).aou = s.aou := rfl
@[simp] theorem State.emitAll_dcu (hs : List Instr) : (s.emitAll hs).dcu = s.dcu := rfl
@[simp] theorem State.emitAll_spu (hs : List Instr) : (s.emitAll hs).spu = s.spu := rfl
@[simp] theorem State.emitAll_rsu (hs : List Instr) : (s.emitAll hs).rsu = s.rsu := rfl
@[simp] theorem State.emitAll_scu (hs : List Instr) : (s.emitAll hs).scu = s.scu := rfl
@[simp] theorem State.emitAll_ssu (hs : List Instr) : (s.emitAll hs).ssu = s.ssu := rfl
@[simp] theorem State.emitAll_retention (hs : List Instr) : (s.emitAll hs).retention = s.retention := rfl
@[simp] theorem State.emitAll_power (hs : List Instr) : (s.emitAll hs).power = s.power := rfl
@[simp] theorem State.emitAll_rstnLow (hs : List Instr) : (s.emitAll hs).rstnLow = s.rstnLow := rfl
@[simp] theorem State.emitAll_supply (hs : List Instr) : (s.emitAll hs).supply = s.supply := rfl
@[simp] theorem State.emitAll_timer (hs : List Instr) : (s.emitAll hs).timer = s.timer := rfl
@[simp] theorem State.emitAll_ticks (hs : List Instr) : (s.emitAll hs).ticks = s.ticks := rfl
@[simp] theorem State.emitAll_inFlight (hs : List Instr) : (s.emitAll hs).inFlight = s.inFlight ++ hs := rfl
@[simp] theorem State.emitAll_freeUses (hs : List Instr) : (s.emitAll hs).freeUses = s.freeUses := rfl
@[simp] theorem State.emitAll_pending (hs : List Instr) : (s.emitAll hs).pending = s.pending := rfl

/-! ### State.drop -/

@[simp] theorem State.drop_link (h : Instr) : (s.drop h).link = s.link := rfl
@[simp] theorem State.drop_store (h : Instr) : (s.drop h).store = s.store := rfl
@[simp] theorem State.drop_dau (h : Instr) : (s.drop h).dau = s.dau := rfl
@[simp] theorem State.drop_smu (h : Instr) : (s.drop h).smu = s.smu := rfl
@[simp] theorem State.drop_pcd (h : Instr) : (s.drop h).pcd = s.pcd := rfl
@[simp] theorem State.drop_aou (h : Instr) : (s.drop h).aou = s.aou := rfl
@[simp] theorem State.drop_dcu (h : Instr) : (s.drop h).dcu = s.dcu := rfl
@[simp] theorem State.drop_spu (h : Instr) : (s.drop h).spu = s.spu := rfl
@[simp] theorem State.drop_rsu (h : Instr) : (s.drop h).rsu = s.rsu := rfl
@[simp] theorem State.drop_scu (h : Instr) : (s.drop h).scu = s.scu := rfl
@[simp] theorem State.drop_ssu (h : Instr) : (s.drop h).ssu = s.ssu := rfl
@[simp] theorem State.drop_retention (h : Instr) : (s.drop h).retention = s.retention := rfl
@[simp] theorem State.drop_power (h : Instr) : (s.drop h).power = s.power := rfl
@[simp] theorem State.drop_rstnLow (h : Instr) : (s.drop h).rstnLow = s.rstnLow := rfl
@[simp] theorem State.drop_supply (h : Instr) : (s.drop h).supply = s.supply := rfl
@[simp] theorem State.drop_timer (h : Instr) : (s.drop h).timer = s.timer := rfl
@[simp] theorem State.drop_ticks (h : Instr) : (s.drop h).ticks = s.ticks := rfl
@[simp] theorem State.drop_inFlight (h : Instr) : (s.drop h).inFlight = s.inFlight.erase h := rfl
@[simp] theorem State.drop_freeUses (h : Instr) : (s.drop h).freeUses = s.freeUses := rfl
@[simp] theorem State.drop_pending (h : Instr) : (s.drop h).pending = s.pending := rfl

/-! ### State.drew -/

@[simp] theorem State.drew_link (n : Nat) : (s.drew n).link = s.link := rfl
@[simp] theorem State.drew_store (n : Nat) : (s.drew n).store = s.store := rfl
@[simp] theorem State.drew_dau (n : Nat) : (s.drew n).dau = s.dau := rfl
@[simp] theorem State.drew_smu (n : Nat) : (s.drew n).smu = s.smu := rfl
@[simp] theorem State.drew_pcd (n : Nat) : (s.drew n).pcd = s.pcd := rfl
@[simp] theorem State.drew_aou (n : Nat) : (s.drew n).aou = s.aou := rfl
@[simp] theorem State.drew_dcu (n : Nat) : (s.drew n).dcu = s.dcu := rfl
@[simp] theorem State.drew_spu (n : Nat) : (s.drew n).spu = s.spu := rfl
@[simp] theorem State.drew_rsu (n : Nat) : (s.drew n).rsu = s.rsu := rfl
@[simp] theorem State.drew_scu (n : Nat) : (s.drew n).scu = s.scu := rfl
@[simp] theorem State.drew_ssu (n : Nat) : (s.drew n).ssu = s.ssu := rfl
@[simp] theorem State.drew_retention (n : Nat) : (s.drew n).retention = s.retention := rfl
@[simp] theorem State.drew_power (n : Nat) : (s.drew n).power = s.power := rfl
@[simp] theorem State.drew_rstnLow (n : Nat) : (s.drew n).rstnLow = s.rstnLow := rfl
@[simp] theorem State.drew_supply (n : Nat) : (s.drew n).supply = s.supply := rfl
@[simp] theorem State.drew_timer (n : Nat) : (s.drew n).timer = s.timer := rfl
@[simp] theorem State.drew_ticks (n : Nat) : (s.drew n).ticks = s.ticks := rfl
@[simp] theorem State.drew_inFlight (n : Nat) : (s.drew n).inFlight = s.inFlight := rfl
@[simp] theorem State.drew_freeUses (n : Nat) : (s.drew n).freeUses = s.freeUses + n := rfl
@[simp] theorem State.drew_pending (n : Nat) : (s.drew n).pending = s.pending := rfl

/-! ### State.copyImage and State.keepFormer -/

@[simp] theorem State.copyImage_link (f : FrameId) : (s.copyImage f).link = s.link := rfl
@[simp] theorem State.copyImage_store (f : FrameId) : (s.copyImage f).store = s.store := rfl
@[simp] theorem State.copyImage_dau (f : FrameId) : (s.copyImage f).dau = s.dau := rfl
@[simp] theorem State.copyImage_smu (f : FrameId) : (s.copyImage f).smu = s.smu := rfl
@[simp] theorem State.copyImage_pcd (f : FrameId) : (s.copyImage f).pcd = s.pcd := rfl
@[simp] theorem State.copyImage_aou (f : FrameId) : (s.copyImage f).aou = s.aou := rfl
@[simp] theorem State.copyImage_dcu (f : FrameId) : (s.copyImage f).dcu = s.dcu := rfl
@[simp] theorem State.copyImage_spu (f : FrameId) : (s.copyImage f).spu = s.spu := rfl
@[simp] theorem State.copyImage_rsu (f : FrameId) : (s.copyImage f).rsu = s.rsu := rfl
@[simp] theorem State.copyImage_scu (f : FrameId) : (s.copyImage f).scu = s.scu := rfl
@[simp] theorem State.copyImage_ssu (f : FrameId) : (s.copyImage f).ssu = s.ssu := rfl
@[simp] theorem State.copyImage_power (f : FrameId) : (s.copyImage f).power = s.power := rfl
@[simp] theorem State.copyImage_rstnLow (f : FrameId) : (s.copyImage f).rstnLow = s.rstnLow := rfl
@[simp] theorem State.copyImage_supply (f : FrameId) : (s.copyImage f).supply = s.supply := rfl
@[simp] theorem State.copyImage_timer (f : FrameId) : (s.copyImage f).timer = s.timer := rfl
@[simp] theorem State.copyImage_ticks (f : FrameId) : (s.copyImage f).ticks = s.ticks := rfl
@[simp] theorem State.copyImage_inFlight (f : FrameId) : (s.copyImage f).inFlight = s.inFlight := rfl
@[simp] theorem State.copyImage_freeUses (f : FrameId) : (s.copyImage f).freeUses = s.freeUses := rfl
@[simp] theorem State.copyImage_pending (f : FrameId) : (s.copyImage f).pending = s.pending := rfl
@[simp] theorem State.copyImage_retention (f : FrameId) : (s.copyImage f).retention =
    { s.retention with images := s.retention.images.set f (s.scu.current.get f).image } := rfl
@[simp] theorem State.keepFormer_link (f : FrameId) (a : Article) : (s.keepFormer f a).link = s.link := rfl
@[simp] theorem State.keepFormer_store (f : FrameId) (a : Article) : (s.keepFormer f a).store = s.store := rfl
@[simp] theorem State.keepFormer_smu (f : FrameId) (a : Article) : (s.keepFormer f a).smu = s.smu := rfl
@[simp] theorem State.keepFormer_pcd (f : FrameId) (a : Article) : (s.keepFormer f a).pcd = s.pcd := rfl
@[simp] theorem State.keepFormer_aou (f : FrameId) (a : Article) : (s.keepFormer f a).aou = s.aou := rfl
@[simp] theorem State.keepFormer_dcu (f : FrameId) (a : Article) : (s.keepFormer f a).dcu = s.dcu := rfl
@[simp] theorem State.keepFormer_spu (f : FrameId) (a : Article) : (s.keepFormer f a).spu = s.spu := rfl
@[simp] theorem State.keepFormer_rsu (f : FrameId) (a : Article) : (s.keepFormer f a).rsu = s.rsu := rfl
@[simp] theorem State.keepFormer_scu (f : FrameId) (a : Article) : (s.keepFormer f a).scu = s.scu := rfl
@[simp] theorem State.keepFormer_ssu (f : FrameId) (a : Article) : (s.keepFormer f a).ssu = s.ssu := rfl
@[simp] theorem State.keepFormer_retention (f : FrameId) (a : Article) : (s.keepFormer f a).retention = s.retention := rfl
@[simp] theorem State.keepFormer_power (f : FrameId) (a : Article) : (s.keepFormer f a).power = s.power := rfl
@[simp] theorem State.keepFormer_rstnLow (f : FrameId) (a : Article) : (s.keepFormer f a).rstnLow = s.rstnLow := rfl
@[simp] theorem State.keepFormer_supply (f : FrameId) (a : Article) : (s.keepFormer f a).supply = s.supply := rfl
@[simp] theorem State.keepFormer_timer (f : FrameId) (a : Article) : (s.keepFormer f a).timer = s.timer := rfl
@[simp] theorem State.keepFormer_ticks (f : FrameId) (a : Article) : (s.keepFormer f a).ticks = s.ticks := rfl
@[simp] theorem State.keepFormer_inFlight (f : FrameId) (a : Article) : (s.keepFormer f a).inFlight = s.inFlight := rfl
@[simp] theorem State.keepFormer_freeUses (f : FrameId) (a : Article) : (s.keepFormer f a).freeUses = s.freeUses := rfl
@[simp] theorem State.keepFormer_pending (f : FrameId) (a : Article) : (s.keepFormer f a).pending = s.pending := rfl
@[simp] theorem State.keepFormer_dau (f : FrameId) (a : Article) : (s.keepFormer f a).dau =
    s.dau.set f { s.deliveryRecord f with former := some a } := rfl

/-! ### Records read back -/

@[simp] theorem State.map_setMap (i : FrameId) (r : FrameMap) : (s.setMap i r).map i = r := by simp [State.map]
@[simp] theorem State.map_setMap_ne {i j : FrameId} (h : i ≠ j) (r : FrameMap) : (s.setMap i r).map j = s.map j := by
  simp [State.map, h]
@[simp] theorem State.enablesDue_setEnabling (i : FrameId) (n : Nat) : (s.setEnabling i n).enablesDue i = n := by
  simp [State.enablesDue]
@[simp] theorem State.enablesDue_setEnabling_ne {i j : FrameId} (h : i ≠ j) (n : Nat) :
    (s.setEnabling i n).enablesDue j = s.enablesDue j := by simp [State.enablesDue, h]
@[simp] theorem State.robot_setRobot (i : RobotId) (r : Robot) : (s.setRobot i r).robot i = r := by simp [State.robot]
@[simp] theorem State.robot_setRobot_ne {i j : RobotId} (h : i ≠ j) (r : Robot) : (s.setRobot i r).robot j = s.robot j := by
  simp [State.robot, h]
@[simp] theorem State.aisleRecord_setAisle (i : AisleId) (r : Aisle) : (s.setAisle i r).aisleRecord i = r := by simp [State.aisleRecord]
@[simp] theorem State.aisleRecord_setAisle_ne {i j : AisleId} (h : i ≠ j) (r : Aisle) : (s.setAisle i r).aisleRecord j = s.aisleRecord j := by
  simp [State.aisleRecord, h]
@[simp] theorem State.cycle_setCycle (i : FrameId) (r : FrameCycle) : (s.setCycle i r).cycle i = r := by simp [State.cycle]
@[simp] theorem State.cycle_setCycle_ne {i j : FrameId} (h : i ≠ j) (r : FrameCycle) : (s.setCycle i r).cycle j = s.cycle j := by
  simp [State.cycle, h]
@[simp] theorem State.doffer_setDoffer (i : DofferId) (r : Doffer) : (s.setDoffer i r).doffer i = r := by simp [State.doffer]
@[simp] theorem State.doffer_setDoffer_ne {i j : DofferId} (h : i ≠ j) (r : Doffer) : (s.setDoffer i r).doffer j = s.doffer j := by
  simp [State.doffer, h]
@[simp] theorem State.speed_setSpeed (i : FrameId) (r : SpeedRecord) : (s.setSpeed i r).speed i = r := by simp [State.speed]
@[simp] theorem State.speed_setSpeed_ne {i j : FrameId} (h : i ≠ j) (r : SpeedRecord) : (s.setSpeed i r).speed j = s.speed j := by
  simp [State.speed, h]
@[simp] theorem State.deliveryRecord_setDelivery (i : FrameId) (r : Delivery) : (s.setDelivery i r).deliveryRecord i = r := by simp [State.deliveryRecord]
@[simp] theorem State.deliveryRecord_setDelivery_ne {i j : FrameId} (h : i ≠ j) (r : Delivery) : (s.setDelivery i r).deliveryRecord j = s.deliveryRecord j := by
  simp [State.deliveryRecord, h]
@[simp] theorem State.carrier_setCarrier (i : CarrierId) (r : Carrier) : (s.setCarrier i r).carrier i = r := by simp [State.carrier]
@[simp] theorem State.carrier_setCarrier_ne {i j : CarrierId} (h : i ≠ j) (r : Carrier) : (s.setCarrier i r).carrier j = s.carrier j := by
  simp [State.carrier, h]
@[simp] theorem State.count_setCount (i : FrameId) (r : CountRecord) : (s.setCount i r).count i = r := by simp [State.count]
@[simp] theorem State.count_setCount_ne {i j : FrameId} (h : i ≠ j) (r : CountRecord) : (s.setCount i r).count j = s.count j := by
  simp [State.count, h]
@[simp] theorem State.entry_setEntry (i : FrameId) (r : FrameEntry) : (s.setEntry i r).entry i = r := by simp [State.entry]
@[simp] theorem State.entry_setEntry_ne {i j : FrameId} (h : i ≠ j) (r : FrameEntry) : (s.setEntry i r).entry j = s.entry j := by
  simp [State.entry, h]

/-! ### Reads that an update of another unit leaves alone -/

@[simp] theorem State.map_setUpQueue (q : List Telegram) (i : FrameId) : (s.setUpQueue q).map i = s.map i := rfl
@[simp] theorem State.map_setFloorQueue (q : List Telegram) (i : FrameId) : (s.setFloorQueue q).map i = s.map i := rfl
@[simp] theorem State.map_bump (c : LinkCounter) (i : FrameId) : (s.bump c).map i = s.map i := rfl
@[simp] theorem State.map_latch (x : LineFlag) (i : FrameId) : (s.latch x).map i = s.map i := rfl
@[simp] theorem State.map_setEntry (f : FrameId) (e : FrameEntry) (i : FrameId) :
    (s.setEntry f e).map i = s.map i := rfl
@[simp] theorem State.map_setDelivery (f : FrameId) (r : Delivery) (i : FrameId) :
    (s.setDelivery f r).map i = s.map i := rfl
@[simp] theorem State.map_setRogues (l : List RogueEntry) (i : FrameId) : (s.setRogues l).map i = s.map i := rfl
@[simp] theorem State.map_setRobot (k : RobotId) (r : Robot) (i : FrameId) : (s.setRobot k r).map i = s.map i := rfl
@[simp] theorem State.map_setVerify (l : List VerifyEntry) (i : FrameId) : (s.setVerify l).map i = s.map i := rfl
@[simp] theorem State.map_setEnabling (x : FrameId) (n : Nat) (i : FrameId) : (s.setEnabling x n).map i = s.map i := rfl
@[simp] theorem State.map_setAisle (a : AisleId) (r : Aisle) (i : FrameId) : (s.setAisle a r).map i = s.map i := rfl
@[simp] theorem State.map_setWaiting (l : List PendingReservation) (i : FrameId) :
    (s.setWaiting l).map i = s.map i := rfl
@[simp] theorem State.map_setClaimed (d : DofferId) (o : Option FrameId) (i : FrameId) :
    (s.setClaimed d o).map i = s.map i := rfl
@[simp] theorem State.map_setCycle (f : FrameId) (r : FrameCycle) (i : FrameId) :
    (s.setCycle f r).map i = s.map i := rfl
@[simp] theorem State.map_setDoffer (d : DofferId) (r : Doffer) (i : FrameId) : (s.setDoffer d r).map i = s.map i := rfl
@[simp] theorem State.map_setQueue (q : List FrameId) (i : FrameId) : (s.setQueue q).map i = s.map i := rfl
@[simp] theorem State.map_setSpeed (f : FrameId) (r : SpeedRecord) (i : FrameId) :
    (s.setSpeed f r).map i = s.map i := rfl
@[simp] theorem State.map_setGroup (f : FrameId) (g : GroupId) (r : Option Group) (i : FrameId) :
    (s.setGroup f g r).map i = s.map i := rfl
@[simp] theorem State.map_setSet (l : List SetEntry) (i : FrameId) : (s.setSet l).map i = s.map i := rfl
@[simp] theorem State.map_setCarrier (c : CarrierId) (r : Carrier) (i : FrameId) :
    (s.setCarrier c r).map i = s.map i := rfl
@[simp] theorem State.map_setCount (f : FrameId) (r : CountRecord) (i : FrameId) :
    (s.setCount f r).map i = s.map i := rfl
@[simp] theorem State.map_setSupervision (r : Supervision) (i : FrameId) : (s.setSupervision r).map i = s.map i := rfl
@[simp] theorem State.map_setValid (v : Bool) (i : FrameId) : (s.setValid v).map i = s.map i := rfl
@[simp] theorem State.map_reach (t : Nat) (i : FrameId) : (s.reach t).map i = s.map i := rfl
@[simp] theorem State.map_emit (h : Instr) (i : FrameId) : (s.emit h).map i = s.map i := rfl
@[simp] theorem State.map_emitAll (hs : List Instr) (i : FrameId) : (s.emitAll hs).map i = s.map i := rfl
@[simp] theorem State.map_drop (h : Instr) (i : FrameId) : (s.drop h).map i = s.map i := rfl
@[simp] theorem State.map_drew (n : Nat) (i : FrameId) : (s.drew n).map i = s.map i := rfl
@[simp] theorem State.robot_setUpQueue (q : List Telegram) (i : RobotId) : (s.setUpQueue q).robot i = s.robot i := rfl
@[simp] theorem State.robot_setFloorQueue (q : List Telegram) (i : RobotId) :
    (s.setFloorQueue q).robot i = s.robot i := rfl
@[simp] theorem State.robot_bump (c : LinkCounter) (i : RobotId) : (s.bump c).robot i = s.robot i := rfl
@[simp] theorem State.robot_latch (x : LineFlag) (i : RobotId) : (s.latch x).robot i = s.robot i := rfl
@[simp] theorem State.robot_setEntry (f : FrameId) (e : FrameEntry) (i : RobotId) :
    (s.setEntry f e).robot i = s.robot i := rfl
@[simp] theorem State.robot_setDelivery (f : FrameId) (r : Delivery) (i : RobotId) :
    (s.setDelivery f r).robot i = s.robot i := rfl
@[simp] theorem State.robot_setMap (f : FrameId) (m : FrameMap) (i : RobotId) :
    (s.setMap f m).robot i = s.robot i := rfl
@[simp] theorem State.robot_setRogues (l : List RogueEntry) (i : RobotId) : (s.setRogues l).robot i = s.robot i := rfl
@[simp] theorem State.robot_setVerify (l : List VerifyEntry) (i : RobotId) : (s.setVerify l).robot i = s.robot i := rfl
@[simp] theorem State.robot_setEnabling (x : FrameId) (n : Nat) (i : RobotId) : (s.setEnabling x n).robot i = s.robot i := rfl
@[simp] theorem State.robot_setAisle (a : AisleId) (r : Aisle) (i : RobotId) :
    (s.setAisle a r).robot i = s.robot i := rfl
@[simp] theorem State.robot_setWaiting (l : List PendingReservation) (i : RobotId) :
    (s.setWaiting l).robot i = s.robot i := rfl
@[simp] theorem State.robot_setClaimed (d : DofferId) (o : Option FrameId) (i : RobotId) :
    (s.setClaimed d o).robot i = s.robot i := rfl
@[simp] theorem State.robot_setCycle (f : FrameId) (r : FrameCycle) (i : RobotId) :
    (s.setCycle f r).robot i = s.robot i := rfl
@[simp] theorem State.robot_setDoffer (d : DofferId) (r : Doffer) (i : RobotId) :
    (s.setDoffer d r).robot i = s.robot i := rfl
@[simp] theorem State.robot_setQueue (q : List FrameId) (i : RobotId) : (s.setQueue q).robot i = s.robot i := rfl
@[simp] theorem State.robot_setSpeed (f : FrameId) (r : SpeedRecord) (i : RobotId) :
    (s.setSpeed f r).robot i = s.robot i := rfl
@[simp] theorem State.robot_setGroup (f : FrameId) (g : GroupId) (r : Option Group) (i : RobotId) :
    (s.setGroup f g r).robot i = s.robot i := rfl
@[simp] theorem State.robot_setSet (l : List SetEntry) (i : RobotId) : (s.setSet l).robot i = s.robot i := rfl
@[simp] theorem State.robot_setCarrier (c : CarrierId) (r : Carrier) (i : RobotId) :
    (s.setCarrier c r).robot i = s.robot i := rfl
@[simp] theorem State.robot_setCount (f : FrameId) (r : CountRecord) (i : RobotId) :
    (s.setCount f r).robot i = s.robot i := rfl
@[simp] theorem State.robot_setSupervision (r : Supervision) (i : RobotId) :
    (s.setSupervision r).robot i = s.robot i := rfl
@[simp] theorem State.robot_setValid (v : Bool) (i : RobotId) : (s.setValid v).robot i = s.robot i := rfl
@[simp] theorem State.robot_reach (t : Nat) (i : RobotId) : (s.reach t).robot i = s.robot i := rfl
@[simp] theorem State.robot_emit (h : Instr) (i : RobotId) : (s.emit h).robot i = s.robot i := rfl
@[simp] theorem State.robot_emitAll (hs : List Instr) (i : RobotId) : (s.emitAll hs).robot i = s.robot i := rfl
@[simp] theorem State.robot_drop (h : Instr) (i : RobotId) : (s.drop h).robot i = s.robot i := rfl
@[simp] theorem State.robot_drew (n : Nat) (i : RobotId) : (s.drew n).robot i = s.robot i := rfl
@[simp] theorem State.enablesDue_setUpQueue (q : List Telegram) (i : FrameId) : (s.setUpQueue q).enablesDue i = s.enablesDue i := rfl
@[simp] theorem State.enablesDue_setFloorQueue (q : List Telegram) (i : FrameId) :
    (s.setFloorQueue q).enablesDue i = s.enablesDue i := rfl
@[simp] theorem State.enablesDue_bump (c : LinkCounter) (i : FrameId) : (s.bump c).enablesDue i = s.enablesDue i := rfl
@[simp] theorem State.enablesDue_latch (x : LineFlag) (i : FrameId) : (s.latch x).enablesDue i = s.enablesDue i := rfl
@[simp] theorem State.enablesDue_setEntry (f : FrameId) (e : FrameEntry) (i : FrameId) :
    (s.setEntry f e).enablesDue i = s.enablesDue i := rfl
@[simp] theorem State.enablesDue_setDelivery (f : FrameId) (r : Delivery) (i : FrameId) :
    (s.setDelivery f r).enablesDue i = s.enablesDue i := rfl
@[simp] theorem State.enablesDue_setMap (f : FrameId) (m : FrameMap) (i : FrameId) :
    (s.setMap f m).enablesDue i = s.enablesDue i := rfl
@[simp] theorem State.enablesDue_setRogues (l : List RogueEntry) (i : FrameId) : (s.setRogues l).enablesDue i = s.enablesDue i := rfl
@[simp] theorem State.enablesDue_setVerify (l : List VerifyEntry) (i : FrameId) : (s.setVerify l).enablesDue i = s.enablesDue i := rfl
@[simp] theorem State.enablesDue_setAisle (a : AisleId) (r : Aisle) (i : FrameId) :
    (s.setAisle a r).enablesDue i = s.enablesDue i := rfl
@[simp] theorem State.enablesDue_setWaiting (l : List PendingReservation) (i : FrameId) :
    (s.setWaiting l).enablesDue i = s.enablesDue i := rfl
@[simp] theorem State.enablesDue_setClaimed (d : DofferId) (o : Option FrameId) (i : FrameId) :
    (s.setClaimed d o).enablesDue i = s.enablesDue i := rfl
@[simp] theorem State.enablesDue_setCycle (f : FrameId) (r : FrameCycle) (i : FrameId) :
    (s.setCycle f r).enablesDue i = s.enablesDue i := rfl
@[simp] theorem State.enablesDue_setDoffer (d : DofferId) (r : Doffer) (i : FrameId) :
    (s.setDoffer d r).enablesDue i = s.enablesDue i := rfl
@[simp] theorem State.enablesDue_setQueue (q : List FrameId) (i : FrameId) : (s.setQueue q).enablesDue i = s.enablesDue i := rfl
@[simp] theorem State.enablesDue_setSpeed (f : FrameId) (r : SpeedRecord) (i : FrameId) :
    (s.setSpeed f r).enablesDue i = s.enablesDue i := rfl
@[simp] theorem State.enablesDue_setGroup (f : FrameId) (g : GroupId) (r : Option Group) (i : FrameId) :
    (s.setGroup f g r).enablesDue i = s.enablesDue i := rfl
@[simp] theorem State.enablesDue_setSet (l : List SetEntry) (i : FrameId) : (s.setSet l).enablesDue i = s.enablesDue i := rfl
@[simp] theorem State.enablesDue_setCarrier (c : CarrierId) (r : Carrier) (i : FrameId) :
    (s.setCarrier c r).enablesDue i = s.enablesDue i := rfl
@[simp] theorem State.enablesDue_setCount (f : FrameId) (r : CountRecord) (i : FrameId) :
    (s.setCount f r).enablesDue i = s.enablesDue i := rfl
@[simp] theorem State.enablesDue_setSupervision (r : Supervision) (i : FrameId) :
    (s.setSupervision r).enablesDue i = s.enablesDue i := rfl
@[simp] theorem State.enablesDue_setValid (v : Bool) (i : FrameId) : (s.setValid v).enablesDue i = s.enablesDue i := rfl
@[simp] theorem State.enablesDue_reach (t : Nat) (i : FrameId) : (s.reach t).enablesDue i = s.enablesDue i := rfl
@[simp] theorem State.enablesDue_emit (h : Instr) (i : FrameId) : (s.emit h).enablesDue i = s.enablesDue i := rfl
@[simp] theorem State.enablesDue_emitAll (hs : List Instr) (i : FrameId) : (s.emitAll hs).enablesDue i = s.enablesDue i := rfl
@[simp] theorem State.enablesDue_drop (h : Instr) (i : FrameId) : (s.drop h).enablesDue i = s.enablesDue i := rfl
@[simp] theorem State.enablesDue_drew (n : Nat) (i : FrameId) : (s.drew n).enablesDue i = s.enablesDue i := rfl
@[simp] theorem State.enablesDue_setRobot (k : RobotId) (r : Robot) (i : FrameId) :
    (s.setRobot k r).enablesDue i = s.enablesDue i := rfl
@[simp] theorem State.aisleRecord_setUpQueue (q : List Telegram) (i : AisleId) :
    (s.setUpQueue q).aisleRecord i = s.aisleRecord i := rfl
@[simp] theorem State.aisleRecord_setFloorQueue (q : List Telegram) (i : AisleId) :
    (s.setFloorQueue q).aisleRecord i = s.aisleRecord i := rfl
@[simp] theorem State.aisleRecord_bump (c : LinkCounter) (i : AisleId) :
    (s.bump c).aisleRecord i = s.aisleRecord i := rfl
@[simp] theorem State.aisleRecord_latch (x : LineFlag) (i : AisleId) :
    (s.latch x).aisleRecord i = s.aisleRecord i := rfl
@[simp] theorem State.aisleRecord_setEntry (f : FrameId) (e : FrameEntry) (i : AisleId) :
    (s.setEntry f e).aisleRecord i = s.aisleRecord i := rfl
@[simp] theorem State.aisleRecord_setDelivery (f : FrameId) (r : Delivery) (i : AisleId) :
    (s.setDelivery f r).aisleRecord i = s.aisleRecord i := rfl
@[simp] theorem State.aisleRecord_setMap (f : FrameId) (m : FrameMap) (i : AisleId) :
    (s.setMap f m).aisleRecord i = s.aisleRecord i := rfl
@[simp] theorem State.aisleRecord_setRogues (l : List RogueEntry) (i : AisleId) :
    (s.setRogues l).aisleRecord i = s.aisleRecord i := rfl
@[simp] theorem State.aisleRecord_setRobot (k : RobotId) (r : Robot) (i : AisleId) :
    (s.setRobot k r).aisleRecord i = s.aisleRecord i := rfl
@[simp] theorem State.aisleRecord_setVerify (l : List VerifyEntry) (i : AisleId) :
    (s.setVerify l).aisleRecord i = s.aisleRecord i := rfl
@[simp] theorem State.aisleRecord_setEnabling (x : FrameId) (n : Nat) (i : AisleId) :
    (s.setEnabling x n).aisleRecord i = s.aisleRecord i := rfl
@[simp] theorem State.aisleRecord_setWaiting (l : List PendingReservation) (i : AisleId) :
    (s.setWaiting l).aisleRecord i = s.aisleRecord i := rfl
@[simp] theorem State.aisleRecord_setClaimed (d : DofferId) (o : Option FrameId) (i : AisleId) :
    (s.setClaimed d o).aisleRecord i = s.aisleRecord i := rfl
@[simp] theorem State.aisleRecord_setCycle (f : FrameId) (r : FrameCycle) (i : AisleId) :
    (s.setCycle f r).aisleRecord i = s.aisleRecord i := rfl
@[simp] theorem State.aisleRecord_setDoffer (d : DofferId) (r : Doffer) (i : AisleId) :
    (s.setDoffer d r).aisleRecord i = s.aisleRecord i := rfl
@[simp] theorem State.aisleRecord_setQueue (q : List FrameId) (i : AisleId) :
    (s.setQueue q).aisleRecord i = s.aisleRecord i := rfl
@[simp] theorem State.aisleRecord_setSpeed (f : FrameId) (r : SpeedRecord) (i : AisleId) :
    (s.setSpeed f r).aisleRecord i = s.aisleRecord i := rfl
@[simp] theorem State.aisleRecord_setGroup (f : FrameId) (g : GroupId) (r : Option Group) (i : AisleId) :
    (s.setGroup f g r).aisleRecord i = s.aisleRecord i := rfl
@[simp] theorem State.aisleRecord_setSet (l : List SetEntry) (i : AisleId) :
    (s.setSet l).aisleRecord i = s.aisleRecord i := rfl
@[simp] theorem State.aisleRecord_setCarrier (c : CarrierId) (r : Carrier) (i : AisleId) :
    (s.setCarrier c r).aisleRecord i = s.aisleRecord i := rfl
@[simp] theorem State.aisleRecord_setCount (f : FrameId) (r : CountRecord) (i : AisleId) :
    (s.setCount f r).aisleRecord i = s.aisleRecord i := rfl
@[simp] theorem State.aisleRecord_setSupervision (r : Supervision) (i : AisleId) :
    (s.setSupervision r).aisleRecord i = s.aisleRecord i := rfl
@[simp] theorem State.aisleRecord_setValid (v : Bool) (i : AisleId) :
    (s.setValid v).aisleRecord i = s.aisleRecord i := rfl
@[simp] theorem State.aisleRecord_reach (t : Nat) (i : AisleId) : (s.reach t).aisleRecord i = s.aisleRecord i := rfl
@[simp] theorem State.aisleRecord_emit (h : Instr) (i : AisleId) : (s.emit h).aisleRecord i = s.aisleRecord i := rfl
@[simp] theorem State.aisleRecord_emitAll (hs : List Instr) (i : AisleId) :
    (s.emitAll hs).aisleRecord i = s.aisleRecord i := rfl
@[simp] theorem State.aisleRecord_drop (h : Instr) (i : AisleId) : (s.drop h).aisleRecord i = s.aisleRecord i := rfl
@[simp] theorem State.aisleRecord_drew (n : Nat) (i : AisleId) : (s.drew n).aisleRecord i = s.aisleRecord i := rfl
@[simp] theorem State.cycle_setUpQueue (q : List Telegram) (i : FrameId) : (s.setUpQueue q).cycle i = s.cycle i := rfl
@[simp] theorem State.cycle_setFloorQueue (q : List Telegram) (i : FrameId) :
    (s.setFloorQueue q).cycle i = s.cycle i := rfl
@[simp] theorem State.cycle_bump (c : LinkCounter) (i : FrameId) : (s.bump c).cycle i = s.cycle i := rfl
@[simp] theorem State.cycle_latch (x : LineFlag) (i : FrameId) : (s.latch x).cycle i = s.cycle i := rfl
@[simp] theorem State.cycle_setEntry (f : FrameId) (e : FrameEntry) (i : FrameId) :
    (s.setEntry f e).cycle i = s.cycle i := rfl
@[simp] theorem State.cycle_setDelivery (f : FrameId) (r : Delivery) (i : FrameId) :
    (s.setDelivery f r).cycle i = s.cycle i := rfl
@[simp] theorem State.cycle_setMap (f : FrameId) (m : FrameMap) (i : FrameId) :
    (s.setMap f m).cycle i = s.cycle i := rfl
@[simp] theorem State.cycle_setRogues (l : List RogueEntry) (i : FrameId) : (s.setRogues l).cycle i = s.cycle i := rfl
@[simp] theorem State.cycle_setRobot (k : RobotId) (r : Robot) (i : FrameId) :
    (s.setRobot k r).cycle i = s.cycle i := rfl
@[simp] theorem State.cycle_setVerify (l : List VerifyEntry) (i : FrameId) : (s.setVerify l).cycle i = s.cycle i := rfl
@[simp] theorem State.cycle_setEnabling (x : FrameId) (n : Nat) (i : FrameId) : (s.setEnabling x n).cycle i = s.cycle i := rfl
@[simp] theorem State.cycle_setAisle (a : AisleId) (r : Aisle) (i : FrameId) :
    (s.setAisle a r).cycle i = s.cycle i := rfl
@[simp] theorem State.cycle_setWaiting (l : List PendingReservation) (i : FrameId) :
    (s.setWaiting l).cycle i = s.cycle i := rfl
@[simp] theorem State.cycle_setClaimed (d : DofferId) (o : Option FrameId) (i : FrameId) :
    (s.setClaimed d o).cycle i = s.cycle i := rfl
@[simp] theorem State.cycle_setDoffer (d : DofferId) (r : Doffer) (i : FrameId) :
    (s.setDoffer d r).cycle i = s.cycle i := rfl
@[simp] theorem State.cycle_setQueue (q : List FrameId) (i : FrameId) : (s.setQueue q).cycle i = s.cycle i := rfl
@[simp] theorem State.cycle_setSpeed (f : FrameId) (r : SpeedRecord) (i : FrameId) :
    (s.setSpeed f r).cycle i = s.cycle i := rfl
@[simp] theorem State.cycle_setGroup (f : FrameId) (g : GroupId) (r : Option Group) (i : FrameId) :
    (s.setGroup f g r).cycle i = s.cycle i := rfl
@[simp] theorem State.cycle_setSet (l : List SetEntry) (i : FrameId) : (s.setSet l).cycle i = s.cycle i := rfl
@[simp] theorem State.cycle_setCarrier (c : CarrierId) (r : Carrier) (i : FrameId) :
    (s.setCarrier c r).cycle i = s.cycle i := rfl
@[simp] theorem State.cycle_setCount (f : FrameId) (r : CountRecord) (i : FrameId) :
    (s.setCount f r).cycle i = s.cycle i := rfl
@[simp] theorem State.cycle_setSupervision (r : Supervision) (i : FrameId) :
    (s.setSupervision r).cycle i = s.cycle i := rfl
@[simp] theorem State.cycle_setValid (v : Bool) (i : FrameId) : (s.setValid v).cycle i = s.cycle i := rfl
@[simp] theorem State.cycle_reach (t : Nat) (i : FrameId) : (s.reach t).cycle i = s.cycle i := rfl
@[simp] theorem State.cycle_emit (h : Instr) (i : FrameId) : (s.emit h).cycle i = s.cycle i := rfl
@[simp] theorem State.cycle_emitAll (hs : List Instr) (i : FrameId) : (s.emitAll hs).cycle i = s.cycle i := rfl
@[simp] theorem State.cycle_drop (h : Instr) (i : FrameId) : (s.drop h).cycle i = s.cycle i := rfl
@[simp] theorem State.cycle_drew (n : Nat) (i : FrameId) : (s.drew n).cycle i = s.cycle i := rfl
@[simp] theorem State.frameState_setUpQueue (q : List Telegram) (i : FrameId) :
    (s.setUpQueue q).frameState i = s.frameState i := rfl
@[simp] theorem State.frameState_setFloorQueue (q : List Telegram) (i : FrameId) :
    (s.setFloorQueue q).frameState i = s.frameState i := rfl
@[simp] theorem State.frameState_bump (c : LinkCounter) (i : FrameId) : (s.bump c).frameState i = s.frameState i := rfl
@[simp] theorem State.frameState_latch (x : LineFlag) (i : FrameId) : (s.latch x).frameState i = s.frameState i := rfl
@[simp] theorem State.frameState_setEntry (f : FrameId) (e : FrameEntry) (i : FrameId) :
    (s.setEntry f e).frameState i = s.frameState i := rfl
@[simp] theorem State.frameState_setDelivery (f : FrameId) (r : Delivery) (i : FrameId) :
    (s.setDelivery f r).frameState i = s.frameState i := rfl
@[simp] theorem State.frameState_setMap (f : FrameId) (m : FrameMap) (i : FrameId) :
    (s.setMap f m).frameState i = s.frameState i := rfl
@[simp] theorem State.frameState_setRogues (l : List RogueEntry) (i : FrameId) :
    (s.setRogues l).frameState i = s.frameState i := rfl
@[simp] theorem State.frameState_setRobot (k : RobotId) (r : Robot) (i : FrameId) :
    (s.setRobot k r).frameState i = s.frameState i := rfl
@[simp] theorem State.frameState_setVerify (l : List VerifyEntry) (i : FrameId) :
    (s.setVerify l).frameState i = s.frameState i := rfl
@[simp] theorem State.frameState_setEnabling (x : FrameId) (n : Nat) (i : FrameId) :
    (s.setEnabling x n).frameState i = s.frameState i := rfl
@[simp] theorem State.frameState_setAisle (a : AisleId) (r : Aisle) (i : FrameId) :
    (s.setAisle a r).frameState i = s.frameState i := rfl
@[simp] theorem State.frameState_setWaiting (l : List PendingReservation) (i : FrameId) :
    (s.setWaiting l).frameState i = s.frameState i := rfl
@[simp] theorem State.frameState_setClaimed (d : DofferId) (o : Option FrameId) (i : FrameId) :
    (s.setClaimed d o).frameState i = s.frameState i := rfl
@[simp] theorem State.frameState_setDoffer (d : DofferId) (r : Doffer) (i : FrameId) :
    (s.setDoffer d r).frameState i = s.frameState i := rfl
@[simp] theorem State.frameState_setQueue (q : List FrameId) (i : FrameId) :
    (s.setQueue q).frameState i = s.frameState i := rfl
@[simp] theorem State.frameState_setSpeed (f : FrameId) (r : SpeedRecord) (i : FrameId) :
    (s.setSpeed f r).frameState i = s.frameState i := rfl
@[simp] theorem State.frameState_setGroup (f : FrameId) (g : GroupId) (r : Option Group) (i : FrameId) :
    (s.setGroup f g r).frameState i = s.frameState i := rfl
@[simp] theorem State.frameState_setSet (l : List SetEntry) (i : FrameId) :
    (s.setSet l).frameState i = s.frameState i := rfl
@[simp] theorem State.frameState_setCarrier (c : CarrierId) (r : Carrier) (i : FrameId) :
    (s.setCarrier c r).frameState i = s.frameState i := rfl
@[simp] theorem State.frameState_setCount (f : FrameId) (r : CountRecord) (i : FrameId) :
    (s.setCount f r).frameState i = s.frameState i := rfl
@[simp] theorem State.frameState_setSupervision (r : Supervision) (i : FrameId) :
    (s.setSupervision r).frameState i = s.frameState i := rfl
@[simp] theorem State.frameState_setValid (v : Bool) (i : FrameId) : (s.setValid v).frameState i = s.frameState i := rfl
@[simp] theorem State.frameState_reach (t : Nat) (i : FrameId) : (s.reach t).frameState i = s.frameState i := rfl
@[simp] theorem State.frameState_emit (h : Instr) (i : FrameId) : (s.emit h).frameState i = s.frameState i := rfl
@[simp] theorem State.frameState_emitAll (hs : List Instr) (i : FrameId) :
    (s.emitAll hs).frameState i = s.frameState i := rfl
@[simp] theorem State.frameState_drop (h : Instr) (i : FrameId) : (s.drop h).frameState i = s.frameState i := rfl
@[simp] theorem State.frameState_drew (n : Nat) (i : FrameId) : (s.drew n).frameState i = s.frameState i := rfl
@[simp] theorem State.doffer_setUpQueue (q : List Telegram) (i : DofferId) :
    (s.setUpQueue q).doffer i = s.doffer i := rfl
@[simp] theorem State.doffer_setFloorQueue (q : List Telegram) (i : DofferId) :
    (s.setFloorQueue q).doffer i = s.doffer i := rfl
@[simp] theorem State.doffer_bump (c : LinkCounter) (i : DofferId) : (s.bump c).doffer i = s.doffer i := rfl
@[simp] theorem State.doffer_latch (x : LineFlag) (i : DofferId) : (s.latch x).doffer i = s.doffer i := rfl
@[simp] theorem State.doffer_setEntry (f : FrameId) (e : FrameEntry) (i : DofferId) :
    (s.setEntry f e).doffer i = s.doffer i := rfl
@[simp] theorem State.doffer_setDelivery (f : FrameId) (r : Delivery) (i : DofferId) :
    (s.setDelivery f r).doffer i = s.doffer i := rfl
@[simp] theorem State.doffer_setMap (f : FrameId) (m : FrameMap) (i : DofferId) :
    (s.setMap f m).doffer i = s.doffer i := rfl
@[simp] theorem State.doffer_setRogues (l : List RogueEntry) (i : DofferId) :
    (s.setRogues l).doffer i = s.doffer i := rfl
@[simp] theorem State.doffer_setRobot (k : RobotId) (r : Robot) (i : DofferId) :
    (s.setRobot k r).doffer i = s.doffer i := rfl
@[simp] theorem State.doffer_setVerify (l : List VerifyEntry) (i : DofferId) :
    (s.setVerify l).doffer i = s.doffer i := rfl
@[simp] theorem State.doffer_setEnabling (x : FrameId) (n : Nat) (i : DofferId) :
    (s.setEnabling x n).doffer i = s.doffer i := rfl
@[simp] theorem State.doffer_setAisle (a : AisleId) (r : Aisle) (i : DofferId) :
    (s.setAisle a r).doffer i = s.doffer i := rfl
@[simp] theorem State.doffer_setWaiting (l : List PendingReservation) (i : DofferId) :
    (s.setWaiting l).doffer i = s.doffer i := rfl
@[simp] theorem State.doffer_setClaimed (d : DofferId) (o : Option FrameId) (i : DofferId) :
    (s.setClaimed d o).doffer i = s.doffer i := rfl
@[simp] theorem State.doffer_setCycle (f : FrameId) (r : FrameCycle) (i : DofferId) :
    (s.setCycle f r).doffer i = s.doffer i := rfl
@[simp] theorem State.doffer_setQueue (q : List FrameId) (i : DofferId) : (s.setQueue q).doffer i = s.doffer i := rfl
@[simp] theorem State.doffer_setSpeed (f : FrameId) (r : SpeedRecord) (i : DofferId) :
    (s.setSpeed f r).doffer i = s.doffer i := rfl
@[simp] theorem State.doffer_setGroup (f : FrameId) (g : GroupId) (r : Option Group) (i : DofferId) :
    (s.setGroup f g r).doffer i = s.doffer i := rfl
@[simp] theorem State.doffer_setSet (l : List SetEntry) (i : DofferId) : (s.setSet l).doffer i = s.doffer i := rfl
@[simp] theorem State.doffer_setCarrier (c : CarrierId) (r : Carrier) (i : DofferId) :
    (s.setCarrier c r).doffer i = s.doffer i := rfl
@[simp] theorem State.doffer_setCount (f : FrameId) (r : CountRecord) (i : DofferId) :
    (s.setCount f r).doffer i = s.doffer i := rfl
@[simp] theorem State.doffer_setSupervision (r : Supervision) (i : DofferId) :
    (s.setSupervision r).doffer i = s.doffer i := rfl
@[simp] theorem State.doffer_setValid (v : Bool) (i : DofferId) : (s.setValid v).doffer i = s.doffer i := rfl
@[simp] theorem State.doffer_reach (t : Nat) (i : DofferId) : (s.reach t).doffer i = s.doffer i := rfl
@[simp] theorem State.doffer_emit (h : Instr) (i : DofferId) : (s.emit h).doffer i = s.doffer i := rfl
@[simp] theorem State.doffer_emitAll (hs : List Instr) (i : DofferId) : (s.emitAll hs).doffer i = s.doffer i := rfl
@[simp] theorem State.doffer_drop (h : Instr) (i : DofferId) : (s.drop h).doffer i = s.doffer i := rfl
@[simp] theorem State.doffer_drew (n : Nat) (i : DofferId) : (s.drew n).doffer i = s.doffer i := rfl
@[simp] theorem State.speed_setUpQueue (q : List Telegram) (i : FrameId) : (s.setUpQueue q).speed i = s.speed i := rfl
@[simp] theorem State.speed_setFloorQueue (q : List Telegram) (i : FrameId) :
    (s.setFloorQueue q).speed i = s.speed i := rfl
@[simp] theorem State.speed_bump (c : LinkCounter) (i : FrameId) : (s.bump c).speed i = s.speed i := rfl
@[simp] theorem State.speed_latch (x : LineFlag) (i : FrameId) : (s.latch x).speed i = s.speed i := rfl
@[simp] theorem State.speed_setEntry (f : FrameId) (e : FrameEntry) (i : FrameId) :
    (s.setEntry f e).speed i = s.speed i := rfl
@[simp] theorem State.speed_setDelivery (f : FrameId) (r : Delivery) (i : FrameId) :
    (s.setDelivery f r).speed i = s.speed i := rfl
@[simp] theorem State.speed_setMap (f : FrameId) (m : FrameMap) (i : FrameId) :
    (s.setMap f m).speed i = s.speed i := rfl
@[simp] theorem State.speed_setRogues (l : List RogueEntry) (i : FrameId) : (s.setRogues l).speed i = s.speed i := rfl
@[simp] theorem State.speed_setRobot (k : RobotId) (r : Robot) (i : FrameId) :
    (s.setRobot k r).speed i = s.speed i := rfl
@[simp] theorem State.speed_setVerify (l : List VerifyEntry) (i : FrameId) : (s.setVerify l).speed i = s.speed i := rfl
@[simp] theorem State.speed_setEnabling (x : FrameId) (n : Nat) (i : FrameId) : (s.setEnabling x n).speed i = s.speed i := rfl
@[simp] theorem State.speed_setAisle (a : AisleId) (r : Aisle) (i : FrameId) :
    (s.setAisle a r).speed i = s.speed i := rfl
@[simp] theorem State.speed_setWaiting (l : List PendingReservation) (i : FrameId) :
    (s.setWaiting l).speed i = s.speed i := rfl
@[simp] theorem State.speed_setClaimed (d : DofferId) (o : Option FrameId) (i : FrameId) :
    (s.setClaimed d o).speed i = s.speed i := rfl
@[simp] theorem State.speed_setCycle (f : FrameId) (r : FrameCycle) (i : FrameId) :
    (s.setCycle f r).speed i = s.speed i := rfl
@[simp] theorem State.speed_setDoffer (d : DofferId) (r : Doffer) (i : FrameId) :
    (s.setDoffer d r).speed i = s.speed i := rfl
@[simp] theorem State.speed_setQueue (q : List FrameId) (i : FrameId) : (s.setQueue q).speed i = s.speed i := rfl
@[simp] theorem State.speed_setGroup (f : FrameId) (g : GroupId) (r : Option Group) (i : FrameId) :
    (s.setGroup f g r).speed i = s.speed i := rfl
@[simp] theorem State.speed_setSet (l : List SetEntry) (i : FrameId) : (s.setSet l).speed i = s.speed i := rfl
@[simp] theorem State.speed_setCarrier (c : CarrierId) (r : Carrier) (i : FrameId) :
    (s.setCarrier c r).speed i = s.speed i := rfl
@[simp] theorem State.speed_setCount (f : FrameId) (r : CountRecord) (i : FrameId) :
    (s.setCount f r).speed i = s.speed i := rfl
@[simp] theorem State.speed_setSupervision (r : Supervision) (i : FrameId) :
    (s.setSupervision r).speed i = s.speed i := rfl
@[simp] theorem State.speed_setValid (v : Bool) (i : FrameId) : (s.setValid v).speed i = s.speed i := rfl
@[simp] theorem State.speed_reach (t : Nat) (i : FrameId) : (s.reach t).speed i = s.speed i := rfl
@[simp] theorem State.speed_emit (h : Instr) (i : FrameId) : (s.emit h).speed i = s.speed i := rfl
@[simp] theorem State.speed_emitAll (hs : List Instr) (i : FrameId) : (s.emitAll hs).speed i = s.speed i := rfl
@[simp] theorem State.speed_drop (h : Instr) (i : FrameId) : (s.drop h).speed i = s.speed i := rfl
@[simp] theorem State.speed_drew (n : Nat) (i : FrameId) : (s.drew n).speed i = s.speed i := rfl
@[simp] theorem State.deliveryRecord_setUpQueue (q : List Telegram) (i : FrameId) :
    (s.setUpQueue q).deliveryRecord i = s.deliveryRecord i := rfl
@[simp] theorem State.deliveryRecord_setFloorQueue (q : List Telegram) (i : FrameId) :
    (s.setFloorQueue q).deliveryRecord i = s.deliveryRecord i := rfl
@[simp] theorem State.deliveryRecord_bump (c : LinkCounter) (i : FrameId) :
    (s.bump c).deliveryRecord i = s.deliveryRecord i := rfl
@[simp] theorem State.deliveryRecord_latch (x : LineFlag) (i : FrameId) :
    (s.latch x).deliveryRecord i = s.deliveryRecord i := rfl
@[simp] theorem State.deliveryRecord_setEntry (f : FrameId) (e : FrameEntry) (i : FrameId) :
    (s.setEntry f e).deliveryRecord i = s.deliveryRecord i := rfl
@[simp] theorem State.deliveryRecord_setMap (f : FrameId) (m : FrameMap) (i : FrameId) :
    (s.setMap f m).deliveryRecord i = s.deliveryRecord i := rfl
@[simp] theorem State.deliveryRecord_setRogues (l : List RogueEntry) (i : FrameId) :
    (s.setRogues l).deliveryRecord i = s.deliveryRecord i := rfl
@[simp] theorem State.deliveryRecord_setRobot (k : RobotId) (r : Robot) (i : FrameId) :
    (s.setRobot k r).deliveryRecord i = s.deliveryRecord i := rfl
@[simp] theorem State.deliveryRecord_setVerify (l : List VerifyEntry) (i : FrameId) :
    (s.setVerify l).deliveryRecord i = s.deliveryRecord i := rfl
@[simp] theorem State.deliveryRecord_setEnabling (x : FrameId) (n : Nat) (i : FrameId) :
    (s.setEnabling x n).deliveryRecord i = s.deliveryRecord i := rfl
@[simp] theorem State.deliveryRecord_setAisle (a : AisleId) (r : Aisle) (i : FrameId) :
    (s.setAisle a r).deliveryRecord i = s.deliveryRecord i := rfl
@[simp] theorem State.deliveryRecord_setWaiting (l : List PendingReservation) (i : FrameId) :
    (s.setWaiting l).deliveryRecord i = s.deliveryRecord i := rfl
@[simp] theorem State.deliveryRecord_setClaimed (d : DofferId) (o : Option FrameId) (i : FrameId) :
    (s.setClaimed d o).deliveryRecord i = s.deliveryRecord i := rfl
@[simp] theorem State.deliveryRecord_setCycle (f : FrameId) (r : FrameCycle) (i : FrameId) :
    (s.setCycle f r).deliveryRecord i = s.deliveryRecord i := rfl
@[simp] theorem State.deliveryRecord_setDoffer (d : DofferId) (r : Doffer) (i : FrameId) :
    (s.setDoffer d r).deliveryRecord i = s.deliveryRecord i := rfl
@[simp] theorem State.deliveryRecord_setQueue (q : List FrameId) (i : FrameId) :
    (s.setQueue q).deliveryRecord i = s.deliveryRecord i := rfl
@[simp] theorem State.deliveryRecord_setSpeed (f : FrameId) (r : SpeedRecord) (i : FrameId) :
    (s.setSpeed f r).deliveryRecord i = s.deliveryRecord i := rfl
@[simp] theorem State.deliveryRecord_setGroup (f : FrameId) (g : GroupId) (r : Option Group) (i : FrameId) :
    (s.setGroup f g r).deliveryRecord i = s.deliveryRecord i := rfl
@[simp] theorem State.deliveryRecord_setSet (l : List SetEntry) (i : FrameId) :
    (s.setSet l).deliveryRecord i = s.deliveryRecord i := rfl
@[simp] theorem State.deliveryRecord_setCarrier (c : CarrierId) (r : Carrier) (i : FrameId) :
    (s.setCarrier c r).deliveryRecord i = s.deliveryRecord i := rfl
@[simp] theorem State.deliveryRecord_setCount (f : FrameId) (r : CountRecord) (i : FrameId) :
    (s.setCount f r).deliveryRecord i = s.deliveryRecord i := rfl
@[simp] theorem State.deliveryRecord_setSupervision (r : Supervision) (i : FrameId) :
    (s.setSupervision r).deliveryRecord i = s.deliveryRecord i := rfl
@[simp] theorem State.deliveryRecord_setValid (v : Bool) (i : FrameId) :
    (s.setValid v).deliveryRecord i = s.deliveryRecord i := rfl
@[simp] theorem State.deliveryRecord_reach (t : Nat) (i : FrameId) :
    (s.reach t).deliveryRecord i = s.deliveryRecord i := rfl
@[simp] theorem State.deliveryRecord_emit (h : Instr) (i : FrameId) :
    (s.emit h).deliveryRecord i = s.deliveryRecord i := rfl
@[simp] theorem State.deliveryRecord_emitAll (hs : List Instr) (i : FrameId) :
    (s.emitAll hs).deliveryRecord i = s.deliveryRecord i := rfl
@[simp] theorem State.deliveryRecord_drop (h : Instr) (i : FrameId) :
    (s.drop h).deliveryRecord i = s.deliveryRecord i := rfl
@[simp] theorem State.deliveryRecord_drew (n : Nat) (i : FrameId) :
    (s.drew n).deliveryRecord i = s.deliveryRecord i := rfl
@[simp] theorem State.carrier_setUpQueue (q : List Telegram) (i : CarrierId) :
    (s.setUpQueue q).carrier i = s.carrier i := rfl
@[simp] theorem State.carrier_setFloorQueue (q : List Telegram) (i : CarrierId) :
    (s.setFloorQueue q).carrier i = s.carrier i := rfl
@[simp] theorem State.carrier_bump (c : LinkCounter) (i : CarrierId) : (s.bump c).carrier i = s.carrier i := rfl
@[simp] theorem State.carrier_latch (x : LineFlag) (i : CarrierId) : (s.latch x).carrier i = s.carrier i := rfl
@[simp] theorem State.carrier_setEntry (f : FrameId) (e : FrameEntry) (i : CarrierId) :
    (s.setEntry f e).carrier i = s.carrier i := rfl
@[simp] theorem State.carrier_setDelivery (f : FrameId) (r : Delivery) (i : CarrierId) :
    (s.setDelivery f r).carrier i = s.carrier i := rfl
@[simp] theorem State.carrier_setMap (f : FrameId) (m : FrameMap) (i : CarrierId) :
    (s.setMap f m).carrier i = s.carrier i := rfl
@[simp] theorem State.carrier_setRogues (l : List RogueEntry) (i : CarrierId) :
    (s.setRogues l).carrier i = s.carrier i := rfl
@[simp] theorem State.carrier_setRobot (k : RobotId) (r : Robot) (i : CarrierId) :
    (s.setRobot k r).carrier i = s.carrier i := rfl
@[simp] theorem State.carrier_setVerify (l : List VerifyEntry) (i : CarrierId) :
    (s.setVerify l).carrier i = s.carrier i := rfl
@[simp] theorem State.carrier_setEnabling (x : FrameId) (n : Nat) (i : CarrierId) :
    (s.setEnabling x n).carrier i = s.carrier i := rfl
@[simp] theorem State.carrier_setAisle (a : AisleId) (r : Aisle) (i : CarrierId) :
    (s.setAisle a r).carrier i = s.carrier i := rfl
@[simp] theorem State.carrier_setWaiting (l : List PendingReservation) (i : CarrierId) :
    (s.setWaiting l).carrier i = s.carrier i := rfl
@[simp] theorem State.carrier_setClaimed (d : DofferId) (o : Option FrameId) (i : CarrierId) :
    (s.setClaimed d o).carrier i = s.carrier i := rfl
@[simp] theorem State.carrier_setCycle (f : FrameId) (r : FrameCycle) (i : CarrierId) :
    (s.setCycle f r).carrier i = s.carrier i := rfl
@[simp] theorem State.carrier_setDoffer (d : DofferId) (r : Doffer) (i : CarrierId) :
    (s.setDoffer d r).carrier i = s.carrier i := rfl
@[simp] theorem State.carrier_setQueue (q : List FrameId) (i : CarrierId) :
    (s.setQueue q).carrier i = s.carrier i := rfl
@[simp] theorem State.carrier_setSpeed (f : FrameId) (r : SpeedRecord) (i : CarrierId) :
    (s.setSpeed f r).carrier i = s.carrier i := rfl
@[simp] theorem State.carrier_setGroup (f : FrameId) (g : GroupId) (r : Option Group) (i : CarrierId) :
    (s.setGroup f g r).carrier i = s.carrier i := rfl
@[simp] theorem State.carrier_setSet (l : List SetEntry) (i : CarrierId) : (s.setSet l).carrier i = s.carrier i := rfl
@[simp] theorem State.carrier_setCount (f : FrameId) (r : CountRecord) (i : CarrierId) :
    (s.setCount f r).carrier i = s.carrier i := rfl
@[simp] theorem State.carrier_setSupervision (r : Supervision) (i : CarrierId) :
    (s.setSupervision r).carrier i = s.carrier i := rfl
@[simp] theorem State.carrier_setValid (v : Bool) (i : CarrierId) : (s.setValid v).carrier i = s.carrier i := rfl
@[simp] theorem State.carrier_reach (t : Nat) (i : CarrierId) : (s.reach t).carrier i = s.carrier i := rfl
@[simp] theorem State.carrier_emit (h : Instr) (i : CarrierId) : (s.emit h).carrier i = s.carrier i := rfl
@[simp] theorem State.carrier_emitAll (hs : List Instr) (i : CarrierId) : (s.emitAll hs).carrier i = s.carrier i := rfl
@[simp] theorem State.carrier_drop (h : Instr) (i : CarrierId) : (s.drop h).carrier i = s.carrier i := rfl
@[simp] theorem State.carrier_drew (n : Nat) (i : CarrierId) : (s.drew n).carrier i = s.carrier i := rfl
@[simp] theorem State.count_setUpQueue (q : List Telegram) (i : FrameId) : (s.setUpQueue q).count i = s.count i := rfl
@[simp] theorem State.count_setFloorQueue (q : List Telegram) (i : FrameId) :
    (s.setFloorQueue q).count i = s.count i := rfl
@[simp] theorem State.count_bump (c : LinkCounter) (i : FrameId) : (s.bump c).count i = s.count i := rfl
@[simp] theorem State.count_latch (x : LineFlag) (i : FrameId) : (s.latch x).count i = s.count i := rfl
@[simp] theorem State.count_setEntry (f : FrameId) (e : FrameEntry) (i : FrameId) :
    (s.setEntry f e).count i = s.count i := rfl
@[simp] theorem State.count_setDelivery (f : FrameId) (r : Delivery) (i : FrameId) :
    (s.setDelivery f r).count i = s.count i := rfl
@[simp] theorem State.count_setMap (f : FrameId) (m : FrameMap) (i : FrameId) :
    (s.setMap f m).count i = s.count i := rfl
@[simp] theorem State.count_setRogues (l : List RogueEntry) (i : FrameId) : (s.setRogues l).count i = s.count i := rfl
@[simp] theorem State.count_setRobot (k : RobotId) (r : Robot) (i : FrameId) :
    (s.setRobot k r).count i = s.count i := rfl
@[simp] theorem State.count_setVerify (l : List VerifyEntry) (i : FrameId) : (s.setVerify l).count i = s.count i := rfl
@[simp] theorem State.count_setEnabling (x : FrameId) (n : Nat) (i : FrameId) : (s.setEnabling x n).count i = s.count i := rfl
@[simp] theorem State.count_setAisle (a : AisleId) (r : Aisle) (i : FrameId) :
    (s.setAisle a r).count i = s.count i := rfl
@[simp] theorem State.count_setWaiting (l : List PendingReservation) (i : FrameId) :
    (s.setWaiting l).count i = s.count i := rfl
@[simp] theorem State.count_setClaimed (d : DofferId) (o : Option FrameId) (i : FrameId) :
    (s.setClaimed d o).count i = s.count i := rfl
@[simp] theorem State.count_setCycle (f : FrameId) (r : FrameCycle) (i : FrameId) :
    (s.setCycle f r).count i = s.count i := rfl
@[simp] theorem State.count_setDoffer (d : DofferId) (r : Doffer) (i : FrameId) :
    (s.setDoffer d r).count i = s.count i := rfl
@[simp] theorem State.count_setQueue (q : List FrameId) (i : FrameId) : (s.setQueue q).count i = s.count i := rfl
@[simp] theorem State.count_setSpeed (f : FrameId) (r : SpeedRecord) (i : FrameId) :
    (s.setSpeed f r).count i = s.count i := rfl
@[simp] theorem State.count_setGroup (f : FrameId) (g : GroupId) (r : Option Group) (i : FrameId) :
    (s.setGroup f g r).count i = s.count i := rfl
@[simp] theorem State.count_setSet (l : List SetEntry) (i : FrameId) : (s.setSet l).count i = s.count i := rfl
@[simp] theorem State.count_setCarrier (c : CarrierId) (r : Carrier) (i : FrameId) :
    (s.setCarrier c r).count i = s.count i := rfl
@[simp] theorem State.count_setSupervision (r : Supervision) (i : FrameId) :
    (s.setSupervision r).count i = s.count i := rfl
@[simp] theorem State.count_setValid (v : Bool) (i : FrameId) : (s.setValid v).count i = s.count i := rfl
@[simp] theorem State.count_reach (t : Nat) (i : FrameId) : (s.reach t).count i = s.count i := rfl
@[simp] theorem State.count_emit (h : Instr) (i : FrameId) : (s.emit h).count i = s.count i := rfl
@[simp] theorem State.count_emitAll (hs : List Instr) (i : FrameId) : (s.emitAll hs).count i = s.count i := rfl
@[simp] theorem State.count_drop (h : Instr) (i : FrameId) : (s.drop h).count i = s.count i := rfl
@[simp] theorem State.count_drew (n : Nat) (i : FrameId) : (s.drew n).count i = s.count i := rfl
@[simp] theorem State.entry_setUpQueue (q : List Telegram) (i : FrameId) : (s.setUpQueue q).entry i = s.entry i := rfl
@[simp] theorem State.entry_setFloorQueue (q : List Telegram) (i : FrameId) :
    (s.setFloorQueue q).entry i = s.entry i := rfl
@[simp] theorem State.entry_bump (c : LinkCounter) (i : FrameId) : (s.bump c).entry i = s.entry i := rfl
@[simp] theorem State.entry_latch (x : LineFlag) (i : FrameId) : (s.latch x).entry i = s.entry i := rfl
@[simp] theorem State.entry_setDelivery (f : FrameId) (r : Delivery) (i : FrameId) :
    (s.setDelivery f r).entry i = s.entry i := rfl
@[simp] theorem State.entry_setMap (f : FrameId) (m : FrameMap) (i : FrameId) :
    (s.setMap f m).entry i = s.entry i := rfl
@[simp] theorem State.entry_setRogues (l : List RogueEntry) (i : FrameId) : (s.setRogues l).entry i = s.entry i := rfl
@[simp] theorem State.entry_setRobot (k : RobotId) (r : Robot) (i : FrameId) :
    (s.setRobot k r).entry i = s.entry i := rfl
@[simp] theorem State.entry_setVerify (l : List VerifyEntry) (i : FrameId) : (s.setVerify l).entry i = s.entry i := rfl
@[simp] theorem State.entry_setEnabling (x : FrameId) (n : Nat) (i : FrameId) : (s.setEnabling x n).entry i = s.entry i := rfl
@[simp] theorem State.entry_setAisle (a : AisleId) (r : Aisle) (i : FrameId) :
    (s.setAisle a r).entry i = s.entry i := rfl
@[simp] theorem State.entry_setWaiting (l : List PendingReservation) (i : FrameId) :
    (s.setWaiting l).entry i = s.entry i := rfl
@[simp] theorem State.entry_setClaimed (d : DofferId) (o : Option FrameId) (i : FrameId) :
    (s.setClaimed d o).entry i = s.entry i := rfl
@[simp] theorem State.entry_setCycle (f : FrameId) (r : FrameCycle) (i : FrameId) :
    (s.setCycle f r).entry i = s.entry i := rfl
@[simp] theorem State.entry_setDoffer (d : DofferId) (r : Doffer) (i : FrameId) :
    (s.setDoffer d r).entry i = s.entry i := rfl
@[simp] theorem State.entry_setQueue (q : List FrameId) (i : FrameId) : (s.setQueue q).entry i = s.entry i := rfl
@[simp] theorem State.entry_setSpeed (f : FrameId) (r : SpeedRecord) (i : FrameId) :
    (s.setSpeed f r).entry i = s.entry i := rfl
@[simp] theorem State.entry_setGroup (f : FrameId) (g : GroupId) (r : Option Group) (i : FrameId) :
    (s.setGroup f g r).entry i = s.entry i := rfl
@[simp] theorem State.entry_setSet (l : List SetEntry) (i : FrameId) : (s.setSet l).entry i = s.entry i := rfl
@[simp] theorem State.entry_setCarrier (c : CarrierId) (r : Carrier) (i : FrameId) :
    (s.setCarrier c r).entry i = s.entry i := rfl
@[simp] theorem State.entry_setCount (f : FrameId) (r : CountRecord) (i : FrameId) :
    (s.setCount f r).entry i = s.entry i := rfl
@[simp] theorem State.entry_setSupervision (r : Supervision) (i : FrameId) :
    (s.setSupervision r).entry i = s.entry i := rfl
@[simp] theorem State.entry_setValid (v : Bool) (i : FrameId) : (s.setValid v).entry i = s.entry i := rfl
@[simp] theorem State.entry_reach (t : Nat) (i : FrameId) : (s.reach t).entry i = s.entry i := rfl
@[simp] theorem State.entry_emit (h : Instr) (i : FrameId) : (s.emit h).entry i = s.entry i := rfl
@[simp] theorem State.entry_emitAll (hs : List Instr) (i : FrameId) : (s.emitAll hs).entry i = s.entry i := rfl
@[simp] theorem State.entry_drop (h : Instr) (i : FrameId) : (s.drop h).entry i = s.entry i := rfl
@[simp] theorem State.entry_drew (n : Nat) (i : FrameId) : (s.drew n).entry i = s.entry i := rfl
@[simp] theorem State.enabled_setUpQueue (q : List Telegram) (i : FrameId) :
    (s.setUpQueue q).enabled i = s.enabled i := rfl
@[simp] theorem State.enabled_setFloorQueue (q : List Telegram) (i : FrameId) :
    (s.setFloorQueue q).enabled i = s.enabled i := rfl
@[simp] theorem State.enabled_bump (c : LinkCounter) (i : FrameId) : (s.bump c).enabled i = s.enabled i := rfl
@[simp] theorem State.enabled_latch (x : LineFlag) (i : FrameId) : (s.latch x).enabled i = s.enabled i := rfl
@[simp] theorem State.enabled_setDelivery (f : FrameId) (r : Delivery) (i : FrameId) :
    (s.setDelivery f r).enabled i = s.enabled i := rfl
@[simp] theorem State.enabled_setMap (f : FrameId) (m : FrameMap) (i : FrameId) :
    (s.setMap f m).enabled i = s.enabled i := rfl
@[simp] theorem State.enabled_setRogues (l : List RogueEntry) (i : FrameId) :
    (s.setRogues l).enabled i = s.enabled i := rfl
@[simp] theorem State.enabled_setRobot (k : RobotId) (r : Robot) (i : FrameId) :
    (s.setRobot k r).enabled i = s.enabled i := rfl
@[simp] theorem State.enabled_setVerify (l : List VerifyEntry) (i : FrameId) :
    (s.setVerify l).enabled i = s.enabled i := rfl
@[simp] theorem State.enabled_setEnabling (x : FrameId) (n : Nat) (i : FrameId) :
    (s.setEnabling x n).enabled i = s.enabled i := rfl
@[simp] theorem State.enabled_setAisle (a : AisleId) (r : Aisle) (i : FrameId) :
    (s.setAisle a r).enabled i = s.enabled i := rfl
@[simp] theorem State.enabled_setWaiting (l : List PendingReservation) (i : FrameId) :
    (s.setWaiting l).enabled i = s.enabled i := rfl
@[simp] theorem State.enabled_setClaimed (d : DofferId) (o : Option FrameId) (i : FrameId) :
    (s.setClaimed d o).enabled i = s.enabled i := rfl
@[simp] theorem State.enabled_setCycle (f : FrameId) (r : FrameCycle) (i : FrameId) :
    (s.setCycle f r).enabled i = s.enabled i := rfl
@[simp] theorem State.enabled_setDoffer (d : DofferId) (r : Doffer) (i : FrameId) :
    (s.setDoffer d r).enabled i = s.enabled i := rfl
@[simp] theorem State.enabled_setQueue (q : List FrameId) (i : FrameId) : (s.setQueue q).enabled i = s.enabled i := rfl
@[simp] theorem State.enabled_setSpeed (f : FrameId) (r : SpeedRecord) (i : FrameId) :
    (s.setSpeed f r).enabled i = s.enabled i := rfl
@[simp] theorem State.enabled_setGroup (f : FrameId) (g : GroupId) (r : Option Group) (i : FrameId) :
    (s.setGroup f g r).enabled i = s.enabled i := rfl
@[simp] theorem State.enabled_setSet (l : List SetEntry) (i : FrameId) : (s.setSet l).enabled i = s.enabled i := rfl
@[simp] theorem State.enabled_setCarrier (c : CarrierId) (r : Carrier) (i : FrameId) :
    (s.setCarrier c r).enabled i = s.enabled i := rfl
@[simp] theorem State.enabled_setCount (f : FrameId) (r : CountRecord) (i : FrameId) :
    (s.setCount f r).enabled i = s.enabled i := rfl
@[simp] theorem State.enabled_setSupervision (r : Supervision) (i : FrameId) :
    (s.setSupervision r).enabled i = s.enabled i := rfl
@[simp] theorem State.enabled_setValid (v : Bool) (i : FrameId) : (s.setValid v).enabled i = s.enabled i := rfl
@[simp] theorem State.enabled_reach (t : Nat) (i : FrameId) : (s.reach t).enabled i = s.enabled i := rfl
@[simp] theorem State.enabled_emit (h : Instr) (i : FrameId) : (s.emit h).enabled i = s.enabled i := rfl
@[simp] theorem State.enabled_emitAll (hs : List Instr) (i : FrameId) : (s.emitAll hs).enabled i = s.enabled i := rfl
@[simp] theorem State.enabled_drop (h : Instr) (i : FrameId) : (s.drop h).enabled i = s.enabled i := rfl
@[simp] theorem State.enabled_drew (n : Nat) (i : FrameId) : (s.drew n).enabled i = s.enabled i := rfl
@[simp] theorem State.article_setUpQueue (q : List Telegram) (i : FrameId) :
    (s.setUpQueue q).article i = s.article i := rfl
@[simp] theorem State.article_setFloorQueue (q : List Telegram) (i : FrameId) :
    (s.setFloorQueue q).article i = s.article i := rfl
@[simp] theorem State.article_bump (c : LinkCounter) (i : FrameId) : (s.bump c).article i = s.article i := rfl
@[simp] theorem State.article_latch (x : LineFlag) (i : FrameId) : (s.latch x).article i = s.article i := rfl
@[simp] theorem State.article_setDelivery (f : FrameId) (r : Delivery) (i : FrameId) :
    (s.setDelivery f r).article i = s.article i := rfl
@[simp] theorem State.article_setMap (f : FrameId) (m : FrameMap) (i : FrameId) :
    (s.setMap f m).article i = s.article i := rfl
@[simp] theorem State.article_setRogues (l : List RogueEntry) (i : FrameId) :
    (s.setRogues l).article i = s.article i := rfl
@[simp] theorem State.article_setRobot (k : RobotId) (r : Robot) (i : FrameId) :
    (s.setRobot k r).article i = s.article i := rfl
@[simp] theorem State.article_setVerify (l : List VerifyEntry) (i : FrameId) :
    (s.setVerify l).article i = s.article i := rfl
@[simp] theorem State.article_setEnabling (x : FrameId) (n : Nat) (i : FrameId) :
    (s.setEnabling x n).article i = s.article i := rfl
@[simp] theorem State.article_setAisle (a : AisleId) (r : Aisle) (i : FrameId) :
    (s.setAisle a r).article i = s.article i := rfl
@[simp] theorem State.article_setWaiting (l : List PendingReservation) (i : FrameId) :
    (s.setWaiting l).article i = s.article i := rfl
@[simp] theorem State.article_setClaimed (d : DofferId) (o : Option FrameId) (i : FrameId) :
    (s.setClaimed d o).article i = s.article i := rfl
@[simp] theorem State.article_setCycle (f : FrameId) (r : FrameCycle) (i : FrameId) :
    (s.setCycle f r).article i = s.article i := rfl
@[simp] theorem State.article_setDoffer (d : DofferId) (r : Doffer) (i : FrameId) :
    (s.setDoffer d r).article i = s.article i := rfl
@[simp] theorem State.article_setQueue (q : List FrameId) (i : FrameId) : (s.setQueue q).article i = s.article i := rfl
@[simp] theorem State.article_setSpeed (f : FrameId) (r : SpeedRecord) (i : FrameId) :
    (s.setSpeed f r).article i = s.article i := rfl
@[simp] theorem State.article_setGroup (f : FrameId) (g : GroupId) (r : Option Group) (i : FrameId) :
    (s.setGroup f g r).article i = s.article i := rfl
@[simp] theorem State.article_setSet (l : List SetEntry) (i : FrameId) : (s.setSet l).article i = s.article i := rfl
@[simp] theorem State.article_setCarrier (c : CarrierId) (r : Carrier) (i : FrameId) :
    (s.setCarrier c r).article i = s.article i := rfl
@[simp] theorem State.article_setCount (f : FrameId) (r : CountRecord) (i : FrameId) :
    (s.setCount f r).article i = s.article i := rfl
@[simp] theorem State.article_setSupervision (r : Supervision) (i : FrameId) :
    (s.setSupervision r).article i = s.article i := rfl
@[simp] theorem State.article_setValid (v : Bool) (i : FrameId) : (s.setValid v).article i = s.article i := rfl
@[simp] theorem State.article_reach (t : Nat) (i : FrameId) : (s.reach t).article i = s.article i := rfl
@[simp] theorem State.article_emit (h : Instr) (i : FrameId) : (s.emit h).article i = s.article i := rfl
@[simp] theorem State.article_emitAll (hs : List Instr) (i : FrameId) : (s.emitAll hs).article i = s.article i := rfl
@[simp] theorem State.article_drop (h : Instr) (i : FrameId) : (s.drop h).article i = s.article i := rfl
@[simp] theorem State.article_drew (n : Nat) (i : FrameId) : (s.drew n).article i = s.article i := rfl

end Machine

end Sys2Proof
end

