-- ==== Sys2Proof/Laws/Ops.lean ====
section
/-! SUPPORT. What each shared operation can do: transmit queues, originated telegrams, replies, alarms, hand-offs, the checks
of a report and of a management telegram. -/

namespace Sys2Proof.Machine

variable (s : State)

/-! ### Transmit queues (R13) -/

/-- All that an offer to the uplink queue can do: append, or count and latch the loss. -/
theorem State.offerUp_cases (t : Telegram) :
    (s.link.upQueue.length < 64 ∧ s.offerUp t = s.setUpQueue (s.link.upQueue ++ [t]))
      ∨ (64 ≤ s.link.upQueue.length ∧ s.offerUp t = (s.bump .partLossUp).latch .partLoss) := by
  unfold State.offerUp
  split
  · exact .inl ⟨‹_›, rfl⟩
  · exact .inr ⟨by omega, rfl⟩

theorem State.offerCopy_cases (t : Telegram) :
    (s.link.upQueue.length < 56 ∧ s.offerCopy t = s.setUpQueue (s.link.upQueue ++ [t]))
      ∨ (56 ≤ s.link.upQueue.length ∧ s.offerCopy t = (s.bump .upCopyLoss).latch .upCopyLoss) := by
  unfold State.offerCopy
  split
  · exact .inl ⟨‹_›, rfl⟩
  · exact .inr ⟨by omega, rfl⟩

theorem State.offerFloor_cases (t : Telegram) :
    (s.link.floorQueue.length < 64 ∧ s.offerFloor t = s.setFloorQueue (s.link.floorQueue ++ [t]))
      ∨ (64 ≤ s.link.floorQueue.length ∧ s.offerFloor t = (s.bump .partLossFloor).latch .partLoss) := by
  unfold State.offerFloor
  split
  · exact .inl ⟨‹_›, rfl⟩
  · exact .inr ⟨by omega, rfl⟩

theorem State.offerPass_cases (t : Telegram) :
    (s.link.floorQueue.length < 48 ∧ s.offerPass t = s.setFloorQueue (s.link.floorQueue ++ [t]))
      ∨ (48 ≤ s.link.floorQueue.length ∧ s.offerPass t = (s.bump .downPassLoss).latch .downPassLoss) := by
  unfold State.offerPass
  split
  · exact .inl ⟨‹_›, rfl⟩
  · exact .inr ⟨by omega, rfl⟩

/-! ### Counters and flags (R15, R37) -/

theorem LinkCounter.place_inj : ∀ c d : LinkCounter, c.place = d.place → c = d := by
  intro c d; cases c <;> cases d <;> simp [LinkCounter.place]

theorem State.counter_bump (c d : LinkCounter) :
    (s.bump c).counter d = if d = c then min (s.counter d + 1) 65535 else s.counter d := by
  unfold State.counter
  rw [State.bump_link, Tab.get_modify]
  by_cases h : d = c
  · simp [h]
  · have : c.place ≠ d.place := fun e => h (LinkCounter.place_inj _ _ e).symm
    simp [h, this]

@[simp] theorem State.counter_latch (x : LineFlag) (d : LinkCounter) : (s.latch x).counter d = s.counter d := rfl

@[simp] theorem State.flagSet_latch (x : LineFlag) : (s.latch x).flagSet x = true := by
  cases x <;> simp [State.flagSet, LineFlag.bit]

/-! An offer reaches the link and the line flags alone. -/

@[simp] theorem State.offerUp_dau (t : Telegram) : (s.offerUp t).dau = s.dau := by unfold State.offerUp; split <;> rfl
@[simp] theorem State.offerUp_smu (t : Telegram) : (s.offerUp t).smu = s.smu := by unfold State.offerUp; split <;> rfl
@[simp] theorem State.offerUp_pcd (t : Telegram) : (s.offerUp t).pcd = s.pcd := by unfold State.offerUp; split <;> rfl
@[simp] theorem State.offerUp_aou (t : Telegram) : (s.offerUp t).aou = s.aou := by unfold State.offerUp; split <;> rfl
@[simp] theorem State.offerUp_dcu (t : Telegram) : (s.offerUp t).dcu = s.dcu := by unfold State.offerUp; split <;> rfl
@[simp] theorem State.offerUp_spu (t : Telegram) : (s.offerUp t).spu = s.spu := by unfold State.offerUp; split <;> rfl
@[simp] theorem State.offerUp_rsu (t : Telegram) : (s.offerUp t).rsu = s.rsu := by unfold State.offerUp; split <;> rfl
@[simp] theorem State.offerUp_scu (t : Telegram) : (s.offerUp t).scu = s.scu := by unfold State.offerUp; split <;> rfl
@[simp] theorem State.offerUp_ssu (t : Telegram) : (s.offerUp t).ssu = s.ssu := by unfold State.offerUp; split <;> rfl
@[simp] theorem State.offerUp_retention (t : Telegram) : (s.offerUp t).retention = s.retention := by unfold State.offerUp; split <;> rfl
@[simp] theorem State.offerUp_power (t : Telegram) : (s.offerUp t).power = s.power := by unfold State.offerUp; split <;> rfl
@[simp] theorem State.offerUp_rstnLow (t : Telegram) : (s.offerUp t).rstnLow = s.rstnLow := by unfold State.offerUp; split <;> rfl
@[simp] theorem State.offerUp_supply (t : Telegram) : (s.offerUp t).supply = s.supply := by unfold State.offerUp; split <;> rfl
@[simp] theorem State.offerUp_timer (t : Telegram) : (s.offerUp t).timer = s.timer := by unfold State.offerUp; split <;> rfl
@[simp] theorem State.offerUp_ticks (t : Telegram) : (s.offerUp t).ticks = s.ticks := by unfold State.offerUp; split <;> rfl
@[simp] theorem State.offerUp_inFlight (t : Telegram) : (s.offerUp t).inFlight = s.inFlight := by unfold State.offerUp; split <;> rfl
@[simp] theorem State.offerUp_freeUses (t : Telegram) : (s.offerUp t).freeUses = s.freeUses := by unfold State.offerUp; split <;> rfl
@[simp] theorem State.offerUp_pending (t : Telegram) : (s.offerUp t).pending = s.pending := by unfold State.offerUp; split <;> rfl
@[simp] theorem State.offerUp_store_frames (t : Telegram) : (s.offerUp t).store.frames = s.store.frames := by unfold State.offerUp; split <;> rfl
@[simp] theorem State.offerUp_store_articles (t : Telegram) : (s.offerUp t).store.articles = s.store.articles := by unfold State.offerUp; split <;> rfl
@[simp] theorem State.offerUp_store_zones (t : Telegram) : (s.offerUp t).store.zones = s.store.zones := by unfold State.offerUp; split <;> rfl
@[simp] theorem State.offerUp_store_robots (t : Telegram) : (s.offerUp t).store.robots = s.store.robots := by unfold State.offerUp; split <;> rfl
@[simp] theorem State.offerUp_store_doffers (t : Telegram) : (s.offerUp t).store.doffers = s.store.doffers := by unfold State.offerUp; split <;> rfl
@[simp] theorem State.offerUp_store_carriers (t : Telegram) : (s.offerUp t).store.carriers = s.store.carriers := by unfold State.offerUp; split <;> rfl
@[simp] theorem State.offerUp_store_settings (t : Telegram) : (s.offerUp t).store.settings = s.store.settings := by unfold State.offerUp; split <;> rfl
@[simp] theorem State.offerUp_store_resetWait (t : Telegram) : (s.offerUp t).store.resetWait = s.store.resetWait := by unfold State.offerUp; split <;> rfl
@[simp] theorem State.offerUp_store_lineNumber (t : Telegram) : (s.offerUp t).store.lineNumber = s.store.lineNumber := by unfold State.offerUp; split <;> rfl
@[simp] theorem State.offerUp_store_heldAlarms (t : Telegram) : (s.offerUp t).store.heldAlarms = s.store.heldAlarms := by unfold State.offerUp; split <;> rfl
@[simp] theorem State.offerUp_disposition (t : Telegram) : (s.offerUp t).link.disposition = s.link.disposition := by
  unfold State.offerUp; split <;> rfl
@[simp] theorem State.offerUp_floorQueue (t : Telegram) : (s.offerUp t).link.floorQueue = s.link.floorQueue := by unfold State.offerUp; split <;> rfl
@[simp] theorem State.offerCopy_dau (t : Telegram) : (s.offerCopy t).dau = s.dau := by unfold State.offerCopy; split <;> rfl
@[simp] theorem State.offerCopy_smu (t : Telegram) : (s.offerCopy t).smu = s.smu := by unfold State.offerCopy; split <;> rfl
@[simp] theorem State.offerCopy_pcd (t : Telegram) : (s.offerCopy t).pcd = s.pcd := by unfold State.offerCopy; split <;> rfl
@[simp] theorem State.offerCopy_aou (t : Telegram) : (s.offerCopy t).aou = s.aou := by unfold State.offerCopy; split <;> rfl
@[simp] theorem State.offerCopy_dcu (t : Telegram) : (s.offerCopy t).dcu = s.dcu := by unfold State.offerCopy; split <;> rfl
@[simp] theorem State.offerCopy_spu (t : Telegram) : (s.offerCopy t).spu = s.spu := by unfold State.offerCopy; split <;> rfl
@[simp] theorem State.offerCopy_rsu (t : Telegram) : (s.offerCopy t).rsu = s.rsu := by unfold State.offerCopy; split <;> rfl
@[simp] theorem State.offerCopy_scu (t : Telegram) : (s.offerCopy t).scu = s.scu := by unfold State.offerCopy; split <;> rfl
@[simp] theorem State.offerCopy_ssu (t : Telegram) : (s.offerCopy t).ssu = s.ssu := by unfold State.offerCopy; split <;> rfl
@[simp] theorem State.offerCopy_retention (t : Telegram) : (s.offerCopy t).retention = s.retention := by unfold State.offerCopy; split <;> rfl
@[simp] theorem State.offerCopy_power (t : Telegram) : (s.offerCopy t).power = s.power := by unfold State.offerCopy; split <;> rfl
@[simp] theorem State.offerCopy_rstnLow (t : Telegram) : (s.offerCopy t).rstnLow = s.rstnLow := by unfold State.offerCopy; split <;> rfl
@[simp] theorem State.offerCopy_supply (t : Telegram) : (s.offerCopy t).supply = s.supply := by unfold State.offerCopy; split <;> rfl
@[simp] theorem State.offerCopy_timer (t : Telegram) : (s.offerCopy t).timer = s.timer := by unfold State.offerCopy; split <;> rfl
@[simp] theorem State.offerCopy_ticks (t : Telegram) : (s.offerCopy t).ticks = s.ticks := by unfold State.offerCopy; split <;> rfl
@[simp] theorem State.offerCopy_inFlight (t : Telegram) : (s.offerCopy t).inFlight = s.inFlight := by unfold State.offerCopy; split <;> rfl
@[simp] theorem State.offerCopy_freeUses (t : Telegram) : (s.offerCopy t).freeUses = s.freeUses := by unfold State.offerCopy; split <;> rfl
@[simp] theorem State.offerCopy_pending (t : Telegram) : (s.offerCopy t).pending = s.pending := by unfold State.offerCopy; split <;> rfl
@[simp] theorem State.offerCopy_store_frames (t : Telegram) : (s.offerCopy t).store.frames = s.store.frames := by unfold State.offerCopy; split <;> rfl
@[simp] theorem State.offerCopy_store_articles (t : Telegram) : (s.offerCopy t).store.articles = s.store.articles := by unfold State.offerCopy; split <;> rfl
@[simp] theorem State.offerCopy_store_zones (t : Telegram) : (s.offerCopy t).store.zones = s.store.zones := by unfold State.offerCopy; split <;> rfl
@[simp] theorem State.offerCopy_store_robots (t : Telegram) : (s.offerCopy t).store.robots = s.store.robots := by unfold State.offerCopy; split <;> rfl
@[simp] theorem State.offerCopy_store_doffers (t : Telegram) : (s.offerCopy t).store.doffers = s.store.doffers := by unfold State.offerCopy; split <;> rfl
@[simp] theorem State.offerCopy_store_carriers (t : Telegram) : (s.offerCopy t).store.carriers = s.store.carriers := by unfold State.offerCopy; split <;> rfl
@[simp] theorem State.offerCopy_store_settings (t : Telegram) : (s.offerCopy t).store.settings = s.store.settings := by unfold State.offerCopy; split <;> rfl
@[simp] theorem State.offerCopy_store_resetWait (t : Telegram) : (s.offerCopy t).store.resetWait = s.store.resetWait := by unfold State.offerCopy; split <;> rfl
@[simp] theorem State.offerCopy_store_lineNumber (t : Telegram) : (s.offerCopy t).store.lineNumber = s.store.lineNumber := by unfold State.offerCopy; split <;> rfl
@[simp] theorem State.offerCopy_store_heldAlarms (t : Telegram) : (s.offerCopy t).store.heldAlarms = s.store.heldAlarms := by unfold State.offerCopy; split <;> rfl
@[simp] theorem State.offerCopy_disposition (t : Telegram) : (s.offerCopy t).link.disposition = s.link.disposition := by
  unfold State.offerCopy; split <;> rfl
@[simp] theorem State.offerCopy_floorQueue (t : Telegram) : (s.offerCopy t).link.floorQueue = s.link.floorQueue := by unfold State.offerCopy; split <;> rfl
@[simp] theorem State.offerFloor_dau (t : Telegram) : (s.offerFloor t).dau = s.dau := by unfold State.offerFloor; split <;> rfl
@[simp] theorem State.offerFloor_smu (t : Telegram) : (s.offerFloor t).smu = s.smu := by unfold State.offerFloor; split <;> rfl
@[simp] theorem State.offerFloor_pcd (t : Telegram) : (s.offerFloor t).pcd = s.pcd := by unfold State.offerFloor; split <;> rfl
@[simp] theorem State.offerFloor_aou (t : Telegram) : (s.offerFloor t).aou = s.aou := by unfold State.offerFloor; split <;> rfl
@[simp] theorem State.offerFloor_dcu (t : Telegram) : (s.offerFloor t).dcu = s.dcu := by unfold State.offerFloor; split <;> rfl
@[simp] theorem State.offerFloor_spu (t : Telegram) : (s.offerFloor t).spu = s.spu := by unfold State.offerFloor; split <;> rfl
@[simp] theorem State.offerFloor_rsu (t : Telegram) : (s.offerFloor t).rsu = s.rsu := by unfold State.offerFloor; split <;> rfl
@[simp] theorem State.offerFloor_scu (t : Telegram) : (s.offerFloor t).scu = s.scu := by unfold State.offerFloor; split <;> rfl
@[simp] theorem State.offerFloor_ssu (t : Telegram) : (s.offerFloor t).ssu = s.ssu := by unfold State.offerFloor; split <;> rfl
@[simp] theorem State.offerFloor_retention (t : Telegram) : (s.offerFloor t).retention = s.retention := by unfold State.offerFloor; split <;> rfl
@[simp] theorem State.offerFloor_power (t : Telegram) : (s.offerFloor t).power = s.power := by unfold State.offerFloor; split <;> rfl
@[simp] theorem State.offerFloor_rstnLow (t : Telegram) : (s.offerFloor t).rstnLow = s.rstnLow := by unfold State.offerFloor; split <;> rfl
@[simp] theorem State.offerFloor_supply (t : Telegram) : (s.offerFloor t).supply = s.supply := by unfold State.offerFloor; split <;> rfl
@[simp] theorem State.offerFloor_timer (t : Telegram) : (s.offerFloor t).timer = s.timer := by unfold State.offerFloor; split <;> rfl
@[simp] theorem State.offerFloor_ticks (t : Telegram) : (s.offerFloor t).ticks = s.ticks := by unfold State.offerFloor; split <;> rfl
@[simp] theorem State.offerFloor_inFlight (t : Telegram) : (s.offerFloor t).inFlight = s.inFlight := by unfold State.offerFloor; split <;> rfl
@[simp] theorem State.offerFloor_freeUses (t : Telegram) : (s.offerFloor t).freeUses = s.freeUses := by unfold State.offerFloor; split <;> rfl
@[simp] theorem State.offerFloor_pending (t : Telegram) : (s.offerFloor t).pending = s.pending := by unfold State.offerFloor; split <;> rfl
@[simp] theorem State.offerFloor_store_frames (t : Telegram) : (s.offerFloor t).store.frames = s.store.frames := by unfold State.offerFloor; split <;> rfl
@[simp] theorem State.offerFloor_store_articles (t : Telegram) : (s.offerFloor t).store.articles = s.store.articles := by unfold State.offerFloor; split <;> rfl
@[simp] theorem State.offerFloor_store_zones (t : Telegram) : (s.offerFloor t).store.zones = s.store.zones := by unfold State.offerFloor; split <;> rfl
@[simp] theorem State.offerFloor_store_robots (t : Telegram) : (s.offerFloor t).store.robots = s.store.robots := by unfold State.offerFloor; split <;> rfl
@[simp] theorem State.offerFloor_store_doffers (t : Telegram) : (s.offerFloor t).store.doffers = s.store.doffers := by unfold State.offerFloor; split <;> rfl
@[simp] theorem State.offerFloor_store_carriers (t : Telegram) : (s.offerFloor t).store.carriers = s.store.carriers := by unfold State.offerFloor; split <;> rfl
@[simp] theorem State.offerFloor_store_settings (t : Telegram) : (s.offerFloor t).store.settings = s.store.settings := by unfold State.offerFloor; split <;> rfl
@[simp] theorem State.offerFloor_store_resetWait (t : Telegram) : (s.offerFloor t).store.resetWait = s.store.resetWait := by unfold State.offerFloor; split <;> rfl
@[simp] theorem State.offerFloor_store_lineNumber (t : Telegram) : (s.offerFloor t).store.lineNumber = s.store.lineNumber := by unfold State.offerFloor; split <;> rfl
@[simp] theorem State.offerFloor_store_heldAlarms (t : Telegram) : (s.offerFloor t).store.heldAlarms = s.store.heldAlarms := by unfold State.offerFloor; split <;> rfl
@[simp] theorem State.offerFloor_disposition (t : Telegram) : (s.offerFloor t).link.disposition = s.link.disposition := by
  unfold State.offerFloor; split <;> rfl
@[simp] theorem State.offerFloor_upQueue (t : Telegram) : (s.offerFloor t).link.upQueue = s.link.upQueue := by unfold State.offerFloor; split <;> rfl
@[simp] theorem State.offerPass_dau (t : Telegram) : (s.offerPass t).dau = s.dau := by unfold State.offerPass; split <;> rfl
@[simp] theorem State.offerPass_smu (t : Telegram) : (s.offerPass t).smu = s.smu := by unfold State.offerPass; split <;> rfl
@[simp] theorem State.offerPass_pcd (t : Telegram) : (s.offerPass t).pcd = s.pcd := by unfold State.offerPass; split <;> rfl
@[simp] theorem State.offerPass_aou (t : Telegram) : (s.offerPass t).aou = s.aou := by unfold State.offerPass; split <;> rfl
@[simp] theorem State.offerPass_dcu (t : Telegram) : (s.offerPass t).dcu = s.dcu := by unfold State.offerPass; split <;> rfl
@[simp] theorem State.offerPass_spu (t : Telegram) : (s.offerPass t).spu = s.spu := by unfold State.offerPass; split <;> rfl
@[simp] theorem State.offerPass_rsu (t : Telegram) : (s.offerPass t).rsu = s.rsu := by unfold State.offerPass; split <;> rfl
@[simp] theorem State.offerPass_scu (t : Telegram) : (s.offerPass t).scu = s.scu := by unfold State.offerPass; split <;> rfl
@[simp] theorem State.offerPass_ssu (t : Telegram) : (s.offerPass t).ssu = s.ssu := by unfold State.offerPass; split <;> rfl
@[simp] theorem State.offerPass_retention (t : Telegram) : (s.offerPass t).retention = s.retention := by unfold State.offerPass; split <;> rfl
@[simp] theorem State.offerPass_power (t : Telegram) : (s.offerPass t).power = s.power := by unfold State.offerPass; split <;> rfl
@[simp] theorem State.offerPass_rstnLow (t : Telegram) : (s.offerPass t).rstnLow = s.rstnLow := by unfold State.offerPass; split <;> rfl
@[simp] theorem State.offerPass_supply (t : Telegram) : (s.offerPass t).supply = s.supply := by unfold State.offerPass; split <;> rfl
@[simp] theorem State.offerPass_timer (t : Telegram) : (s.offerPass t).timer = s.timer := by unfold State.offerPass; split <;> rfl
@[simp] theorem State.offerPass_ticks (t : Telegram) : (s.offerPass t).ticks = s.ticks := by unfold State.offerPass; split <;> rfl
@[simp] theorem State.offerPass_inFlight (t : Telegram) : (s.offerPass t).inFlight = s.inFlight := by unfold State.offerPass; split <;> rfl
@[simp] theorem State.offerPass_freeUses (t : Telegram) : (s.offerPass t).freeUses = s.freeUses := by unfold State.offerPass; split <;> rfl
@[simp] theorem State.offerPass_pending (t : Telegram) : (s.offerPass t).pending = s.pending := by unfold State.offerPass; split <;> rfl
@[simp] theorem State.offerPass_store_frames (t : Telegram) : (s.offerPass t).store.frames = s.store.frames := by unfold State.offerPass; split <;> rfl
@[simp] theorem State.offerPass_store_articles (t : Telegram) : (s.offerPass t).store.articles = s.store.articles := by unfold State.offerPass; split <;> rfl
@[simp] theorem State.offerPass_store_zones (t : Telegram) : (s.offerPass t).store.zones = s.store.zones := by unfold State.offerPass; split <;> rfl
@[simp] theorem State.offerPass_store_robots (t : Telegram) : (s.offerPass t).store.robots = s.store.robots := by unfold State.offerPass; split <;> rfl
@[simp] theorem State.offerPass_store_doffers (t : Telegram) : (s.offerPass t).store.doffers = s.store.doffers := by unfold State.offerPass; split <;> rfl
@[simp] theorem State.offerPass_store_carriers (t : Telegram) : (s.offerPass t).store.carriers = s.store.carriers := by unfold State.offerPass; split <;> rfl
@[simp] theorem State.offerPass_store_settings (t : Telegram) : (s.offerPass t).store.settings = s.store.settings := by unfold State.offerPass; split <;> rfl
@[simp] theorem State.offerPass_store_resetWait (t : Telegram) : (s.offerPass t).store.resetWait = s.store.resetWait := by unfold State.offerPass; split <;> rfl
@[simp] theorem State.offerPass_store_lineNumber (t : Telegram) : (s.offerPass t).store.lineNumber = s.store.lineNumber := by unfold State.offerPass; split <;> rfl
@[simp] theorem State.offerPass_store_heldAlarms (t : Telegram) : (s.offerPass t).store.heldAlarms = s.store.heldAlarms := by unfold State.offerPass; split <;> rfl
@[simp] theorem State.offerPass_disposition (t : Telegram) : (s.offerPass t).link.disposition = s.link.disposition := by
  unfold State.offerPass; split <;> rfl
@[simp] theorem State.offerPass_upQueue (t : Telegram) : (s.offerPass t).link.upQueue = s.link.upQueue := by unfold State.offerPass; split <;> rfl
@[simp] theorem State.sendFloor_dau (node kind : Nat) (p : List Byte) : (s.sendFloor node kind p).dau = s.dau := by simp [State.sendFloor]
@[simp] theorem State.sendFloor_smu (node kind : Nat) (p : List Byte) : (s.sendFloor node kind p).smu = s.smu := by simp [State.sendFloor]
@[simp] theorem State.sendFloor_pcd (node kind : Nat) (p : List Byte) : (s.sendFloor node kind p).pcd = s.pcd := by simp [State.sendFloor]
@[simp] theorem State.sendFloor_aou (node kind : Nat) (p : List Byte) : (s.sendFloor node kind p).aou = s.aou := by simp [State.sendFloor]
@[simp] theorem State.sendFloor_dcu (node kind : Nat) (p : List Byte) : (s.sendFloor node kind p).dcu = s.dcu := by simp [State.sendFloor]
@[simp] theorem State.sendFloor_spu (node kind : Nat) (p : List Byte) : (s.sendFloor node kind p).spu = s.spu := by simp [State.sendFloor]
@[simp] theorem State.sendFloor_rsu (node kind : Nat) (p : List Byte) : (s.sendFloor node kind p).rsu = s.rsu := by simp [State.sendFloor]
@[simp] theorem State.sendFloor_scu (node kind : Nat) (p : List Byte) : (s.sendFloor node kind p).scu = s.scu := by simp [State.sendFloor]
@[simp] theorem State.sendFloor_ssu (node kind : Nat) (p : List Byte) : (s.sendFloor node kind p).ssu = s.ssu := by simp [State.sendFloor]
@[simp] theorem State.sendFloor_retention (node kind : Nat) (p : List Byte) : (s.sendFloor node kind p).retention = s.retention := by simp [State.sendFloor]
@[simp] theorem State.sendFloor_power (node kind : Nat) (p : List Byte) : (s.sendFloor node kind p).power = s.power := by simp [State.sendFloor]
@[simp] theorem State.sendFloor_rstnLow (node kind : Nat) (p : List Byte) : (s.sendFloor node kind p).rstnLow = s.rstnLow := by simp [State.sendFloor]
@[simp] theorem State.sendFloor_supply (node kind : Nat) (p : List Byte) : (s.sendFloor node kind p).supply = s.supply := by simp [State.sendFloor]
@[simp] theorem State.sendFloor_timer (node kind : Nat) (p : List Byte) : (s.sendFloor node kind p).timer = s.timer := by simp [State.sendFloor]
@[simp] theorem State.sendFloor_ticks (node kind : Nat) (p : List Byte) : (s.sendFloor node kind p).ticks = s.ticks := by simp [State.sendFloor]
@[simp] theorem State.sendFloor_inFlight (node kind : Nat) (p : List Byte) : (s.sendFloor node kind p).inFlight = s.inFlight := by simp [State.sendFloor]
@[simp] theorem State.sendFloor_freeUses (node kind : Nat) (p : List Byte) : (s.sendFloor node kind p).freeUses = s.freeUses := by simp [State.sendFloor]
@[simp] theorem State.sendFloor_pending (node kind : Nat) (p : List Byte) : (s.sendFloor node kind p).pending = s.pending := by simp [State.sendFloor]
@[simp] theorem State.sendFloor_store_frames (node kind : Nat) (p : List Byte) : (s.sendFloor node kind p).store.frames = s.store.frames := by simp [State.sendFloor]
@[simp] theorem State.sendFloor_store_articles (node kind : Nat) (p : List Byte) : (s.sendFloor node kind p).store.articles = s.store.articles := by simp [State.sendFloor]
@[simp] theorem State.sendFloor_store_zones (node kind : Nat) (p : List Byte) : (s.sendFloor node kind p).store.zones = s.store.zones := by simp [State.sendFloor]
@[simp] theorem State.sendFloor_store_robots (node kind : Nat) (p : List Byte) : (s.sendFloor node kind p).store.robots = s.store.robots := by simp [State.sendFloor]
@[simp] theorem State.sendFloor_store_doffers (node kind : Nat) (p : List Byte) : (s.sendFloor node kind p).store.doffers = s.store.doffers := by simp [State.sendFloor]
@[simp] theorem State.sendFloor_store_carriers (node kind : Nat) (p : List Byte) : (s.sendFloor node kind p).store.carriers = s.store.carriers := by simp [State.sendFloor]
@[simp] theorem State.sendFloor_store_settings (node kind : Nat) (p : List Byte) : (s.sendFloor node kind p).store.settings = s.store.settings := by simp [State.sendFloor]
@[simp] theorem State.sendFloor_store_resetWait (node kind : Nat) (p : List Byte) : (s.sendFloor node kind p).store.resetWait = s.store.resetWait := by simp [State.sendFloor]
@[simp] theorem State.sendFloor_store_lineNumber (node kind : Nat) (p : List Byte) : (s.sendFloor node kind p).store.lineNumber = s.store.lineNumber := by simp [State.sendFloor]
@[simp] theorem State.sendFloor_store_heldAlarms (node kind : Nat) (p : List Byte) : (s.sendFloor node kind p).store.heldAlarms = s.store.heldAlarms := by simp [State.sendFloor]
@[simp] theorem State.sendFloor_disposition (node kind : Nat) (p : List Byte) : (s.sendFloor node kind p).link.disposition = s.link.disposition := by simp [State.sendFloor]
@[simp] theorem State.sendFloor_upQueue (node kind : Nat) (p : List Byte) : (s.sendFloor node kind p).link.upQueue = s.link.upQueue := by simp [State.sendFloor]
@[simp] theorem State.sendUp_dau (kind : Nat) (p : List Byte) : (s.sendUp kind p).dau = s.dau := by simp [State.sendUp]
@[simp] theorem State.sendUp_smu (kind : Nat) (p : List Byte) : (s.sendUp kind p).smu = s.smu := by simp [State.sendUp]
@[simp] theorem State.sendUp_pcd (kind : Nat) (p : List Byte) : (s.sendUp kind p).pcd = s.pcd := by simp [State.sendUp]
@[simp] theorem State.sendUp_aou (kind : Nat) (p : List Byte) : (s.sendUp kind p).aou = s.aou := by simp [State.sendUp]
@[simp] theorem State.sendUp_dcu (kind : Nat) (p : List Byte) : (s.sendUp kind p).dcu = s.dcu := by simp [State.sendUp]
@[simp] theorem State.sendUp_spu (kind : Nat) (p : List Byte) : (s.sendUp kind p).spu = s.spu := by simp [State.sendUp]
@[simp] theorem State.sendUp_rsu (kind : Nat) (p : List Byte) : (s.sendUp kind p).rsu = s.rsu := by simp [State.sendUp]
@[simp] theorem State.sendUp_scu (kind : Nat) (p : List Byte) : (s.sendUp kind p).scu = s.scu := by simp [State.sendUp]
@[simp] theorem State.sendUp_ssu (kind : Nat) (p : List Byte) : (s.sendUp kind p).ssu = s.ssu := by simp [State.sendUp]
@[simp] theorem State.sendUp_retention (kind : Nat) (p : List Byte) : (s.sendUp kind p).retention = s.retention := by simp [State.sendUp]
@[simp] theorem State.sendUp_power (kind : Nat) (p : List Byte) : (s.sendUp kind p).power = s.power := by simp [State.sendUp]
@[simp] theorem State.sendUp_rstnLow (kind : Nat) (p : List Byte) : (s.sendUp kind p).rstnLow = s.rstnLow := by simp [State.sendUp]
@[simp] theorem State.sendUp_supply (kind : Nat) (p : List Byte) : (s.sendUp kind p).supply = s.supply := by simp [State.sendUp]
@[simp] theorem State.sendUp_timer (kind : Nat) (p : List Byte) : (s.sendUp kind p).timer = s.timer := by simp [State.sendUp]
@[simp] theorem State.sendUp_ticks (kind : Nat) (p : List Byte) : (s.sendUp kind p).ticks = s.ticks := by simp [State.sendUp]
@[simp] theorem State.sendUp_inFlight (kind : Nat) (p : List Byte) : (s.sendUp kind p).inFlight = s.inFlight := by simp [State.sendUp]
@[simp] theorem State.sendUp_freeUses (kind : Nat) (p : List Byte) : (s.sendUp kind p).freeUses = s.freeUses := by simp [State.sendUp]
@[simp] theorem State.sendUp_pending (kind : Nat) (p : List Byte) : (s.sendUp kind p).pending = s.pending := by simp [State.sendUp]
@[simp] theorem State.sendUp_store_frames (kind : Nat) (p : List Byte) : (s.sendUp kind p).store.frames = s.store.frames := by simp [State.sendUp]
@[simp] theorem State.sendUp_store_articles (kind : Nat) (p : List Byte) : (s.sendUp kind p).store.articles = s.store.articles := by simp [State.sendUp]
@[simp] theorem State.sendUp_store_zones (kind : Nat) (p : List Byte) : (s.sendUp kind p).store.zones = s.store.zones := by simp [State.sendUp]
@[simp] theorem State.sendUp_store_robots (kind : Nat) (p : List Byte) : (s.sendUp kind p).store.robots = s.store.robots := by simp [State.sendUp]
@[simp] theorem State.sendUp_store_doffers (kind : Nat) (p : List Byte) : (s.sendUp kind p).store.doffers = s.store.doffers := by simp [State.sendUp]
@[simp] theorem State.sendUp_store_carriers (kind : Nat) (p : List Byte) : (s.sendUp kind p).store.carriers = s.store.carriers := by simp [State.sendUp]
@[simp] theorem State.sendUp_store_settings (kind : Nat) (p : List Byte) : (s.sendUp kind p).store.settings = s.store.settings := by simp [State.sendUp]
@[simp] theorem State.sendUp_store_resetWait (kind : Nat) (p : List Byte) : (s.sendUp kind p).store.resetWait = s.store.resetWait := by simp [State.sendUp]
@[simp] theorem State.sendUp_store_lineNumber (kind : Nat) (p : List Byte) : (s.sendUp kind p).store.lineNumber = s.store.lineNumber := by simp [State.sendUp]
@[simp] theorem State.sendUp_store_heldAlarms (kind : Nat) (p : List Byte) : (s.sendUp kind p).store.heldAlarms = s.store.heldAlarms := by simp [State.sendUp]
@[simp] theorem State.sendUp_disposition (kind : Nat) (p : List Byte) : (s.sendUp kind p).link.disposition = s.link.disposition := by simp [State.sendUp]
@[simp] theorem State.sendUp_floorQueue (kind : Nat) (p : List Byte) : (s.sendUp kind p).link.floorQueue = s.link.floorQueue := by simp [State.sendUp]
@[simp] theorem State.reply_dau (q : Nat) (r : Result) (n : Nat) (d : List Byte) : (s.reply q r n d).dau = s.dau := by simp [State.reply]
@[simp] theorem State.reply_smu (q : Nat) (r : Result) (n : Nat) (d : List Byte) : (s.reply q r n d).smu = s.smu := by simp [State.reply]
@[simp] theorem State.reply_pcd (q : Nat) (r : Result) (n : Nat) (d : List Byte) : (s.reply q r n d).pcd = s.pcd := by simp [State.reply]
@[simp] theorem State.reply_aou (q : Nat) (r : Result) (n : Nat) (d : List Byte) : (s.reply q r n d).aou = s.aou := by simp [State.reply]
@[simp] theorem State.reply_dcu (q : Nat) (r : Result) (n : Nat) (d : List Byte) : (s.reply q r n d).dcu = s.dcu := by simp [State.reply]
@[simp] theorem State.reply_spu (q : Nat) (r : Result) (n : Nat) (d : List Byte) : (s.reply q r n d).spu = s.spu := by simp [State.reply]
@[simp] theorem State.reply_rsu (q : Nat) (r : Result) (n : Nat) (d : List Byte) : (s.reply q r n d).rsu = s.rsu := by simp [State.reply]
@[simp] theorem State.reply_scu (q : Nat) (r : Result) (n : Nat) (d : List Byte) : (s.reply q r n d).scu = s.scu := by simp [State.reply]
@[simp] theorem State.reply_ssu (q : Nat) (r : Result) (n : Nat) (d : List Byte) : (s.reply q r n d).ssu = s.ssu := by simp [State.reply]
@[simp] theorem State.reply_retention (q : Nat) (r : Result) (n : Nat) (d : List Byte) : (s.reply q r n d).retention = s.retention := by simp [State.reply]
@[simp] theorem State.reply_power (q : Nat) (r : Result) (n : Nat) (d : List Byte) : (s.reply q r n d).power = s.power := by simp [State.reply]
@[simp] theorem State.reply_rstnLow (q : Nat) (r : Result) (n : Nat) (d : List Byte) : (s.reply q r n d).rstnLow = s.rstnLow := by simp [State.reply]
@[simp] theorem State.reply_supply (q : Nat) (r : Result) (n : Nat) (d : List Byte) : (s.reply q r n d).supply = s.supply := by simp [State.reply]
@[simp] theorem State.reply_timer (q : Nat) (r : Result) (n : Nat) (d : List Byte) : (s.reply q r n d).timer = s.timer := by simp [State.reply]
@[simp] theorem State.reply_ticks (q : Nat) (r : Result) (n : Nat) (d : List Byte) : (s.reply q r n d).ticks = s.ticks := by simp [State.reply]
@[simp] theorem State.reply_inFlight (q : Nat) (r : Result) (n : Nat) (d : List Byte) : (s.reply q r n d).inFlight = s.inFlight := by simp [State.reply]
@[simp] theorem State.reply_freeUses (q : Nat) (r : Result) (n : Nat) (d : List Byte) : (s.reply q r n d).freeUses = s.freeUses := by simp [State.reply]
@[simp] theorem State.reply_pending (q : Nat) (r : Result) (n : Nat) (d : List Byte) : (s.reply q r n d).pending = s.pending := by simp [State.reply]
@[simp] theorem State.reply_store_frames (q : Nat) (r : Result) (n : Nat) (d : List Byte) : (s.reply q r n d).store.frames = s.store.frames := by simp [State.reply]
@[simp] theorem State.reply_store_articles (q : Nat) (r : Result) (n : Nat) (d : List Byte) : (s.reply q r n d).store.articles = s.store.articles := by simp [State.reply]
@[simp] theorem State.reply_store_zones (q : Nat) (r : Result) (n : Nat) (d : List Byte) : (s.reply q r n d).store.zones = s.store.zones := by simp [State.reply]
@[simp] theorem State.reply_store_robots (q : Nat) (r : Result) (n : Nat) (d : List Byte) : (s.reply q r n d).store.robots = s.store.robots := by simp [State.reply]
@[simp] theorem State.reply_store_doffers (q : Nat) (r : Result) (n : Nat) (d : List Byte) : (s.reply q r n d).store.doffers = s.store.doffers := by simp [State.reply]
@[simp] theorem State.reply_store_carriers (q : Nat) (r : Result) (n : Nat) (d : List Byte) : (s.reply q r n d).store.carriers = s.store.carriers := by simp [State.reply]
@[simp] theorem State.reply_store_settings (q : Nat) (r : Result) (n : Nat) (d : List Byte) : (s.reply q r n d).store.settings = s.store.settings := by simp [State.reply]
@[simp] theorem State.reply_store_resetWait (q : Nat) (r : Result) (n : Nat) (d : List Byte) : (s.reply q r n d).store.resetWait = s.store.resetWait := by simp [State.reply]
@[simp] theorem State.reply_store_lineNumber (q : Nat) (r : Result) (n : Nat) (d : List Byte) : (s.reply q r n d).store.lineNumber = s.store.lineNumber := by simp [State.reply]
@[simp] theorem State.reply_store_heldAlarms (q : Nat) (r : Result) (n : Nat) (d : List Byte) : (s.reply q r n d).store.heldAlarms = s.store.heldAlarms := by simp [State.reply]
@[simp] theorem State.reply_disposition (q : Nat) (r : Result) (n : Nat) (d : List Byte) : (s.reply q r n d).link.disposition = s.link.disposition := by simp [State.reply]
@[simp] theorem State.reply_floorQueue (q : Nat) (r : Result) (n : Nat) (d : List Byte) : (s.reply q r n d).link.floorQueue = s.link.floorQueue := by simp [State.reply]
@[simp] theorem State.replyOk_dau (q : Nat) (d : List Byte) : (s.replyOk q d).dau = s.dau := by simp [State.replyOk]
@[simp] theorem State.replyOk_smu (q : Nat) (d : List Byte) : (s.replyOk q d).smu = s.smu := by simp [State.replyOk]
@[simp] theorem State.replyOk_pcd (q : Nat) (d : List Byte) : (s.replyOk q d).pcd = s.pcd := by simp [State.replyOk]
@[simp] theorem State.replyOk_aou (q : Nat) (d : List Byte) : (s.replyOk q d).aou = s.aou := by simp [State.replyOk]
@[simp] theorem State.replyOk_dcu (q : Nat) (d : List Byte) : (s.replyOk q d).dcu = s.dcu := by simp [State.replyOk]
@[simp] theorem State.replyOk_spu (q : Nat) (d : List Byte) : (s.replyOk q d).spu = s.spu := by simp [State.replyOk]
@[simp] theorem State.replyOk_rsu (q : Nat) (d : List Byte) : (s.replyOk q d).rsu = s.rsu := by simp [State.replyOk]
@[simp] theorem State.replyOk_scu (q : Nat) (d : List Byte) : (s.replyOk q d).scu = s.scu := by simp [State.replyOk]
@[simp] theorem State.replyOk_ssu (q : Nat) (d : List Byte) : (s.replyOk q d).ssu = s.ssu := by simp [State.replyOk]
@[simp] theorem State.replyOk_retention (q : Nat) (d : List Byte) : (s.replyOk q d).retention = s.retention := by simp [State.replyOk]
@[simp] theorem State.replyOk_power (q : Nat) (d : List Byte) : (s.replyOk q d).power = s.power := by simp [State.replyOk]
@[simp] theorem State.replyOk_rstnLow (q : Nat) (d : List Byte) : (s.replyOk q d).rstnLow = s.rstnLow := by simp [State.replyOk]
@[simp] theorem State.replyOk_supply (q : Nat) (d : List Byte) : (s.replyOk q d).supply = s.supply := by simp [State.replyOk]
@[simp] theorem State.replyOk_timer (q : Nat) (d : List Byte) : (s.replyOk q d).timer = s.timer := by simp [State.replyOk]
@[simp] theorem State.replyOk_ticks (q : Nat) (d : List Byte) : (s.replyOk q d).ticks = s.ticks := by simp [State.replyOk]
@[simp] theorem State.replyOk_inFlight (q : Nat) (d : List Byte) : (s.replyOk q d).inFlight = s.inFlight := by simp [State.replyOk]
@[simp] theorem State.replyOk_freeUses (q : Nat) (d : List Byte) : (s.replyOk q d).freeUses = s.freeUses := by simp [State.replyOk]
@[simp] theorem State.replyOk_pending (q : Nat) (d : List Byte) : (s.replyOk q d).pending = s.pending := by simp [State.replyOk]
@[simp] theorem State.replyOk_store_frames (q : Nat) (d : List Byte) : (s.replyOk q d).store.frames = s.store.frames := by simp [State.replyOk]
@[simp] theorem State.replyOk_store_articles (q : Nat) (d : List Byte) : (s.replyOk q d).store.articles = s.store.articles := by simp [State.replyOk]
@[simp] theorem State.replyOk_store_zones (q : Nat) (d : List Byte) : (s.replyOk q d).store.zones = s.store.zones := by simp [State.replyOk]
@[simp] theorem State.replyOk_store_robots (q : Nat) (d : List Byte) : (s.replyOk q d).store.robots = s.store.robots := by simp [State.replyOk]
@[simp] theorem State.replyOk_store_doffers (q : Nat) (d : List Byte) : (s.replyOk q d).store.doffers = s.store.doffers := by simp [State.replyOk]
@[simp] theorem State.replyOk_store_carriers (q : Nat) (d : List Byte) : (s.replyOk q d).store.carriers = s.store.carriers := by simp [State.replyOk]
@[simp] theorem State.replyOk_store_settings (q : Nat) (d : List Byte) : (s.replyOk q d).store.settings = s.store.settings := by simp [State.replyOk]
@[simp] theorem State.replyOk_store_resetWait (q : Nat) (d : List Byte) : (s.replyOk q d).store.resetWait = s.store.resetWait := by simp [State.replyOk]
@[simp] theorem State.replyOk_store_lineNumber (q : Nat) (d : List Byte) : (s.replyOk q d).store.lineNumber = s.store.lineNumber := by simp [State.replyOk]
@[simp] theorem State.replyOk_store_heldAlarms (q : Nat) (d : List Byte) : (s.replyOk q d).store.heldAlarms = s.store.heldAlarms := by simp [State.replyOk]
@[simp] theorem State.replyOk_disposition (q : Nat) (d : List Byte) : (s.replyOk q d).link.disposition = s.link.disposition := by simp [State.replyOk]
@[simp] theorem State.replyOk_floorQueue (q : Nat) (d : List Byte) : (s.replyOk q d).link.floorQueue = s.link.floorQueue := by simp [State.replyOk]
@[simp] theorem State.refuse_dau (q : Nat) (r : Result) : (s.refuse q r).dau = s.dau := by simp [State.refuse]
@[simp] theorem State.refuse_smu (q : Nat) (r : Result) : (s.refuse q r).smu = s.smu := by simp [State.refuse]
@[simp] theorem State.refuse_pcd (q : Nat) (r : Result) : (s.refuse q r).pcd = s.pcd := by simp [State.refuse]
@[simp] theorem State.refuse_aou (q : Nat) (r : Result) : (s.refuse q r).aou = s.aou := by simp [State.refuse]
@[simp] theorem State.refuse_dcu (q : Nat) (r : Result) : (s.refuse q r).dcu = s.dcu := by simp [State.refuse]
@[simp] theorem State.refuse_spu (q : Nat) (r : Result) : (s.refuse q r).spu = s.spu := by simp [State.refuse]
@[simp] theorem State.refuse_rsu (q : Nat) (r : Result) : (s.refuse q r).rsu = s.rsu := by simp [State.refuse]
@[simp] theorem State.refuse_scu (q : Nat) (r : Result) : (s.refuse q r).scu = s.scu := by simp [State.refuse]
@[simp] theorem State.refuse_ssu (q : Nat) (r : Result) : (s.refuse q r).ssu = s.ssu := by simp [State.refuse]
@[simp] theorem State.refuse_retention (q : Nat) (r : Result) : (s.refuse q r).retention = s.retention := by simp [State.refuse]
@[simp] theorem State.refuse_power (q : Nat) (r : Result) : (s.refuse q r).power = s.power := by simp [State.refuse]
@[simp] theorem State.refuse_rstnLow (q : Nat) (r : Result) : (s.refuse q r).rstnLow = s.rstnLow := by simp [State.refuse]
@[simp] theorem State.refuse_supply (q : Nat) (r : Result) : (s.refuse q r).supply = s.supply := by simp [State.refuse]
@[simp] theorem State.refuse_timer (q : Nat) (r : Result) : (s.refuse q r).timer = s.timer := by simp [State.refuse]
@[simp] theorem State.refuse_ticks (q : Nat) (r : Result) : (s.refuse q r).ticks = s.ticks := by simp [State.refuse]
@[simp] theorem State.refuse_inFlight (q : Nat) (r : Result) : (s.refuse q r).inFlight = s.inFlight := by simp [State.refuse]
@[simp] theorem State.refuse_freeUses (q : Nat) (r : Result) : (s.refuse q r).freeUses = s.freeUses := by simp [State.refuse]
@[simp] theorem State.refuse_pending (q : Nat) (r : Result) : (s.refuse q r).pending = s.pending := by simp [State.refuse]
@[simp] theorem State.refuse_store_frames (q : Nat) (r : Result) : (s.refuse q r).store.frames = s.store.frames := by simp [State.refuse]
@[simp] theorem State.refuse_store_articles (q : Nat) (r : Result) : (s.refuse q r).store.articles = s.store.articles := by simp [State.refuse]
@[simp] theorem State.refuse_store_zones (q : Nat) (r : Result) : (s.refuse q r).store.zones = s.store.zones := by simp [State.refuse]
@[simp] theorem State.refuse_store_robots (q : Nat) (r : Result) : (s.refuse q r).store.robots = s.store.robots := by simp [State.refuse]
@[simp] theorem State.refuse_store_doffers (q : Nat) (r : Result) : (s.refuse q r).store.doffers = s.store.doffers := by simp [State.refuse]
@[simp] theorem State.refuse_store_carriers (q : Nat) (r : Result) : (s.refuse q r).store.carriers = s.store.carriers := by simp [State.refuse]
@[simp] theorem State.refuse_store_settings (q : Nat) (r : Result) : (s.refuse q r).store.settings = s.store.settings := by simp [State.refuse]
@[simp] theorem State.refuse_store_resetWait (q : Nat) (r : Result) : (s.refuse q r).store.resetWait = s.store.resetWait := by simp [State.refuse]
@[simp] theorem State.refuse_store_lineNumber (q : Nat) (r : Result) : (s.refuse q r).store.lineNumber = s.store.lineNumber := by simp [State.refuse]
@[simp] theorem State.refuse_store_heldAlarms (q : Nat) (r : Result) : (s.refuse q r).store.heldAlarms = s.store.heldAlarms := by simp [State.refuse]
@[simp] theorem State.refuse_disposition (q : Nat) (r : Result) : (s.refuse q r).link.disposition = s.link.disposition := by simp [State.refuse]
@[simp] theorem State.refuse_floorQueue (q : Nat) (r : Result) : (s.refuse q r).link.floorQueue = s.link.floorQueue := by simp [State.refuse]
@[simp] theorem State.badValue_dau (q n : Nat) : (s.badValue q n).dau = s.dau := by simp [State.badValue]
@[simp] theorem State.badValue_smu (q n : Nat) : (s.badValue q n).smu = s.smu := by simp [State.badValue]
@[simp] theorem State.badValue_pcd (q n : Nat) : (s.badValue q n).pcd = s.pcd := by simp [State.badValue]
@[simp] theorem State.badValue_aou (q n : Nat) : (s.badValue q n).aou = s.aou := by simp [State.badValue]
@[simp] theorem State.badValue_dcu (q n : Nat) : (s.badValue q n).dcu = s.dcu := by simp [State.badValue]
@[simp] theorem State.badValue_spu (q n : Nat) : (s.badValue q n).spu = s.spu := by simp [State.badValue]
@[simp] theorem State.badValue_rsu (q n : Nat) : (s.badValue q n).rsu = s.rsu := by simp [State.badValue]
@[simp] theorem State.badValue_scu (q n : Nat) : (s.badValue q n).scu = s.scu := by simp [State.badValue]
@[simp] theorem State.badValue_ssu (q n : Nat) : (s.badValue q n).ssu = s.ssu := by simp [State.badValue]
@[simp] theorem State.badValue_retention (q n : Nat) : (s.badValue q n).retention = s.retention := by simp [State.badValue]
@[simp] theorem State.badValue_power (q n : Nat) : (s.badValue q n).power = s.power := by simp [State.badValue]
@[simp] theorem State.badValue_rstnLow (q n : Nat) : (s.badValue q n).rstnLow = s.rstnLow := by simp [State.badValue]
@[simp] theorem State.badValue_supply (q n : Nat) : (s.badValue q n).supply = s.supply := by simp [State.badValue]
@[simp] theorem State.badValue_timer (q n : Nat) : (s.badValue q n).timer = s.timer := by simp [State.badValue]
@[simp] theorem State.badValue_ticks (q n : Nat) : (s.badValue q n).ticks = s.ticks := by simp [State.badValue]
@[simp] theorem State.badValue_inFlight (q n : Nat) : (s.badValue q n).inFlight = s.inFlight := by simp [State.badValue]
@[simp] theorem State.badValue_freeUses (q n : Nat) : (s.badValue q n).freeUses = s.freeUses := by simp [State.badValue]
@[simp] theorem State.badValue_pending (q n : Nat) : (s.badValue q n).pending = s.pending := by simp [State.badValue]
@[simp] theorem State.badValue_store_frames (q n : Nat) : (s.badValue q n).store.frames = s.store.frames := by simp [State.badValue]
@[simp] theorem State.badValue_store_articles (q n : Nat) : (s.badValue q n).store.articles = s.store.articles := by simp [State.badValue]
@[simp] theorem State.badValue_store_zones (q n : Nat) : (s.badValue q n).store.zones = s.store.zones := by simp [State.badValue]
@[simp] theorem State.badValue_store_robots (q n : Nat) : (s.badValue q n).store.robots = s.store.robots := by simp [State.badValue]
@[simp] theorem State.badValue_store_doffers (q n : Nat) : (s.badValue q n).store.doffers = s.store.doffers := by simp [State.badValue]
@[simp] theorem State.badValue_store_carriers (q n : Nat) : (s.badValue q n).store.carriers = s.store.carriers := by simp [State.badValue]
@[simp] theorem State.badValue_store_settings (q n : Nat) : (s.badValue q n).store.settings = s.store.settings := by simp [State.badValue]
@[simp] theorem State.badValue_store_resetWait (q n : Nat) : (s.badValue q n).store.resetWait = s.store.resetWait := by simp [State.badValue]
@[simp] theorem State.badValue_store_lineNumber (q n : Nat) : (s.badValue q n).store.lineNumber = s.store.lineNumber := by simp [State.badValue]
@[simp] theorem State.badValue_store_heldAlarms (q n : Nat) : (s.badValue q n).store.heldAlarms = s.store.heldAlarms := by simp [State.badValue]
@[simp] theorem State.badValue_disposition (q n : Nat) : (s.badValue q n).link.disposition = s.link.disposition := by simp [State.badValue]
@[simp] theorem State.badValue_floorQueue (q n : Nat) : (s.badValue q n).link.floorQueue = s.link.floorQueue := by simp [State.badValue]
/-! ### Alarms: sent, or held for the STARTUP of a line reset (R36, R189) -/

@[simp] theorem sendAlarm_dau (a : Alarm) : (sendAlarm a s).dau = s.dau := by simp [sendAlarm]
@[simp] theorem sendAlarm_smu (a : Alarm) : (sendAlarm a s).smu = s.smu := by simp [sendAlarm]
@[simp] theorem sendAlarm_pcd (a : Alarm) : (sendAlarm a s).pcd = s.pcd := by simp [sendAlarm]
@[simp] theorem sendAlarm_aou (a : Alarm) : (sendAlarm a s).aou = s.aou := by simp [sendAlarm]
@[simp] theorem sendAlarm_dcu (a : Alarm) : (sendAlarm a s).dcu = s.dcu := by simp [sendAlarm]
@[simp] theorem sendAlarm_spu (a : Alarm) : (sendAlarm a s).spu = s.spu := by simp [sendAlarm]
@[simp] theorem sendAlarm_rsu (a : Alarm) : (sendAlarm a s).rsu = s.rsu := by simp [sendAlarm]
@[simp] theorem sendAlarm_scu (a : Alarm) : (sendAlarm a s).scu = s.scu := by simp [sendAlarm]
@[simp] theorem sendAlarm_ssu (a : Alarm) : (sendAlarm a s).ssu = s.ssu := by simp [sendAlarm]
@[simp] theorem sendAlarm_retention (a : Alarm) : (sendAlarm a s).retention = s.retention := by simp [sendAlarm]
@[simp] theorem sendAlarm_power (a : Alarm) : (sendAlarm a s).power = s.power := by simp [sendAlarm]
@[simp] theorem sendAlarm_rstnLow (a : Alarm) : (sendAlarm a s).rstnLow = s.rstnLow := by simp [sendAlarm]
@[simp] theorem sendAlarm_supply (a : Alarm) : (sendAlarm a s).supply = s.supply := by simp [sendAlarm]
@[simp] theorem sendAlarm_timer (a : Alarm) : (sendAlarm a s).timer = s.timer := by simp [sendAlarm]
@[simp] theorem sendAlarm_ticks (a : Alarm) : (sendAlarm a s).ticks = s.ticks := by simp [sendAlarm]
@[simp] theorem sendAlarm_inFlight (a : Alarm) : (sendAlarm a s).inFlight = s.inFlight := by simp [sendAlarm]
@[simp] theorem sendAlarm_freeUses (a : Alarm) : (sendAlarm a s).freeUses = s.freeUses := by simp [sendAlarm]
@[simp] theorem sendAlarm_pending (a : Alarm) : (sendAlarm a s).pending = s.pending := by simp [sendAlarm]
@[simp] theorem sendAlarm_store_frames (a : Alarm) : (sendAlarm a s).store.frames = s.store.frames := by simp [sendAlarm]
@[simp] theorem sendAlarm_store_articles (a : Alarm) : (sendAlarm a s).store.articles = s.store.articles := by simp [sendAlarm]
@[simp] theorem sendAlarm_store_zones (a : Alarm) : (sendAlarm a s).store.zones = s.store.zones := by simp [sendAlarm]
@[simp] theorem sendAlarm_store_robots (a : Alarm) : (sendAlarm a s).store.robots = s.store.robots := by simp [sendAlarm]
@[simp] theorem sendAlarm_store_doffers (a : Alarm) : (sendAlarm a s).store.doffers = s.store.doffers := by simp [sendAlarm]
@[simp] theorem sendAlarm_store_carriers (a : Alarm) : (sendAlarm a s).store.carriers = s.store.carriers := by simp [sendAlarm]
@[simp] theorem sendAlarm_store_settings (a : Alarm) : (sendAlarm a s).store.settings = s.store.settings := by simp [sendAlarm]
@[simp] theorem sendAlarm_store_resetWait (a : Alarm) : (sendAlarm a s).store.resetWait = s.store.resetWait := by simp [sendAlarm]
@[simp] theorem sendAlarm_store_lineNumber (a : Alarm) : (sendAlarm a s).store.lineNumber = s.store.lineNumber := by simp [sendAlarm]
@[simp] theorem sendAlarm_disposition (a : Alarm) : (sendAlarm a s).link.disposition = s.link.disposition := by simp [sendAlarm]
@[simp] theorem sendAlarm_floorQueue (a : Alarm) : (sendAlarm a s).link.floorQueue = s.link.floorQueue := by simp [sendAlarm]
@[simp] theorem sendAlarm_store_heldAlarms (a : Alarm) : (sendAlarm a s).store.heldAlarms = s.store.heldAlarms := by
  simp [sendAlarm]
@[simp] theorem State.holdAlarm_dau (a : Alarm) : (s.holdAlarm a).dau = s.dau := rfl
@[simp] theorem State.holdAlarm_smu (a : Alarm) : (s.holdAlarm a).smu = s.smu := rfl
@[simp] theorem State.holdAlarm_pcd (a : Alarm) : (s.holdAlarm a).pcd = s.pcd := rfl
@[simp] theorem State.holdAlarm_aou (a : Alarm) : (s.holdAlarm a).aou = s.aou := rfl
@[simp] theorem State.holdAlarm_dcu (a : Alarm) : (s.holdAlarm a).dcu = s.dcu := rfl
@[simp] theorem State.holdAlarm_spu (a : Alarm) : (s.holdAlarm a).spu = s.spu := rfl
@[simp] theorem State.holdAlarm_rsu (a : Alarm) : (s.holdAlarm a).rsu = s.rsu := rfl
@[simp] theorem State.holdAlarm_scu (a : Alarm) : (s.holdAlarm a).scu = s.scu := rfl
@[simp] theorem State.holdAlarm_ssu (a : Alarm) : (s.holdAlarm a).ssu = s.ssu := rfl
@[simp] theorem State.holdAlarm_retention (a : Alarm) : (s.holdAlarm a).retention = s.retention := rfl
@[simp] theorem State.holdAlarm_power (a : Alarm) : (s.holdAlarm a).power = s.power := rfl
@[simp] theorem State.holdAlarm_rstnLow (a : Alarm) : (s.holdAlarm a).rstnLow = s.rstnLow := rfl
@[simp] theorem State.holdAlarm_supply (a : Alarm) : (s.holdAlarm a).supply = s.supply := rfl
@[simp] theorem State.holdAlarm_timer (a : Alarm) : (s.holdAlarm a).timer = s.timer := rfl
@[simp] theorem State.holdAlarm_ticks (a : Alarm) : (s.holdAlarm a).ticks = s.ticks := rfl
@[simp] theorem State.holdAlarm_inFlight (a : Alarm) : (s.holdAlarm a).inFlight = s.inFlight := rfl
@[simp] theorem State.holdAlarm_freeUses (a : Alarm) : (s.holdAlarm a).freeUses = s.freeUses := rfl
@[simp] theorem State.holdAlarm_pending (a : Alarm) : (s.holdAlarm a).pending = s.pending := rfl
@[simp] theorem State.holdAlarm_store_frames (a : Alarm) : (s.holdAlarm a).store.frames = s.store.frames := rfl
@[simp] theorem State.holdAlarm_store_articles (a : Alarm) : (s.holdAlarm a).store.articles = s.store.articles := rfl
@[simp] theorem State.holdAlarm_store_zones (a : Alarm) : (s.holdAlarm a).store.zones = s.store.zones := rfl
@[simp] theorem State.holdAlarm_store_robots (a : Alarm) : (s.holdAlarm a).store.robots = s.store.robots := rfl
@[simp] theorem State.holdAlarm_store_doffers (a : Alarm) : (s.holdAlarm a).store.doffers = s.store.doffers := rfl
@[simp] theorem State.holdAlarm_store_carriers (a : Alarm) : (s.holdAlarm a).store.carriers = s.store.carriers := rfl
@[simp] theorem State.holdAlarm_store_settings (a : Alarm) : (s.holdAlarm a).store.settings = s.store.settings := rfl
@[simp] theorem State.holdAlarm_store_resetWait (a : Alarm) : (s.holdAlarm a).store.resetWait = s.store.resetWait := rfl
@[simp] theorem State.holdAlarm_store_lineNumber (a : Alarm) : (s.holdAlarm a).store.lineNumber = s.store.lineNumber := rfl
@[simp] theorem State.holdAlarm_link (a : Alarm) : (s.holdAlarm a).link = s.link := rfl
@[simp] theorem State.holdAlarm_store_flags (a : Alarm) : (s.holdAlarm a).store.flags = s.store.flags := rfl
@[simp] theorem State.holdAlarm_store_heldAlarms (a : Alarm) :
    (s.holdAlarm a).store.heldAlarms = s.store.heldAlarms ++ [a] := rfl

/-- An alarm is sent where its kind is enabled and no line reset has begun. -/
theorem State.alarm_sent {k : AlarmKind} (c i d : Nat) (e : s.store.settings.alarmEnable.getLsbD k.code = true)
    (r : s.store.resetWait ≠ some 0) : s.alarm k c i d = sendAlarm { kind := k, cls := c, index := i, detail := d } s := by
  simp [State.alarm, e, r]

/-- An alarm is held where its kind is enabled and a line reset has begun. -/
theorem State.alarm_held {k : AlarmKind} (c i d : Nat) (e : s.store.settings.alarmEnable.getLsbD k.code = true)
    (r : s.store.resetWait = some 0) : s.alarm k c i d = s.holdAlarm { kind := k, cls := c, index := i, detail := d } := by
  simp [State.alarm, e, r]

/-- An alarm of a kind that is not enabled does nothing. -/
theorem State.alarm_off {k : AlarmKind} (c i d : Nat) (e : s.store.settings.alarmEnable.getLsbD k.code = false) :
    s.alarm k c i d = s := by
  simp [State.alarm, e]

/-- With no alarm held there is none to offer. -/
theorem State.offerHeld_nil (h : s.store.heldAlarms = []) : s.offerHeld = s := by
  obtain ⟨link, store⟩ := s
  cases store
  simp_all [State.offerHeld]

@[simp] theorem State.alarm_dau (k : AlarmKind) (c i d : Nat) : (s.alarm k c i d).dau = s.dau := by
  unfold State.alarm; split <;> (try split) <;> simp
@[simp] theorem State.alarm_smu (k : AlarmKind) (c i d : Nat) : (s.alarm k c i d).smu = s.smu := by
  unfold State.alarm; split <;> (try split) <;> simp
@[simp] theorem State.alarm_pcd (k : AlarmKind) (c i d : Nat) : (s.alarm k c i d).pcd = s.pcd := by
  unfold State.alarm; split <;> (try split) <;> simp
@[simp] theorem State.alarm_aou (k : AlarmKind) (c i d : Nat) : (s.alarm k c i d).aou = s.aou := by
  unfold State.alarm; split <;> (try split) <;> simp
@[simp] theorem State.alarm_dcu (k : AlarmKind) (c i d : Nat) : (s.alarm k c i d).dcu = s.dcu := by
  unfold State.alarm; split <;> (try split) <;> simp
@[simp] theorem State.alarm_spu (k : AlarmKind) (c i d : Nat) : (s.alarm k c i d).spu = s.spu := by
  unfold State.alarm; split <;> (try split) <;> simp
@[simp] theorem State.alarm_rsu (k : AlarmKind) (c i d : Nat) : (s.alarm k c i d).rsu = s.rsu := by
  unfold State.alarm; split <;> (try split) <;> simp
@[simp] theorem State.alarm_scu (k : AlarmKind) (c i d : Nat) : (s.alarm k c i d).scu = s.scu := by
  unfold State.alarm; split <;> (try split) <;> simp
@[simp] theorem State.alarm_ssu (k : AlarmKind) (c i d : Nat) : (s.alarm k c i d).ssu = s.ssu := by
  unfold State.alarm; split <;> (try split) <;> simp
@[simp] theorem State.alarm_retention (k : AlarmKind) (c i d : Nat) : (s.alarm k c i d).retention = s.retention := by
  unfold State.alarm; split <;> (try split) <;> simp
@[simp] theorem State.alarm_power (k : AlarmKind) (c i d : Nat) : (s.alarm k c i d).power = s.power := by
  unfold State.alarm; split <;> (try split) <;> simp
@[simp] theorem State.alarm_rstnLow (k : AlarmKind) (c i d : Nat) : (s.alarm k c i d).rstnLow = s.rstnLow := by
  unfold State.alarm; split <;> (try split) <;> simp
@[simp] theorem State.alarm_supply (k : AlarmKind) (c i d : Nat) : (s.alarm k c i d).supply = s.supply := by
  unfold State.alarm; split <;> (try split) <;> simp
@[simp] theorem State.alarm_timer (k : AlarmKind) (c i d : Nat) : (s.alarm k c i d).timer = s.timer := by
  unfold State.alarm; split <;> (try split) <;> simp
@[simp] theorem State.alarm_ticks (k : AlarmKind) (c i d : Nat) : (s.alarm k c i d).ticks = s.ticks := by
  unfold State.alarm; split <;> (try split) <;> simp
@[simp] theorem State.alarm_inFlight (k : AlarmKind) (c i d : Nat) : (s.alarm k c i d).inFlight = s.inFlight := by
  unfold State.alarm; split <;> (try split) <;> simp
@[simp] theorem State.alarm_freeUses (k : AlarmKind) (c i d : Nat) : (s.alarm k c i d).freeUses = s.freeUses := by
  unfold State.alarm; split <;> (try split) <;> simp
@[simp] theorem State.alarm_pending (k : AlarmKind) (c i d : Nat) : (s.alarm k c i d).pending = s.pending := by
  unfold State.alarm; split <;> (try split) <;> simp
@[simp] theorem State.alarm_store_frames (k : AlarmKind) (c i d : Nat) :
    (s.alarm k c i d).store.frames = s.store.frames := by unfold State.alarm; split <;> (try split) <;> simp
@[simp] theorem State.alarm_store_articles (k : AlarmKind) (c i d : Nat) :
    (s.alarm k c i d).store.articles = s.store.articles := by unfold State.alarm; split <;> (try split) <;> simp
@[simp] theorem State.alarm_store_zones (k : AlarmKind) (c i d : Nat) :
    (s.alarm k c i d).store.zones = s.store.zones := by unfold State.alarm; split <;> (try split) <;> simp
@[simp] theorem State.alarm_store_robots (k : AlarmKind) (c i d : Nat) :
    (s.alarm k c i d).store.robots = s.store.robots := by unfold State.alarm; split <;> (try split) <;> simp
@[simp] theorem State.alarm_store_doffers (k : AlarmKind) (c i d : Nat) :
    (s.alarm k c i d).store.doffers = s.store.doffers := by unfold State.alarm; split <;> (try split) <;> simp
@[simp] theorem State.alarm_store_carriers (k : AlarmKind) (c i d : Nat) :
    (s.alarm k c i d).store.carriers = s.store.carriers := by unfold State.alarm; split <;> (try split) <;> simp
@[simp] theorem State.alarm_store_settings (k : AlarmKind) (c i d : Nat) :
    (s.alarm k c i d).store.settings = s.store.settings := by unfold State.alarm; split <;> (try split) <;> simp
@[simp] theorem State.alarm_store_resetWait (k : AlarmKind) (c i d : Nat) :
    (s.alarm k c i d).store.resetWait = s.store.resetWait := by unfold State.alarm; split <;> (try split) <;> simp
@[simp] theorem State.alarm_store_lineNumber (k : AlarmKind) (c i d : Nat) :
    (s.alarm k c i d).store.lineNumber = s.store.lineNumber := by unfold State.alarm; split <;> (try split) <;> simp
@[simp] theorem State.alarm_disposition (k : AlarmKind) (c i d : Nat) :
    (s.alarm k c i d).link.disposition = s.link.disposition := by unfold State.alarm; split <;> (try split) <;> simp
@[simp] theorem State.alarm_floorQueue (k : AlarmKind) (c i d : Nat) :
    (s.alarm k c i d).link.floorQueue = s.link.floorQueue := by unfold State.alarm; split <;> (try split) <;> simp

/-! ### The timer, hand-offs and the part's power -/

@[simp] theorem State.whenOn_on (k : State → State) (h : s.power = .on) : s.whenOn k = k s := by simp [State.whenOn, h]

theorem State.whenOn_off (k : State → State) (h : s.power ≠ .on) : s.whenOn k = s := by simp [State.whenOn, h]

variable {s}

/-- A unit that has nothing in flight to take takes nothing. -/
theorem State.takeMatching_none {p : Instr → Bool} {app : Instr → State → State} (h : s.NoneFlying p) :
    s.takeMatching p app = s := by
  have e : s.inFlight.filter p = [] := by
    rw [List.filter_eq_nil_iff]
    intro a ha
    simp [h a ha]
  have k : (s.inFlight.filter fun h => !p h) = s.inFlight := by
    rw [List.filter_eq_self]
    intro a ha
    simp [h a ha]
  simp [State.takeMatching, e, k]

/-- A hand-off that is the next of its channel is taken alone. -/
theorem State.handoffInOrder_next {lane : Instr → Bool} {app : Instr → State → State} {c : Instr} (h : s.Next lane c) :
    s.handoffInOrder lane app c = app c (s.drop c) := by
  simp [State.handoffInOrder, State.takeInOrder, State.whenOn, h.1, h.2]

theorem State.handoff_on {c : Instr} {k : State → State} (h : s.power = .on) : s.handoff c k = k (s.drop c) := by
  simp [State.handoff, State.whenOn, h]

theorem State.NoneFlying.drop {p : Instr → Bool} (h : s.NoneFlying p) (c : Instr) : (s.drop c).NoneFlying p :=
  fun a ha => h a (List.mem_of_mem_erase ha)

/-! ### Reports and management telegrams -/

@[simp] theorem State.hears_taken (k : State → State) (h : s.Hears) : s.hears k = k s := by
  simp [State.hears, State.whenOn, h.1, h.2]

/-- A part that does not hear leaves what its ports deliver without effect. -/
theorem State.hears_deaf (k : State → State) (h : ¬ s.Hears) : s.hears k = s := by
  unfold State.hears State.whenOn
  split
  · rename_i p
    by_cases w : s.store.resetWait = some 0
    · simp [w]
    · exact absurd ⟨p, w⟩ h
  · rfl

theorem State.report_accepted {c : Instr} {owner : State → State} (h : s.Takes c) :
    s.report c owner = owner (s.copyReport c) := by
  rw [State.report, State.hears_taken _ h.1]; simp [h.2]

theorem State.report_malformed {c : Instr} {owner : State → State} (h : s.Hears) (v : s.verdict c = .malformed) :
    s.report c owner = s.countMalformed := by rw [State.report, State.hears_taken _ h]; simp [v]

theorem State.report_unknownNode {c : Instr} {owner : State → State} (h : s.Hears)
    (v : s.verdict c = .unknownNode) : s.report c owner = s.countUnknownNode := by
  rw [State.report, State.hears_taken _ h]; simp [v]

theorem State.management_taken {k : State → State} (h : s.Manages) : s.management k = k s := by
  simp [State.management, State.whenOn, h.1, State.takesManagement, h.2]

theorem State.management_waiting {k : State → State} (h : s.store.resetWait.isSome) : s.management k = s := by
  unfold State.management State.whenOn
  split
  · simp [State.takesManagement, Option.isNone_iff_eq_none]
    intro e
    simp [e] at h
  · rfl

/-- The copy of a report reaches the uplink queue, the link counters and the line flags alone (R9). -/
theorem State.copyReport_cases (s : State) (c : Instr) :
    s.copyReport c = s ∨ ∃ t, encodeTelegram c = some t ∧ s.copyReport c = s.offerCopy t := by
  unfold State.copyReport State.copyTelegram
  cases h : encodeTelegram c with
  | none => exact .inl rfl
  | some t =>
    by_cases k : s.copies t.kind = true
    · exact .inr ⟨t, rfl, by simp [k]⟩
    · exact .inl (by simp [k])

/-! A copy reaches the link and the line flags alone (R9). -/

@[simp] theorem State.copyReport_dau (s : State) (c : Instr) : (s.copyReport c).dau = s.dau := by
  rcases s.copyReport_cases c with h | ⟨t, -, h⟩ <;> simp [h]
@[simp] theorem State.copyReport_smu (s : State) (c : Instr) : (s.copyReport c).smu = s.smu := by
  rcases s.copyReport_cases c with h | ⟨t, -, h⟩ <;> simp [h]
@[simp] theorem State.copyReport_pcd (s : State) (c : Instr) : (s.copyReport c).pcd = s.pcd := by
  rcases s.copyReport_cases c with h | ⟨t, -, h⟩ <;> simp [h]
@[simp] theorem State.copyReport_aou (s : State) (c : Instr) : (s.copyReport c).aou = s.aou := by
  rcases s.copyReport_cases c with h | ⟨t, -, h⟩ <;> simp [h]
@[simp] theorem State.copyReport_dcu (s : State) (c : Instr) : (s.copyReport c).dcu = s.dcu := by
  rcases s.copyReport_cases c with h | ⟨t, -, h⟩ <;> simp [h]
@[simp] theorem State.copyReport_spu (s : State) (c : Instr) : (s.copyReport c).spu = s.spu := by
  rcases s.copyReport_cases c with h | ⟨t, -, h⟩ <;> simp [h]
@[simp] theorem State.copyReport_rsu (s : State) (c : Instr) : (s.copyReport c).rsu = s.rsu := by
  rcases s.copyReport_cases c with h | ⟨t, -, h⟩ <;> simp [h]
@[simp] theorem State.copyReport_scu (s : State) (c : Instr) : (s.copyReport c).scu = s.scu := by
  rcases s.copyReport_cases c with h | ⟨t, -, h⟩ <;> simp [h]
@[simp] theorem State.copyReport_ssu (s : State) (c : Instr) : (s.copyReport c).ssu = s.ssu := by
  rcases s.copyReport_cases c with h | ⟨t, -, h⟩ <;> simp [h]
@[simp] theorem State.copyReport_retention (s : State) (c : Instr) : (s.copyReport c).retention = s.retention := by
  rcases s.copyReport_cases c with h | ⟨t, -, h⟩ <;> simp [h]
@[simp] theorem State.copyReport_power (s : State) (c : Instr) : (s.copyReport c).power = s.power := by
  rcases s.copyReport_cases c with h | ⟨t, -, h⟩ <;> simp [h]
@[simp] theorem State.copyReport_rstnLow (s : State) (c : Instr) : (s.copyReport c).rstnLow = s.rstnLow := by
  rcases s.copyReport_cases c with h | ⟨t, -, h⟩ <;> simp [h]
@[simp] theorem State.copyReport_supply (s : State) (c : Instr) : (s.copyReport c).supply = s.supply := by
  rcases s.copyReport_cases c with h | ⟨t, -, h⟩ <;> simp [h]
@[simp] theorem State.copyReport_timer (s : State) (c : Instr) : (s.copyReport c).timer = s.timer := by
  rcases s.copyReport_cases c with h | ⟨t, -, h⟩ <;> simp [h]
@[simp] theorem State.copyReport_ticks (s : State) (c : Instr) : (s.copyReport c).ticks = s.ticks := by
  rcases s.copyReport_cases c with h | ⟨t, -, h⟩ <;> simp [h]
@[simp] theorem State.copyReport_inFlight (s : State) (c : Instr) : (s.copyReport c).inFlight = s.inFlight := by
  rcases s.copyReport_cases c with h | ⟨t, -, h⟩ <;> simp [h]
@[simp] theorem State.copyReport_freeUses (s : State) (c : Instr) : (s.copyReport c).freeUses = s.freeUses := by
  rcases s.copyReport_cases c with h | ⟨t, -, h⟩ <;> simp [h]
@[simp] theorem State.copyReport_pending (s : State) (c : Instr) : (s.copyReport c).pending = s.pending := by
  rcases s.copyReport_cases c with h | ⟨t, -, h⟩ <;> simp [h]
@[simp] theorem State.copyReport_store_frames (s : State) (c : Instr) :
    (s.copyReport c).store.frames = s.store.frames := by
  rcases s.copyReport_cases c with h | ⟨t, -, h⟩ <;> simp [h]
@[simp] theorem State.copyReport_store_articles (s : State) (c : Instr) :
    (s.copyReport c).store.articles = s.store.articles := by
  rcases s.copyReport_cases c with h | ⟨t, -, h⟩ <;> simp [h]
@[simp] theorem State.copyReport_store_zones (s : State) (c : Instr) :
    (s.copyReport c).store.zones = s.store.zones := by
  rcases s.copyReport_cases c with h | ⟨t, -, h⟩ <;> simp [h]
@[simp] theorem State.copyReport_store_robots (s : State) (c : Instr) :
    (s.copyReport c).store.robots = s.store.robots := by
  rcases s.copyReport_cases c with h | ⟨t, -, h⟩ <;> simp [h]
@[simp] theorem State.copyReport_store_doffers (s : State) (c : Instr) :
    (s.copyReport c).store.doffers = s.store.doffers := by
  rcases s.copyReport_cases c with h | ⟨t, -, h⟩ <;> simp [h]
@[simp] theorem State.copyReport_store_carriers (s : State) (c : Instr) :
    (s.copyReport c).store.carriers = s.store.carriers := by
  rcases s.copyReport_cases c with h | ⟨t, -, h⟩ <;> simp [h]
@[simp] theorem State.copyReport_store_settings (s : State) (c : Instr) :
    (s.copyReport c).store.settings = s.store.settings := by
  rcases s.copyReport_cases c with h | ⟨t, -, h⟩ <;> simp [h]
@[simp] theorem State.copyReport_store_resetWait (s : State) (c : Instr) :
    (s.copyReport c).store.resetWait = s.store.resetWait := by
  rcases s.copyReport_cases c with h | ⟨t, -, h⟩ <;> simp [h]
@[simp] theorem State.copyReport_store_lineNumber (s : State) (c : Instr) :
    (s.copyReport c).store.lineNumber = s.store.lineNumber := by
  rcases s.copyReport_cases c with h | ⟨t, -, h⟩ <;> simp [h]
@[simp] theorem State.copyReport_store_heldAlarms (s : State) (c : Instr) :
    (s.copyReport c).store.heldAlarms = s.store.heldAlarms := by
  rcases s.copyReport_cases c with h | ⟨t, -, h⟩ <;> simp [h]
@[simp] theorem State.copyReport_floorQueue (s : State) (c : Instr) :
    (s.copyReport c).link.floorQueue = s.link.floorQueue := by
  rcases s.copyReport_cases c with h | ⟨t, -, h⟩ <;> simp [h]

theorem State.NoneFlying.copyReport {s : State} {p : Instr → Bool} (h : s.NoneFlying p) (c : Instr) :
    (s.copyReport c).NoneFlying p := by simpa [State.NoneFlying] using h

end Sys2Proof.Machine
end

