-- ==== Sys2Proof/Laws/Units.lean ====
section
/-! SUPPORT. One lemma for each shared operation of a unit that says what it does where nothing stands before it: the
takings that find nothing in flight, and the re-evaluation that finds no spindle to piece. -/

namespace Sys2Proof.Machine

variable {s t : State} {f : FrameId} {k : RobotId}

/-! ### Nothing to take first -/

theorem State.dauReady_none (h : s.NoneFlying (dauFirst f)) : s.dauReady f = s := State.takeMatching_none h

theorem State.smuReady_none (h : s.NoneFlying (smuFirst f)) : s.smuReady f = s := State.takeMatching_none h

theorem State.spuReady_none (h : s.NoneFlying (dauFirst f)) (h' : s.NoneFlying (spuFirst f)) : s.spuReady f = s := by
  unfold State.spuReady
  rw [State.dauReady_none h]
  exact State.takeMatching_none h'

theorem State.aouReady_none (h : s.NoneFlying aouFirst) : s.aouReady = s := State.takeMatching_none h

theorem State.takeRecalls_none (h : s.NoneFlying pcdBefore) : s.takeRecalls = s := by
  refine State.takeMatching_none fun c hc => ?_
  have := h c hc
  cases c <;> simp_all [pcdFirst, pcdBefore]

theorem State.reevaluateZones_nil : s.reevaluateZones [] = s := by
  unfold State.reevaluateZones
  induction List.finRange 8 <;> simp_all

/-- With no cancel in flight the PCD takes those of the named frames alone. -/
theorem State.takeCancels_none {fs : List FrameId} {also : FrameId → Bool} (h : s.NoneFlying pcdBefore) :
    s.takeCancels fs also = s.cancelFrames fs := by
  have none : ∀ c ∈ s.inFlight, s.cancelDue also c = false := by
    intro c hc
    have := h c hc
    cases c <;> simp_all [State.cancelDue, pcdBefore]
  have e : s.inFlight.filter (s.cancelDue also) = [] := by
    rw [List.filter_eq_nil_iff]
    intro c hc
    simp [none c hc]
  have k : (s.inFlight.filter fun c => !s.cancelDue also c) = s.inFlight := by
    rw [List.filter_eq_self]
    intro c hc
    simp [none c hc]
  unfold State.takeCancels
  simp [e, k]

theorem State.cancelFrames_nil : s.cancelFrames [] = s := by
  simp [State.cancelFrames, State.reevaluateZones_nil]

theorem State.pcdReady_none (h : s.NoneFlying pcdBefore) : s.pcdReady = s := by
  unfold State.pcdReady
  rw [State.takeRecalls_none h, State.takeCancels_none h, State.cancelFrames_nil]

theorem State.pcdReadyFor_none (h : s.NoneFlying pcdBefore) : s.pcdReadyFor f = s := by
  unfold State.pcdReadyFor
  rw [State.takeRecalls_none h, State.takeCancels_none h, State.cancelFrames_nil]

theorem State.takeCancel_none (h : s.NoneFlying pcdBefore) : s.takeCancel f = s.cancelPiecing f := by
  unfold State.takeCancel
  rw [State.takeRecalls_none h, State.takeCancels_none h]
  rfl

theorem State.pcdReadyRobot_none (h : s.NoneFlying pcdBefore) : s.pcdReadyRobot k = s := by
  unfold State.pcdReadyRobot
  rw [State.pcdReady_none h]
  split
  · exact State.pcdReadyFor_none h
  · rfl

/-- With nothing to take before it a notice is what the PCD does with it. -/
theorem State.takeNotices_next {lane : Instr → Bool} {c : Instr} (h : s.Next lane c) (h' : s.NoneFlying pcdBefore) :
    s.takeNotices lane c = pcdTake (s.drop c) c := by
  have ready : s.readyForNotice c = s := by
    unfold State.readyForNotice
    split
    · exact State.pcdReadyFor_none h'
    · exact State.pcdReadyFor_none h'
    · exact State.pcdReadyFor_none h'
    · exact State.pcdReadyFor_none h'
    · exact State.pcdReady_none h'
    · exact State.pcdReady_none h'
    · rfl
  simp [State.takeNotices, State.whenOn, h.1, h.2, State.takeNotice, ready]

/-- A cancel that is next is taken with the cancels due beside it. -/
theorem State.takeNotices_cancel (h : s.Next (dcuToPcd f) (.pcdPiecingCancel f)) :
    s.takeNotices (dcuToPcd f) (.pcdPiecingCancel f) = (s.drop (.pcdPiecingCancel f)).takeCancel f := by
  simp [State.takeNotices, State.whenOn, h.1, h.2, State.takeNotice, State.readyForNotice, pcdTake]

/-- A notice that a choice on the way has taken is not taken again (R82). -/
theorem State.takeNotice_taken {c : Instr} (h : c ∈ s.inFlight) (h' : c ∉ (s.readyForNotice c).inFlight) :
    s.takeNotice true c = s.readyForNotice c := by
  simp [State.takeNotice, h, h']

/-- The passing of the earliest verify deadline takes its entry from the list and asks for the expiry. -/
theorem State.verifyPasses_first {e : VerifyEntry} {rest : List VerifyEntry} (h : s.pcd.verify = e :: rest) :
    s.verifyPasses e =
      { s with
        pcd := { s.pcd with verify := rest }, timer := timerReading (max s.timer e.deadline),
        inFlight := s.inFlight ++ [.verifyExpiry e.frame e.side e.index] } := by
  simp [State.verifyPasses, h, State.reach, State.setVerify, State.emit]

/-- With its entry gone a verify deadline does not pass. -/
theorem State.verifyPasses_gone {e : VerifyEntry} (h : e ∉ s.pcd.verify) : s.verifyPasses e = s := by
  unfold State.verifyPasses
  exact if_neg fun h' => h (List.mem_of_head? h')

/-! ### What the conditions read -/

theorem State.NoneFlying.of_inFlight {p : Instr → Bool} (h : s.NoneFlying p) (e : t.inFlight = s.inFlight) :
    t.NoneFlying p := by
  unfold State.NoneFlying; rw [e]; exact h

theorem State.NoneFlying.of_mem {p : Instr → Bool} (h : s.NoneFlying p) (e : ∀ c ∈ t.inFlight, c ∈ s.inFlight) :
    t.NoneFlying p := fun c hc => h c (e c hc)

theorem State.NoneFlying.append {p : Instr → Bool} {l : List Instr} (h : s.NoneFlying p)
    (e : t.inFlight = s.inFlight ++ l) (hl : ∀ c ∈ l, p c = false) : t.NoneFlying p := by
  intro c hc
  rw [e, List.mem_append] at hc
  rcases hc with hc | hc
  · exact h c hc
  · exact hl c hc

theorem State.NoBroken.of_smu (h : s.NoBroken) (e : t.smu = s.smu) : t.NoBroken := by
  intro f side i
  have := h f side i
  simpa only [State.spindle, State.map, e] using this

/-! ### What the copy of a report leaves (R9) -/

@[simp] theorem State.robot_copyReport (c : Instr) (k : RobotId) : (s.copyReport c).robot k = s.robot k := by
  simp [State.robot]

@[simp] theorem State.aisleRecord_copyReport (c : Instr) (a : AisleId) : (s.copyReport c).aisleRecord a = s.aisleRecord a := by
  simp [State.aisleRecord]

@[simp] theorem State.cycle_copyReport (c : Instr) (f : FrameId) : (s.copyReport c).cycle f = s.cycle f := by
  simp [State.cycle]

@[simp] theorem State.frameState_copyReport (c : Instr) (f : FrameId) : (s.copyReport c).frameState f = s.frameState f := by
  simp [State.frameState, State.cycle]

@[simp] theorem State.doffer_copyReport (c : Instr) (d : DofferId) : (s.copyReport c).doffer d = s.doffer d := by
  simp [State.doffer]

@[simp] theorem State.carrier_copyReport (c : Instr) (x : CarrierId) : (s.copyReport c).carrier x = s.carrier x := by
  simp [State.carrier]

@[simp] theorem State.groupRecord_copyReport (c : Instr) (f : FrameId) (g : GroupId) : (s.copyReport c).groupRecord f g = s.groupRecord f g := by
  simp [State.groupRecord]

@[simp] theorem State.speed_copyReport (c : Instr) (f : FrameId) : (s.copyReport c).speed f = s.speed f := by
  simp [State.speed]

@[simp] theorem State.deliveryRecord_copyReport (c : Instr) (f : FrameId) : (s.copyReport c).deliveryRecord f = s.deliveryRecord f := by
  simp [State.deliveryRecord]

@[simp] theorem State.map_copyReport (c : Instr) (f : FrameId) : (s.copyReport c).map f = s.map f := by
  simp [State.map]

@[simp] theorem State.count_copyReport (c : Instr) (f : FrameId) : (s.copyReport c).count f = s.count f := by
  simp [State.count]

@[simp] theorem State.spindle_copyReport (c : Instr) (f : FrameId) (side : Side) (i : Nat) : (s.copyReport c).spindle f side i = s.spindle f side i := by
  simp [State.spindle, State.map]

@[simp] theorem State.entry_copyReport (c : Instr) (f : FrameId) : (s.copyReport c).entry f = s.entry f := by
  simp [State.entry]

@[simp] theorem State.enabled_copyReport (c : Instr) (f : FrameId) : (s.copyReport c).enabled f = s.enabled f := by
  simp [State.enabled, State.entry]

@[simp] theorem State.articleId_copyReport (c : Instr) (f : FrameId) : (s.copyReport c).articleId f = s.articleId f := by
  simp [State.articleId, State.entry]

@[simp] theorem State.article_copyReport (c : Instr) (f : FrameId) : (s.copyReport c).article f = s.article f := by
  simp [State.article, State.articleId, State.entry]

@[simp] theorem State.robotZone_copyReport (c : Instr) (k : RobotId) : (s.copyReport c).robotZone k = s.robotZone k := by
  simp [State.robotZone]

@[simp] theorem State.patrol_copyReport (c : Instr) (z : ZoneId) : (s.copyReport c).patrol z = s.patrol z := by
  simp [State.patrol]

theorem State.Quiet.copyReport (h : s.Quiet) (c : Instr) : (s.copyReport c).Quiet :=
  ⟨h.1.of_smu (by simp), h.2.1.copyReport c, h.2.2.copyReport c⟩

theorem State.Quiet.drop (h : s.Quiet) (c : Instr) : (s.drop c).Quiet := ⟨h.1.of_smu rfl, h.2.1.drop c, h.2.2.drop c⟩

/-! ### A re-evaluation with no BROKEN spindle (R80, R86) -/

theorem State.sideCandidates_noBroken (h : s.NoBroken) (side : Side) : s.sideCandidates f side = [] := by
  unfold State.sideCandidates
  rw [List.filterMap_eq_nil_iff]
  rintro ⟨sp, i⟩ hm
  have h1 := h f side i
  have hm' := List.mem_zipIdx_iff_getElem?.1 hm
  simp only [State.spindle, hm', Option.getD_some] at h1
  simp [h1]

theorem State.candidates_noBroken (h : s.NoBroken) (z : ZoneId) (a : AisleId) : s.candidates z a = [] := by
  unfold State.candidates
  split
  · simp only [List.flatMap_eq_nil_iff]
    intro f _
    split
    · simp only [List.flatMap_eq_nil_iff]
      intro side _
      exact State.sideCandidates_noBroken h side
    · rfl
  · rfl

theorem State.qualifies_noBroken (h : s.NoBroken) (a : AisleId) : s.qualifies k a = false := by
  simp [State.qualifies, State.candidates_noBroken h]

theorem State.grantAlong_noBroken (h : s.NoBroken) (ha : s.NoneFlying aouFirst) (l : List AisleId) :
    s.grantAlong k l = (none, s) := by
  induction l with
  | nil => rfl
  | cons a rest ih =>
    rw [State.grantAlong, State.aouReady_none ha]
    simp only [State.qualifies_noBroken h, Bool.false_eq_true, if_false]
    exact ih

theorem State.aisleChoice_noBroken (h : s.NoBroken) (ha : s.NoneFlying aouFirst) : s.aisleChoice k = s := by
  unfold State.aisleChoice
  simp only [State.grantAlong_noBroken h ha]

theorem State.turn_noBroken (h : s.NoBroken) (ha : s.NoneFlying aouFirst) : s.turn k = s := by
  unfold State.turn
  simp only
  split
  · rw [State.candidates_noBroken h]
    exact State.aisleChoice_noBroken h ha
  · exact State.aisleChoice_noBroken h ha
  · exact State.aisleChoice_noBroken h ha
  · rfl

theorem State.reevaluate_noBroken (h : s.NoBroken) (ha : s.NoneFlying aouFirst) (z : ZoneId) : s.reevaluate z = s := by
  unfold State.reevaluate
  generalize List.finRange 12 = l
  induction l with
  | nil => rfl
  | cons k rest ih =>
    rw [List.foldl_cons]
    split
    · rw [State.turn_noBroken h ha]; exact ih
    · exact ih

theorem State.reevaluateZones_noBroken (h : s.NoBroken) (ha : s.NoneFlying aouFirst) (zs : List ZoneId) :
    s.reevaluateZones zs = s := by
  unfold State.reevaluateZones
  generalize List.finRange 8 = l
  induction l with
  | nil => rfl
  | cons z rest ih =>
    rw [List.foldl_cons]
    split
    · rw [State.reevaluate_noBroken h ha]; exact ih
    · exact ih

/-- A state that agrees with a quiet one on the maps and has no release in flight has nothing to re-evaluate. -/
theorem State.Quiet.reevaluate (h : s.Quiet) (e : t.smu = s.smu) (ha : t.NoneFlying aouFirst) (z : ZoneId) :
    t.reevaluate z = t := State.reevaluate_noBroken (h.1.of_smu e) ha z

end Sys2Proof.Machine
end

