-- ==== Sys2Proof/Laws/Dispatch.lean ====
section
/-! SUPPORT. What the units leave of the Piecing Dispatcher: a request to the SMU or the AOU leaves all of it, a choice, a
re-evaluation and the takings before an event leave its enables; none of them takes a frame-running notice (R21; log 56). And the
passing of a robot's deadline, case by case (R79). -/

namespace Sys2Proof.Machine

variable {s t u : State} {f : FrameId} {k : RobotId}

/-! ### The two conditions -/

/-- From `s` to `t` no frame-running notice has been taken. -/
def State.KeepsNotices (s t : State) : Prop :=
  ∀ f, .frameRunningNotice f ∈ s.inFlight → .frameRunningNotice f ∈ t.inFlight

/-- From `s` to `t` the PCD is as it was, and no frame-running notice has been taken. -/
structure State.KeepsDispatch (s t : State) : Prop where
  pcd : t.pcd = s.pcd
  notices : s.KeepsNotices t

/-- From `s` to `t` the enables are as they were, and no frame-running notice has been taken. -/
structure State.KeepsEnables (s t : State) : Prop where
  enabling : t.pcd.enabling = s.pcd.enabling
  notices : s.KeepsNotices t

theorem State.KeepsDispatch.refl : s.KeepsDispatch s := ⟨rfl, fun _ h => h⟩

theorem State.KeepsDispatch.trans (h : s.KeepsDispatch t) (h' : t.KeepsDispatch u) : s.KeepsDispatch u :=
  ⟨h'.pcd.trans h.pcd, fun f m => h'.notices f (h.notices f m)⟩

theorem State.KeepsEnables.refl : s.KeepsEnables s := ⟨rfl, fun _ h => h⟩

theorem State.KeepsEnables.trans (h : s.KeepsEnables t) (h' : t.KeepsEnables u) : s.KeepsEnables u :=
  ⟨h'.enabling.trans h.enabling, fun f m => h'.notices f (h.notices f m)⟩

theorem State.KeepsDispatch.enables (h : s.KeepsDispatch t) : s.KeepsEnables t := ⟨by rw [h.pcd], h.notices⟩

theorem State.KeepsDispatch.of_append {l : List Instr} (h : t.pcd = s.pcd) (e : t.inFlight = s.inFlight ++ l) :
    s.KeepsDispatch t := ⟨h, fun f m => by rw [e]; exact List.mem_append_left _ m⟩

theorem State.KeepsDispatch.of_eq (h : t.pcd = s.pcd) (e : t.inFlight = s.inFlight) : s.KeepsDispatch t :=
  ⟨h, fun f m => by rw [e]; exact m⟩

theorem State.KeepsEnables.of_eq (h : t.pcd.enabling = s.pcd.enabling) (e : t.inFlight = s.inFlight) : s.KeepsEnables t :=
  ⟨h, fun f m => by rw [e]; exact m⟩

theorem State.KeepsDispatch.foldl {α : Type} {op : State → α → State} (h : ∀ (s : State) (a : α), s.KeepsDispatch (op s a)) (l : List α) :
    s.KeepsDispatch (l.foldl op s) := by
  induction l generalizing s with
  | nil => exact .refl
  | cons a rest ih => exact (h s a).trans ih

theorem State.KeepsEnables.foldl {α : Type} {op : State → α → State} (h : ∀ (s : State) (a : α), s.KeepsEnables (op s a)) (l : List α) :
    s.KeepsEnables (l.foldl op s) := by
  induction l generalizing s with
  | nil => exact .refl
  | cons a rest ih => exact (h s a).trans ih

/-- Hand-offs in flight that are no frame-running notices are taken, and what is done with each leaves the PCD. -/
theorem State.KeepsDispatch.takeMatching {p : Instr → Bool} {app : Instr → State → State}
    (hp : ∀ f, p (.frameRunningNotice f) = false) (h : ∀ (c : Instr) (s : State), s.KeepsDispatch (app c s)) :
    s.KeepsDispatch (s.takeMatching p app) := by
  have g : State.KeepsDispatch { s with inFlight := s.inFlight.filter fun h => !p h } (s.takeMatching p app) :=
    .foldl (fun s c => h c s) _
  exact ⟨g.pcd, fun f m => g.notices f (List.mem_filter.2 ⟨m, by simp [hp]⟩)⟩

theorem State.KeepsEnables.takeMatching {p : Instr → Bool} {app : Instr → State → State}
    (hp : ∀ f, p (.frameRunningNotice f) = false) (h : ∀ (c : Instr) (s : State), s.KeepsEnables (app c s)) :
    s.KeepsEnables (s.takeMatching p app) := by
  have g : State.KeepsEnables { s with inFlight := s.inFlight.filter fun h => !p h } (s.takeMatching p app) :=
    .foldl (fun s c => h c s) _
  exact ⟨g.enabling, fun f m => g.notices f (List.mem_filter.2 ⟨m, by simp [hp]⟩)⟩

theorem State.keeps_emit (c : Instr) : s.KeepsDispatch (s.emit c) := .of_append rfl rfl

theorem State.keeps_emitAll (l : List Instr) : s.KeepsDispatch (s.emitAll l) := .of_append rfl rfl

theorem State.keeps_sendFloor (node kind : Nat) (p : List Byte) : s.KeepsDispatch (s.sendFloor node kind p) :=
  .of_eq (by simp) (by simp)

theorem State.keeps_alarm (kind : AlarmKind) (c i d : Nat) : s.KeepsDispatch (s.alarm kind c i d) := .of_eq (by simp) (by simp)

theorem State.keeps_modRobot (upd : Robot → Robot) : s.KeepsEnables (s.modRobot k upd) := .of_eq rfl rfl

/-! ### The Spindle Map Unit -/

theorem State.keeps_change (side : Side) (i : Nat) (sp : Spindle) : s.KeepsDispatch (s.change f side i sp) :=
  .of_append rfl rfl

theorem State.keeps_changeMany (upd : Side → Nat → Spindle → Spindle) : s.KeepsDispatch (s.changeMany f upd) :=
  .of_append rfl rfl

theorem State.keeps_makeRogue (side : Side) (i : Nat) (cause : RogueCause) (sp : Spindle) :
    s.KeepsDispatch (s.makeRogue f side i cause sp) := by
  have listed : ∀ s : State, s.KeepsDispatch (s.listRogue f side i cause) := fun s => by
    unfold State.listRogue
    split
    · exact .of_eq rfl rfl
    · have flagged : s.KeepsDispatch (s.latch .rogueListFull) := .of_eq rfl rfl
      exact flagged.trans (State.keeps_alarm _ _ _ _)
  unfold State.makeRogue sendRovingStop
  dsimp only
  exact ((((State.keeps_change _ _ _).trans (State.keeps_sendFloor _ _ _)).trans (listed _)).trans
    (State.keeps_alarm _ _ _ _)).trans (State.keeps_emit _)

theorem State.keeps_failAttempt (side : Side) (i : Nat) : s.KeepsDispatch (s.failAttempt f side i) := by
  unfold State.failAttempt
  dsimp only
  split
  · exact State.keeps_makeRogue _ _ _ _
  · exact State.keeps_change _ _ _

theorem State.keeps_smuReady : s.KeepsDispatch (s.smuReady f) := by
  refine .takeMatching (fun _ => rfl) fun c s => ?_
  unfold smuTakeFirst
  split <;> first | exact State.keeps_changeMany _ | exact .refl

theorem State.keeps_smuTake (c : Instr) : s.KeepsDispatch (smuTake s c) := by
  unfold smuTake
  split
  · rename_i g side i verify
    refine (State.keeps_smuReady (f := g)).trans ?_
    unfold State.takePiecing
    dsimp only
    split <;> first | exact State.keeps_change _ _ _ | exact .refl
  · rename_i g side i
    refine (State.keeps_smuReady (f := g)).trans ?_
    unfold State.takeFailure
    dsimp only
    split
    · split <;> first | exact State.keeps_change _ _ _ | exact State.keeps_failAttempt _ _
    · exact .refl
  · rename_i g side i
    refine (State.keeps_smuReady (f := g)).trans ?_
    unfold State.takeWithdraw
    dsimp only
    split <;> first | exact State.keeps_change _ _ _ | exact .refl
  · rename_i g side i
    refine (State.keeps_smuReady (f := g)).trans ?_
    unfold State.takeVerifyExpiry
    split <;> first | exact State.keeps_failAttempt _ _ | exact .refl
  · exact .refl

theorem State.keeps_assignRequest (side : Side) (i : Nat) : s.KeepsDispatch (s.assignRequest f side i).2 := by
  have asked : s.KeepsDispatch (s.takeMatching (pcdToSmu f) fun h s => smuTake s h) :=
    .takeMatching (fun _ => rfl) fun c _ => State.keeps_smuTake c
  unfold State.assignRequest
  dsimp only
  refine (asked.trans (State.keeps_smuReady (f := f))).trans ?_
  split <;> first | exact State.keeps_change _ _ _ | exact .refl

/-! ### The Aisle Occupancy Unit -/

theorem State.keeps_holdStep (d : DofferId) : s.KeepsDispatch (s.holdStep d) := by
  unfold State.holdStep
  dsimp only
  split
  · have held : s.KeepsDispatch ((s.reservedFor d).foldl (fun s a => s.setHolder a (.doffer d)) s) :=
      .foldl (op := fun s a => s.setHolder a (.doffer d)) (fun _ _ => .of_eq rfl rfl) _
    split
    · exact held.trans (State.keeps_emit _)
    · exact held
  · exact .refl

theorem State.keeps_takeRobotRelease (a : AisleId) : s.KeepsDispatch (s.takeRobotRelease k a) := by
  unfold State.takeRobotRelease
  split
  · have freed : s.KeepsDispatch (s.setHolder a .none) := .of_eq rfl rfl
    simp only
    split
    · exact freed.trans (State.keeps_emit _)
    · exact freed.trans (State.keeps_holdStep _)
  · exact .refl

theorem State.keeps_aouReady : s.KeepsDispatch s.aouReady := by
  refine .takeMatching (fun _ => rfl) fun c s => ?_
  unfold aouTakeRobot
  split <;> first | exact State.keeps_takeRobotRelease _ | exact .refl

theorem State.keeps_robotGrant (a : AisleId) : s.KeepsDispatch (s.robotGrant k a).2 := by
  unfold State.robotGrant
  dsimp only
  refine State.keeps_aouReady.trans ?_
  have held : s.aouReady.KeepsDispatch (s.aouReady.setHolder a (.robot k)) := .of_eq rfl rfl
  split
  · exact .refl
  · split
    · split <;> first | exact held.trans (State.keeps_takeRobotRelease _) | exact held
    · exact .refl

theorem State.keeps_grantAlong (l : List AisleId) : s.KeepsDispatch (s.grantAlong k l).2 := by
  induction l generalizing s with
  | nil => exact .refl
  | cons a rest ih =>
    rw [State.grantAlong]
    refine State.keeps_aouReady.trans ?_
    split
    · have g := State.keeps_robotGrant (s := s.aouReady) (k := k) a
      generalize (s.aouReady.robotGrant k a) = p at g
      obtain ⟨b, v⟩ := p
      cases b
      · exact g.trans ih
      · exact g
    · exact ih

/-! ### The choices and the re-evaluation (R81 to R86) -/

theorem State.keeps_takeSatisfied (side : Side) (i : Nat) : s.KeepsEnables (s.takeSatisfied f side i) := by
  unfold State.takeSatisfied
  simp only
  split <;> exact .of_eq rfl rfl

theorem State.keeps_pcdTakeAbout (c : Instr) : s.KeepsEnables (pcdTakeAbout s c) := by
  unfold pcdTakeAbout
  split <;> first | exact State.keeps_takeSatisfied _ _ | exact .of_eq rfl rfl

theorem State.keeps_assign (c : Candidate) : s.KeepsEnables (s.assign k c) := by
  unfold State.assign sendAssign
  refine State.KeepsEnables.trans
    (.takeMatching (p := aboutSpindle c.frame c.side c.index) (fun _ => rfl) fun h s => State.keeps_pcdTakeAbout h) ?_
  exact ((State.keeps_modRobot _).trans (State.keeps_sendFloor _ _ _).enables).trans (State.keeps_modRobot _)

theorem State.keeps_aisleChoice : s.KeepsEnables (s.aisleChoice k) := by
  unfold State.aisleChoice sendMove State.startMove
  simp only
  have g := State.keeps_grantAlong (s := s) (k := k)
    (cycleAfter (s.patrol (s.robotZone k)) (if (s.robot k).state = .idle then (s.robot k).aisle else none))
  generalize s.grantAlong k _ = p at g
  obtain ⟨b, v⟩ := p
  cases b
  · exact g.enables
  · exact (g.enables.trans (State.keeps_sendFloor _ _ _).enables).trans (State.keeps_modRobot _)

theorem State.keeps_inAisle (a : AisleId) (fuel : Nat) (refused : List Candidate) :
    s.KeepsEnables (s.inAisle k a fuel refused) := by
  induction fuel generalizing s refused with
  | zero => exact State.keeps_aisleChoice
  | succ n ih =>
    rw [State.inAisle]
    simp only
    split
    · exact State.keeps_aisleChoice
    · rename_i dir c _
      have g := (State.keeps_assignRequest (s := s.modRobot k fun r => { r with sweep := dir }) (f := c.frame) c.side c.index).enables
      generalize State.assignRequest c.frame c.side c.index (s.modRobot k fun r => { r with sweep := dir }) = p at g
      obtain ⟨b, v⟩ := p
      cases b
      · exact ((State.keeps_modRobot _).trans g).trans (ih _)
      · exact ((State.keeps_modRobot _).trans g).trans (State.keeps_assign _)

theorem State.keeps_turn : s.KeepsEnables (s.turn k) := by
  unfold State.turn
  simp only
  split <;> first | exact .refl | exact State.keeps_inAisle _ _ _ | exact State.keeps_aisleChoice

theorem State.keeps_reevaluate (z : ZoneId) : s.KeepsEnables (s.reevaluate z) := by
  unfold State.reevaluate
  refine .foldl (fun s k => ?_) _
  split <;> first | exact State.keeps_turn | exact .refl

theorem State.keeps_reevaluateZones (zs : List ZoneId) : s.KeepsEnables (s.reevaluateZones zs) := by
  unfold State.reevaluateZones
  refine .foldl (op := fun s z => if zs.contains z then s.reevaluate z else s) (fun s z => ?_) _
  by_cases h : zs.contains z = true
  · simp only [h, if_true]
    exact State.keeps_reevaluate z
  · simp only [h, if_false, Bool.false_eq_true]
    exact .refl

/-! ### A robot at work has a deadline (R79) -/

/-- A PIECING robot `k` has a running deadline. -/
def State.OnTime (k : RobotId) (s : State) : Prop := (s.robot k).state = .piecing → (s.robot k).deadline ≠ none

theorem State.OnTime.keeps (h : s.OnTime k) (e : s.KeepsDispatch t) : t.OnTime k := by
  unfold State.OnTime State.robot
  rw [e.pcd]
  exact h

theorem State.OnTime.modRobot {j : RobotId} {upd : Robot → Robot} (h : s.OnTime k)
    (hu : ∀ r, (r.state = .piecing → r.deadline ≠ none) → (upd r).state = .piecing → (upd r).deadline ≠ none) :
    (s.modRobot j upd).OnTime k := by
  unfold State.OnTime State.modRobot
  by_cases e : j = k
  · subst e; simpa using hu _ h
  · rw [State.robot_setRobot_ne _ e]; exact h

theorem State.OnTime.foldl {α : Type} {op : State → α → State} (hop : ∀ (s : State) (a : α), s.OnTime k → (op s a).OnTime k)
    (l : List α) (h : s.OnTime k) : (l.foldl op s).OnTime k := by
  induction l generalizing s with
  | nil => exact h
  | cons a rest ih => exact ih (hop s a h)

theorem State.OnTime.takeSatisfied (h : s.OnTime k) (side : Side) (i : Nat) : (s.takeSatisfied f side i).OnTime k := by
  unfold State.takeSatisfied
  dsimp only
  split
  · exact h.modRobot fun r hr => hr
  · exact h

theorem State.OnTime.pcdTakeAbout (h : s.OnTime k) (c : Instr) : (pcdTakeAbout s c).OnTime k := by
  unfold Machine.pcdTakeAbout
  split <;> first | exact h.takeSatisfied _ _ | exact h

theorem State.OnTime.takeMatching {p : Instr → Bool} {app : Instr → State → State}
    (happ : ∀ (c : Instr) (s : State), s.OnTime k → (app c s).OnTime k) (h : s.OnTime k) : (s.takeMatching p app).OnTime k := by
  have h' : State.OnTime k { s with inFlight := s.inFlight.filter fun h => !p h } := h
  exact State.OnTime.foldl (op := fun s h => app h s) (fun s c hs => happ c s hs) (s.inFlight.filter p) h'

theorem State.OnTime.assign {j : RobotId} (h : s.OnTime k) (c : Candidate) : (s.assign j c).OnTime k := by
  have about : (s.takeMatching (aboutSpindle c.frame c.side c.index) fun h s => Machine.pcdTakeAbout s h).OnTime k :=
    h.takeMatching fun c _ hs => hs.pcdTakeAbout c
  have named := about.modRobot (j := j) (upd := fun r =>
    { r with assignment := some { frame := c.frame, side := c.side, index := c.index, satisfied := false } }) fun _ hr => hr
  exact (named.keeps (State.keeps_sendFloor _ _ _)).modRobot fun _ _ _ => Option.some_ne_none _

theorem State.OnTime.startMove {j : RobotId} (h : s.OnTime k) (a : AisleId) : (s.startMove j a).OnTime k :=
  h.modRobot fun _ _ e => by simp at e

theorem State.OnTime.aisleChoice {j : RobotId} (h : s.OnTime k) : (s.aisleChoice j).OnTime k := by
  unfold State.aisleChoice
  dsimp only
  have g := State.keeps_grantAlong (s := s) (k := j)
    (cycleAfter (s.patrol (s.robotZone j)) (if (s.robot j).state = .idle then (s.robot j).aisle else none))
  generalize s.grantAlong j _ = p at g
  obtain ⟨b, v⟩ := p
  cases b
  · exact h.keeps g
  · exact ((h.keeps g).keeps (State.keeps_sendFloor _ _ _)).startMove _

theorem State.OnTime.inAisle {j : RobotId} (h : s.OnTime k) (a : AisleId) (fuel : Nat) (refused : List Candidate) :
    (s.inAisle j a fuel refused).OnTime k := by
  induction fuel generalizing s refused with
  | zero => exact h.aisleChoice
  | succ n ih =>
    rw [State.inAisle]
    dsimp only
    split
    · exact h.aisleChoice
    · rename_i dir c _
      have h' : (s.modRobot j fun r => { r with sweep := dir }).OnTime k := h.modRobot fun r hr => hr
      have g := State.keeps_assignRequest (s := s.modRobot j fun r => { r with sweep := dir }) (f := c.frame) c.side c.index
      generalize State.assignRequest c.frame c.side c.index (s.modRobot j fun r => { r with sweep := dir }) = p at g
      obtain ⟨b, v⟩ := p
      cases b
      · exact ih (h'.keeps g) _
      · exact (h'.keeps g).assign _

theorem State.OnTime.turn {j : RobotId} (h : s.OnTime k) : (s.turn j).OnTime k := by
  unfold State.turn
  dsimp only
  split <;> first | exact h.inAisle _ _ _ | exact h.aisleChoice | exact h

theorem State.OnTime.reevaluate (h : s.OnTime k) (z : ZoneId) : (s.reevaluate z).OnTime k := by
  unfold State.reevaluate
  refine State.OnTime.foldl (fun s j hs => ?_) _ h
  split <;> first | exact hs.turn | exact hs

theorem State.OnTime.reevaluateZones (h : s.OnTime k) (zs : List ZoneId) : (s.reevaluateZones zs).OnTime k := by
  unfold State.reevaluateZones
  refine State.OnTime.foldl (op := fun s z => if zs.contains z then s.reevaluate z else s) (fun s z hs => ?_) _ h
  by_cases e : zs.contains z = true
  · simp only [e, if_true]
    exact hs.reevaluate z
  · simp only [e, if_false, Bool.false_eq_true]
    exact hs

/-- The cancel of a frame leaves a robot at work on it IDLE (R99). -/
theorem State.abandonFrame_idle (h : k ∈ s.robotsOn f) : ((s.abandonFrame f).robot k).state = .idle := by
  have idle : ∀ (l : List RobotId) (u : State), (k ∈ l ∨ (u.robot k).state = .idle) →
      ((l.foldl (fun s k => (sendAbandon k s).modRobot k fun r =>
        { r with state := .idle, assignment := none, deadline := none }) u).robot k).state = .idle := by
    intro l
    induction l with
    | nil => intro u h; simpa using h
    | cons j rest ih =>
      intro u h
      refine ih _ ?_
      by_cases e : j = k
      · subst e; right; simp [State.modRobot]
      · rcases h with h | h
        · left; simpa [Ne.symm e] using h
        · right
          dsimp only [State.modRobot]
          rw [State.robot_setRobot_ne _ e]
          simpa [State.robot, sendAbandon] using h
  exact idle _ _ (.inl h)

/-- A robot that the cancel of a frame sends on is PIECING with a deadline given afresh, or not PIECING (R79, R99). -/
theorem State.onTime_cancelPiecing (h : k ∈ s.robotsOn f) : (s.cancelPiecing f).OnTime k := by
  have left : (s.abandonFrame f).OnTime k := fun e => by rw [State.abandonFrame_idle h] at e; cases e
  exact left.reevaluateZones _

/-! ### What the PCD takes before an event (R99, R101, R118) -/

theorem State.keeps_recall (a : AisleId) : s.KeepsEnables (s.recall k a) := by
  have leave : ∀ s : State, s.KeepsEnables (s.leave k a) := fun s => by
    unfold State.leave sendLeave
    exact (State.keeps_aouReady.enables.trans (State.keeps_sendFloor _ _ _).enables).trans (State.keeps_modRobot _)
  have withdraw : s.KeepsDispatch (s.withdraw k) := by
    unfold State.withdraw
    split
    · split <;> first | exact .refl | exact State.keeps_emit _
    · exact .refl
  unfold State.recall sendAbandon
  split
  · exact ((withdraw.trans (State.keeps_sendFloor _ _ _)).enables.trans (State.keeps_modRobot _)).trans (leave _)
  · exact leave _
  · exact leave _
  all_goals exact .refl

theorem State.keeps_takeRecalls : s.KeepsEnables s.takeRecalls := by
  refine .takeMatching (fun _ => rfl) fun c s => ?_
  unfold pcdTakeRecall
  split <;> first | exact State.keeps_recall _ | exact .refl

theorem State.keeps_cancelFrames (fs : List FrameId) : s.KeepsEnables (s.cancelFrames fs) := by
  unfold State.cancelFrames
  refine State.KeepsEnables.trans (.foldl (fun s f => ?_) _) (State.keeps_reevaluateZones _)
  unfold State.abandonFrame sendAbandon
  refine State.KeepsEnables.trans (.foldl (fun s k => ?_) _) (.of_eq rfl rfl)
  exact (State.keeps_sendFloor _ _ _).enables.trans (State.keeps_modRobot _)

theorem State.keeps_takeCancels (fs : List FrameId) (also : FrameId → Bool) : s.KeepsEnables (s.takeCancels fs also) := by
  unfold State.takeCancels
  have g := State.keeps_cancelFrames (s := { s with inFlight := s.inFlight.filter fun h => !s.cancelDue also h })
    (fs ++ (s.inFlight.filter (s.cancelDue also)).filterMap cancelledFrame)
  exact ⟨g.enabling, fun f m => g.notices f (List.mem_filter.2 ⟨m, rfl⟩)⟩

theorem State.keeps_pcdReady : s.KeepsEnables s.pcdReady := State.keeps_takeRecalls.trans (State.keeps_takeCancels _ _)

theorem State.keeps_pcdReadyFor : s.KeepsEnables (s.pcdReadyFor f) :=
  State.keeps_takeRecalls.trans (State.keeps_takeCancels _ _)

/-! ### The enable of a frame (R21; log 56) -/

@[simp] theorem State.enablesDue_copyReport (c : Instr) : (s.copyReport c).enablesDue f = s.enablesDue f := by
  simp [State.enablesDue]

/-- A flying frame-running notice that is next brings the enables of its frame one down. -/
theorem State.enablesDue_takeNotices_running (h : .frameRunningNotice f ∈ s.inFlight)
    (h' : s.Next (dcuToPcd f) (.frameRunningNotice f)) :
    (s.takeNotices (dcuToPcd f) (.frameRunningNotice f)).enablesDue f = s.enablesDue f - 1 := by
  have ready := State.keeps_pcdReady (s := s)
  have due := ready.notices f h
  have z := State.keeps_reevaluateZones
    (s := (s.pcdReady.drop (.frameRunningNotice f)).noteRunning f)
    ((((s.pcdReady.drop (.frameRunningNotice f)).entry f).presentSides.map
      ((s.pcdReady.drop (.frameRunningNotice f)).entry f).aisle).filterMap
      ((s.pcdReady.drop (.frameRunningNotice f)).noteRunning f).zoneOf)
  have e : s.takeNotices (dcuToPcd f) (.frameRunningNotice f) =
      pcdTake (s.pcdReady.drop (.frameRunningNotice f)) (.frameRunningNotice f) := by
    simp [State.takeNotices, State.whenOn, h'.1, h'.2, State.takeNotice, State.readyForNotice, h, due]
  rw [e]
  show (State.reevaluateAisles _ _).pcd.enabling.get f = _
  unfold State.reevaluateAisles
  rw [z.enabling]
  simp [State.noteRunning, State.enablesDue, ready.enabling]

/-- With no enable outstanding the PCD has nothing of it to apply. -/
theorem State.enableApplied_none (h : s.enablesDue f = 0) : s.enableApplied f = s := by simp [State.enableApplied, h]

/-- Before a floor report for a frame with an enable outstanding the PCD takes its notice, and what is then still outstanding. -/
theorem State.enableApplied_succ {n : Nat} (h : s.enablesDue f = n + 1) :
    s.enableApplied f = (List.replicate n (Instr.frameRunningNotice f)).foldl (fun s c => s.takeNotices (dcuToPcd f) c)
      (s.takeNotices (dcuToPcd f) (.frameRunningNotice f)) := by
  simp [State.enableApplied, h, List.replicate_succ]

theorem State.pcdReadyForReport_none (h : s.enablesDue f = 0) (h' : s.NoneFlying pcdBefore) : s.pcdReadyForReport f = s := by
  rw [State.pcdReadyForReport, State.enableApplied_none h, State.pcdReadyFor_none h']

/-! ### The passing of a robot's deadline (R79) -/

/-- With no deadline running nothing passes. -/
theorem State.deadlinePasses_none {st : RobotState} {app : State → State} (h : s.power = .on) (h' : (s.robot k).deadline = none) :
    s.deadlinePasses k st app = s := by simp [State.deadlinePasses, h, h']

/-- In another state of the robot nothing passes. -/
theorem State.deadlinePasses_other {st : RobotState} {app : State → State} (h : s.power = .on) (h' : (s.robot k).state ≠ st) :
    s.deadlinePasses k st app = s := by
  rw [State.deadlinePasses, State.whenOn_on _ _ h]
  split <;> simp [h']

/-- With nothing of the PCD in flight the deadline of a robot in its state passes; it no longer stands in the record. -/
theorem State.deadlinePasses_due {st : RobotState} {app : State → State} {t : Nat} (h : s.power = .on)
    (h' : s.NoneFlying pcdBefore) (hs : (s.robot k).state = st) (hd : (s.robot k).deadline = some t) :
    s.deadlinePasses k st app = app ((s.setRobot k { s.robot k with deadline := none }).reach t) := by
  have ready : State.pcdReadyRobot k (s.modRobot k fun r => { r with deadline := none }) =
      s.setRobot k { s.robot k with deadline := none } := State.pcdReadyRobot_none (s := s.setRobot k _) h'
  simp [State.deadlinePasses, h, hs, hd, ready]

end Sys2Proof.Machine
end

