-- ==== Sys2Proof/Laws/PerInstr.lean ====
section
/-! SUPPORT. A family of statements about the commands as syntax: the telegram that a well-formed report or management
telegram is has a payload that Table 1-1 allows and a kind code of the direction of its port (Table 1-2). -/

namespace Sys2Proof.Laws.Telegrams

/-- The direction of the telegrams that a port delivers to the part (Table 1-2). -/
def portDir : Port → Dir
  | .floor => .floorUp
  | .uplink => .millDown

/-- The telegram of a well-formed command fits Table 1-1, and its kind code has the direction of its port. -/
def Statement (i : Instr) : Prop :=
  i.wf = true → ∀ t, encodeTelegram i = some t → t.payload.length ≤ 40 ∧ kindDir t.kind.toNat = some (portDir i.port)

theorem length_beBytes (n v : Nat) : (beBytes n v).length = n := by
  induction n with
  | zero => rfl
  | succ n ih => simp [beBytes, ih]

/-- A TABLE-WRITE with at most 36 bytes of values fits. -/
theorem write_fits {q table index mask : Nat} {values : List Byte} {t : Telegram} (hv : values.length ≤ 36)
    (h : some (tableWriteTelegram q table index mask values) = some t) :
    t.payload.length ≤ 40 ∧ kindDir t.kind.toNat = some .millDown := by
  obtain rfl := Option.some.inj h
  exact ⟨by simp [tableWriteTelegram, telegram, length_beBytes]; omega, rfl⟩

theorem checkError (port : Port) (bytes : List Byte) : Statement (.checkError port bytes) := fun _ _ h => nomatch h
theorem malformed (port : Port) (bytes : List Byte) : Statement (.malformed port bytes) := fun _ _ h => nomatch h
theorem unknownNode (port : Port) (bytes : List Byte) : Statement (.unknownNode port bytes) := fun _ _ h => nomatch h
theorem floorMaintenance (bytes : List Byte) : Statement (.floorMaintenance bytes) := fun _ _ h => nomatch h
theorem downTelegram (bytes : List Byte) : Statement (.downTelegram bytes) := fun _ _ h => nomatch h
theorem transmitComplete (port : Port) : Statement (.transmitComplete port) := fun _ _ h => nomatch h
theorem delivery (node seq pulse : Nat) : Statement (.delivery node seq pulse) :=
  fun _ _ h => Option.some.inj h ▸ ⟨by simp [telegram, length_beBytes], rfl⟩
theorem dcuDeliveryHandoff (f : FrameId) (dL : Nat) (target : Bool) : Statement (.dcuDeliveryHandoff f dL target) :=
  fun _ _ h => nomatch h
theorem spuDeliveryHandoff (f : FrameId) (dL : Nat) (fill : Option Nat) : Statement (.spuDeliveryHandoff f dL fill) :=
  fun _ _ h => nomatch h
theorem scuDeliveryHandoff (f : FrameId) (dL r p mtex : Nat) : Statement (.scuDeliveryHandoff f dL r p mtex) :=
  fun _ _ h => nomatch h
theorem rsuRovingHandoff (f : FrameId) (dR : Nat) : Statement (.rsuRovingHandoff f dR) := fun _ _ h => nomatch h
theorem breakReport (node seq side index : Nat) : Statement (.breakReport node seq side index) :=
  fun _ _ h => Option.some.inj h ▸ ⟨by simp [telegram, length_beBytes], rfl⟩
theorem runReport (node seq side index : Nat) : Statement (.runReport node seq side index) :=
  fun _ _ h => Option.some.inj h ▸ ⟨by simp [telegram, length_beBytes], rfl⟩
theorem sideState (node seq side first count : Nat) (bits : List Byte) : Statement (.sideState node seq side first count bits) := by
  intro hw t h
  obtain rfl := Option.some.inj h
  simp [Instr.wf, bitBytes] at hw
  exact ⟨by simp [telegram, length_beBytes]; omega, rfl⟩
theorem stopped (node seq : Nat) : Statement (.stopped node seq) :=
  fun _ _ h => Option.some.inj h ▸ ⟨Nat.zero_le _, rfl⟩
theorem robotReady (node seq aisle position : Nat) : Statement (.robotReady node seq aisle position) :=
  fun _ _ h => Option.some.inj h ▸ ⟨by simp [telegram, length_beBytes], rfl⟩
theorem robotPos (node seq aisle position : Nat) : Statement (.robotPos node seq aisle position) :=
  fun _ _ h => Option.some.inj h ▸ ⟨by simp [telegram, length_beBytes], rfl⟩
theorem pieced (node seq frame side index : Nat) : Statement (.pieced node seq frame side index) :=
  fun _ _ h => Option.some.inj h ▸ ⟨by simp [telegram, length_beBytes], rfl⟩
theorem notPieced (node seq frame side index cause : Nat) : Statement (.notPieced node seq frame side index cause) :=
  fun _ _ h => Option.some.inj h ▸ ⟨by simp [telegram, length_beBytes], rfl⟩
theorem robotLeft (node seq : Nat) : Statement (.robotLeft node seq) :=
  fun _ _ h => Option.some.inj h ▸ ⟨Nat.zero_le _, rfl⟩
theorem dofferReady (node seq : Nat) : Statement (.dofferReady node seq) :=
  fun _ _ h => Option.some.inj h ▸ ⟨Nat.zero_le _, rfl⟩
theorem doffDone (node seq frame : Nat) : Statement (.doffDone node seq frame) :=
  fun _ _ h => Option.some.inj h ▸ ⟨by simp [telegram, length_beBytes], rfl⟩
theorem dofferFault (node seq : Nat) : Statement (.dofferFault node seq) :=
  fun _ _ h => Option.some.inj h ▸ ⟨Nat.zero_le _, rfl⟩
theorem carrierReady (node seq load : Nat) : Statement (.carrierReady node seq load) :=
  fun _ _ h => Option.some.inj h ▸ ⟨by simp [telegram, length_beBytes], rfl⟩
theorem arrived (node seq frame group : Nat) : Statement (.arrived node seq frame group) :=
  fun _ _ h => Option.some.inj h ▸ ⟨by simp [telegram, length_beBytes], rfl⟩
theorem changeDone (node seq frame group : Nat) : Statement (.changeDone node seq frame group) :=
  fun _ _ h => Option.some.inj h ▸ ⟨by simp [telegram, length_beBytes], rfl⟩
theorem carrierFault (node seq : Nat) : Statement (.carrierFault node seq) :=
  fun _ _ h => Option.some.inj h ▸ ⟨Nat.zero_le _, rfl⟩
theorem tableWrite (seq table index mask : Nat) (values : List Byte) : Statement (.tableWrite seq table index mask values) :=
  fun hw _ h => by
  simp [Instr.wf, writeWf] at hw
  exact write_fits (by omega) h
theorem frameEnable (seq index mask : Nat) (values : List Byte) : Statement (.frameEnable seq index mask values) :=
  fun hw _ h => by
  simp [Instr.wf, writeRestWf] at hw
  exact write_fits (by simp; omega) h
theorem frameDisable (seq index mask : Nat) (values : List Byte) : Statement (.frameDisable seq index mask values) :=
  fun hw _ h => by
  simp [Instr.wf, writeRestWf] at hw
  exact write_fits (by simp; omega) h
theorem frameTableWrite (seq index mask : Nat) (values : List Byte) : Statement (.frameTableWrite seq index mask values) :=
  fun hw _ h => by
  simp [Instr.wf, writeWf] at hw
  exact write_fits (by omega) h
theorem articleTableWrite (seq index mask : Nat) (values : List Byte) : Statement (.articleTableWrite seq index mask values) :=
  fun hw _ h => by
  simp [Instr.wf, writeWf] at hw
  exact write_fits (by omega) h
theorem zoneTableWrite (seq index mask : Nat) (values : List Byte) : Statement (.zoneTableWrite seq index mask values) :=
  fun hw _ h => by
  simp [Instr.wf, writeWf] at hw
  exact write_fits (by omega) h
theorem robotEnable (seq index mask : Nat) (values : List Byte) : Statement (.robotEnable seq index mask values) :=
  fun hw _ h => by
  simp [Instr.wf, writeRestWf] at hw
  exact write_fits (by simp; omega) h
theorem robotDisable (seq index mask : Nat) (values : List Byte) : Statement (.robotDisable seq index mask values) :=
  fun hw _ h => by
  simp [Instr.wf, writeRestWf] at hw
  exact write_fits (by simp; omega) h
theorem robotZoneChange (seq index zone : Nat) : Statement (.robotZoneChange seq index zone) :=
  fun _ _ h => write_fits (by simp [length_beBytes]) h
theorem dofferEnable (seq index mask : Nat) (values : List Byte) : Statement (.dofferEnable seq index mask values) :=
  fun hw _ h => by
  simp [Instr.wf, writeRestWf] at hw
  exact write_fits (by simp; omega) h
theorem dofferDisable (seq index mask : Nat) (values : List Byte) : Statement (.dofferDisable seq index mask values) :=
  fun hw _ h => by
  simp [Instr.wf, writeRestWf] at hw
  exact write_fits (by simp; omega) h
theorem dofferReachWrite (seq index reach : Nat) : Statement (.dofferReachWrite seq index reach) :=
  fun _ _ h => write_fits (by simp [length_beBytes]) h
theorem carrierEnable (seq index mask : Nat) (values : List Byte) : Statement (.carrierEnable seq index mask values) :=
  fun hw _ h => by
  simp [Instr.wf, writeRestWf] at hw
  exact write_fits (by simp; omega) h
theorem carrierDisable (seq index mask : Nat) (values : List Byte) : Statement (.carrierDisable seq index mask values) :=
  fun hw _ h => by
  simp [Instr.wf, writeRestWf] at hw
  exact write_fits (by simp; omega) h
theorem lineSettingsWrite (seq index mask : Nat) (values : List Byte) : Statement (.lineSettingsWrite seq index mask values) :=
  fun hw _ h => by
  simp [Instr.wf, writeWf] at hw
  exact write_fits (by omega) h
theorem dispositionTableWrite (seq index mask : Nat) (values : List Byte) : Statement (.dispositionTableWrite seq index mask values) :=
  fun hw _ h => by
  simp [Instr.wf, writeWf] at hw
  exact write_fits (by omega) h
theorem tableRead (seq table index : Nat) : Statement (.tableRead seq table index) :=
  fun _ _ h => Option.some.inj h ▸ ⟨by simp [telegram, length_beBytes], rfl⟩
theorem stateRead (seq cls index : Nat) : Statement (.stateRead seq cls index) :=
  fun _ _ h => Option.some.inj h ▸ ⟨by simp [telegram, length_beBytes], rfl⟩
theorem mapRead (seq frame side first count : Nat) : Statement (.mapRead seq frame side first count) :=
  fun _ _ h => Option.some.inj h ▸ ⟨by simp [telegram, length_beBytes], rfl⟩
theorem listRead (seq list first count : Nat) : Statement (.listRead seq list first count) :=
  fun _ _ h => Option.some.inj h ▸ ⟨by simp [telegram, length_beBytes], rfl⟩
theorem releaseSpindle (seq frame side index : Nat) : Statement (.releaseSpindle seq frame side index) :=
  fun _ _ h => Option.some.inj h ▸ ⟨by simp [telegram, length_beBytes], rfl⟩
theorem countsRead (seq frame record clear : Nat) : Statement (.countsRead seq frame record clear) :=
  fun _ _ h => Option.some.inj h ▸ ⟨by simp [telegram, length_beBytes], rfl⟩
theorem shiftClose (seq shift : Nat) : Statement (.shiftClose seq shift) :=
  fun _ _ h => Option.some.inj h ▸ ⟨by simp [telegram, length_beBytes], rfl⟩
theorem hold (seq frame command : Nat) : Statement (.hold seq frame command) :=
  fun _ _ h => Option.some.inj h ▸ ⟨by simp [telegram, length_beBytes], rfl⟩
theorem resume (seq frame : Nat) : Statement (.resume seq frame) :=
  fun _ _ h => Option.some.inj h ▸ ⟨by simp [telegram, length_beBytes], rfl⟩
theorem doffNow (seq frame : Nat) : Statement (.doffNow seq frame) :=
  fun _ _ h => Option.some.inj h ▸ ⟨by simp [telegram, length_beBytes], rfl⟩
theorem groupLoaded (seq frame group length : Nat) : Statement (.groupLoaded seq frame group length) :=
  fun _ _ h => Option.some.inj h ▸ ⟨by simp [telegram, length_beBytes], rfl⟩
theorem flagsRead (seq clear : Nat) : Statement (.flagsRead seq clear) :=
  fun _ _ h => Option.some.inj h ▸ ⟨by simp [telegram, length_beBytes], rfl⟩
theorem partReset (seq : Nat) : Statement (.partReset seq) :=
  fun _ _ h => Option.some.inj h ▸ ⟨Nat.zero_le _, rfl⟩
theorem lineReset (pins : Fin 32) : Statement (.lineReset pins) := fun _ _ h => nomatch h
theorem pinReset (pins : Fin 32) : Statement (.pinReset pins) := fun _ _ h => nomatch h
theorem supplyFail (mv : Nat) : Statement (.supplyFail mv) := fun _ _ h => nomatch h
theorem supplyResetExit (mv : Nat) (pins : Fin 32) : Statement (.supplyResetExit mv pins) := fun _ _ h => nomatch h
theorem vretLoss : Statement .vretLoss := fun _ _ h => nomatch h
theorem supplyFall (mv : Nat) : Statement (.supplyFall mv) := fun _ _ h => nomatch h
theorem supplyRise (mv : Nat) : Statement (.supplyRise mv) := fun _ _ h => nomatch h
theorem snapshotRead : Statement .snapshotRead := fun _ _ h => nomatch h
theorem secondsTick : Statement .secondsTick := fun _ _ h => nomatch h
theorem piecingDeadlineExpiry (k : RobotId) : Statement (.piecingDeadlineExpiry k) := fun _ _ h => nomatch h
theorem moveDeadlineExpiry (k : RobotId) : Statement (.moveDeadlineExpiry k) := fun _ _ h => nomatch h
theorem leavingDeadlineExpiry (k : RobotId) : Statement (.leavingDeadlineExpiry k) := fun _ _ h => nomatch h
theorem verifyDeadlineExpiry : Statement .verifyDeadlineExpiry := fun _ _ h => nomatch h
theorem verifyExpiry (f : FrameId) (side : Side) (index : Nat) : Statement (.verifyExpiry f side index) :=
  fun _ _ h => nomatch h
theorem stopTimerExpiry (f : FrameId) : Statement (.stopTimerExpiry f) := fun _ _ h => nomatch h
theorem doffTimerExpiry (d : DofferId) : Statement (.doffTimerExpiry d) := fun _ _ h => nomatch h
theorem travelTimerExpiry (c : CarrierId) : Statement (.travelTimerExpiry c) := fun _ _ h => nomatch h
theorem changeTimerExpiry (c : CarrierId) : Statement (.changeTimerExpiry c) := fun _ _ h => nomatch h
theorem piecingRequest (f : FrameId) (side : Side) (index : Nat) (verify : Bool) : Statement (.piecingRequest f side index verify) :=
  fun _ _ h => nomatch h
theorem failureRequest (f : FrameId) (side : Side) (index : Nat) : Statement (.failureRequest f side index) :=
  fun _ _ h => nomatch h
theorem withdrawRequest (f : FrameId) (side : Side) (index : Nat) : Statement (.withdrawRequest f side index) :=
  fun _ _ h => nomatch h
theorem smuPiecingCancel (f : FrameId) : Statement (.smuPiecingCancel f) := fun _ _ h => nomatch h
theorem pcdPiecingCancel (f : FrameId) : Statement (.pcdPiecingCancel f) := fun _ _ h => nomatch h
theorem starveGroup (f : FrameId) (g : GroupId) : Statement (.starveGroup f g) := fun _ _ h => nomatch h
theorem spindleDoffCompletion (f : FrameId) : Statement (.spindleDoffCompletion f) := fun _ _ h => nomatch h
theorem verifyEntryRemove (f : FrameId) (side : Side) (index : Nat) : Statement (.verifyEntryRemove f side index) :=
  fun _ _ h => nomatch h
theorem satisfiedNotice (f : FrameId) (side : Side) (index : Nat) : Statement (.satisfiedNotice f side index) :=
  fun _ _ h => nomatch h
theorem brokenNotice (f : FrameId) (side : Side) (index : Nat) : Statement (.brokenNotice f side index) :=
  fun _ _ h => nomatch h
theorem frameRunningNotice (f : FrameId) : Statement (.frameRunningNotice f) := fun _ _ h => nomatch h
theorem groupReevaluation (f : FrameId) (g : GroupId) : Statement (.groupReevaluation f g) := fun _ _ h => nomatch h
theorem freeAisleNotice (a : AisleId) : Statement (.freeAisleNotice a) := fun _ _ h => nomatch h
theorem robotRelease (k : RobotId) (a : AisleId) : Statement (.robotRelease k a) := fun _ _ h => nomatch h
theorem lastAssignedNotice (f : FrameId) (g : GroupId) : Statement (.lastAssignedNotice f g) := fun _ _ h => nomatch h
theorem robotRecall (k : RobotId) (a : AisleId) : Statement (.robotRecall k a) := fun _ _ h => nomatch h
theorem dofferReservation (d : DofferId) (f : FrameId) : Statement (.dofferReservation d f) := fun _ _ h => nomatch h
theorem dofferRelease (d : DofferId) : Statement (.dofferRelease d) := fun _ _ h => nomatch h
theorem aislesHeldNotice (d : DofferId) (f : FrameId) : Statement (.aislesHeldNotice d f) := fun _ _ h => nomatch h
theorem dauDoffCompletion (f : FrameId) (switched : Bool) : Statement (.dauDoffCompletion f switched) :=
  fun _ _ h => nomatch h
theorem spuDoffCompletion (f : FrameId) (switched : Bool) : Statement (.spuDoffCompletion f switched) :=
  fun _ _ h => nomatch h
theorem spuResumeRequest (f : FrameId) (restart : Bool) : Statement (.spuResumeRequest f restart) :=
  fun _ _ h => nomatch h
theorem monitoredBreak (f : FrameId) : Statement (.monitoredBreak f) := fun _ _ h => nomatch h
theorem scuBreak (f : FrameId) : Statement (.scuBreak f) := fun _ _ h => nomatch h
theorem scuRovingEndBreak (f : FrameId) : Statement (.scuRovingEndBreak f) := fun _ _ h => nomatch h
theorem scuRogueEvent (f : FrameId) : Statement (.scuRogueEvent f) := fun _ _ h => nomatch h
theorem scuSuccessfulPiecing (f : FrameId) : Statement (.scuSuccessfulPiecing f) := fun _ _ h => nomatch h
theorem scuFailedPiecing (f : FrameId) : Statement (.scuFailedPiecing f) := fun _ _ h => nomatch h
theorem scuDoff (f : FrameId) : Statement (.scuDoff f) := fun _ _ h => nomatch h
theorem scuStoppedSecond (f : FrameId) : Statement (.scuStoppedSecond f) := fun _ _ h => nomatch h
theorem scuDoffWaitSecond (f : FrameId) : Statement (.scuDoffWaitSecond f) := fun _ _ h => nomatch h
theorem rstnRises (pins : Fin 32) : Statement (.rstnRises pins) := fun _ _ h => nomatch h

end Sys2Proof.Laws.Telegrams
end

