-- ==== Sys2Proof/Tests/Slice0.lean ====
section
/-! SUPPORT. Tests on small values: ill-formed commands are refused, written-out telegrams decode to their commands, worked
examples of the spec, and for every obligation with hypotheses a state and operands that meet them, clause by clause. -/

namespace Sys2Proof.Tests

open Sys2Proof Sys2Proof.Machine

set_option Elab.async false

/-! ### Well-formedness: one ill-formed command for each check -/

theorem test_wf_header : ([.stopped 256 0, .stopped 0 256, .delivery 256 0 0, .breakReport 0 256 0 0] : List Instr).all
    (fun i => !i.wf) = true := by decide

theorem test_wf_report_fields : ([.delivery 0 0 65536, .breakReport 0 0 256 0, .breakReport 0 0 0 65536,
    .runReport 0 0 256 0, .runReport 0 0 0 65536, .robotReady 0 0 256 0, .robotReady 0 0 0 65536, .robotPos 0 0 256 0,
    .robotPos 0 0 0 65536, .pieced 0 0 256 0 0, .pieced 0 0 0 256 0, .pieced 0 0 0 0 65536, .notPieced 0 0 256 0 0 0,
    .notPieced 0 0 0 256 0 0, .notPieced 0 0 0 0 65536 0, .notPieced 0 0 0 0 0 256, .doffDone 0 0 256,
    .carrierReady 0 0 4294967296, .arrived 0 0 256 0, .arrived 0 0 0 256, .changeDone 0 0 256 0, .changeDone 0 0 0 256] :
    List Instr).all (fun i => !i.wf) = true := by decide

theorem test_wf_side_state : ([.sideState 0 0 256 0 1 [0], .sideState 0 0 0 65536 1 [0], .sideState 0 0 0 0 0 [],
    .sideState 0 0 0 0 257 (.replicate 33 0), .sideState 0 0 0 0 9 [0]] : List Instr).all (fun i => !i.wf) = true := by
  decide

theorem test_wf_writes : ([.articleTableWrite 256 0 0 [], .articleTableWrite 0 256 0 [], .articleTableWrite 0 0 65536 [],
    .zoneTableWrite 0 0 0 (.replicate 37 0), .frameEnable 0 0 1 [], .frameDisable 0 0 0 (.replicate 36 0),
    .frameTableWrite 0 0 1 [1], .robotEnable 0 0 3 [], .robotDisable 0 256 0 [], .robotZoneChange 256 0 0,
    .robotZoneChange 0 256 0, .robotZoneChange 0 0 256, .dofferEnable 0 0 1 [], .dofferDisable 256 0 0 [],
    .dofferReachWrite 256 0 0, .dofferReachWrite 0 256 0, .dofferReachWrite 0 0 281474976710656, .carrierEnable 0 0 1 [],
    .carrierDisable 0 0 65536 [], .lineSettingsWrite 256 0 0 [], .dispositionTableWrite 0 256 0 []] : List Instr).all
    (fun i => !i.wf) = true := by decide

theorem test_wf_other_table_write : ([.tableWrite 0 256 0 0 [], .tableWrite 0 0 0 0 [], .tableWrite 0 3 0 2 [5],
    .tableWrite 0 3 0 1 [1], .tableWrite 0 4 0 2 [0, 0, 0, 0, 0, 1], .tableWrite 0 4 0 1 [0], .tableWrite 0 5 0 1 [1]] :
    List Instr).all (fun i => !i.wf) = true := by decide

theorem test_wf_management : ([.tableRead 256 0 0, .tableRead 0 256 0, .tableRead 0 0 256, .stateRead 256 0 0,
    .stateRead 0 256 0, .stateRead 0 0 65536, .mapRead 256 0 0 0 0, .mapRead 0 256 0 0 0, .mapRead 0 0 256 0 0,
    .mapRead 0 0 0 65536 0, .mapRead 0 0 0 0 256, .listRead 256 0 0 0, .listRead 0 256 0 0, .listRead 0 0 256 0,
    .listRead 0 0 0 256, .releaseSpindle 256 0 0 0, .releaseSpindle 0 256 0 0, .releaseSpindle 0 0 256 0,
    .releaseSpindle 0 0 0 65536, .countsRead 256 0 0 0, .countsRead 0 256 0 0, .countsRead 0 0 256 0,
    .countsRead 0 0 0 256, .shiftClose 256 0, .shiftClose 0 65536, .hold 256 0 0, .hold 0 256 0, .hold 0 0 256,
    .hold 0 0 1, .resume 256 0, .resume 0 256, .doffNow 256 0, .doffNow 0 256, .groupLoaded 256 0 0 0,
    .groupLoaded 0 256 0 0, .groupLoaded 0 0 256 0, .groupLoaded 0 0 0 4294967296, .flagsRead 256 0, .flagsRead 0 256,
    .partReset 256] : List Instr).all (fun i => !i.wf) = true := by decide

theorem test_wf_handoffs : ([.dcuDeliveryHandoff 0 16776961 false, .spuDeliveryHandoff 0 16776961 none,
    .spuDeliveryHandoff 0 0 (some 65536), .scuDeliveryHandoff 0 16776961 0 0 0, .scuDeliveryHandoff 0 0 2 1 0,
    .scuDeliveryHandoff 0 0 0 2049 0, .scuDeliveryHandoff 0 0 0 0 200001, .rsuRovingHandoff 0 16776961,
    .verifyExpiry 0 .A 1024, .piecingRequest 0 .A 1024 true, .failureRequest 0 .A 1024, .withdrawRequest 0 .A 1024,
    .verifyEntryRemove 0 .A 1024, .satisfiedNotice 0 .A 1024, .brokenNotice 0 .A 1024] : List Instr).all
    (fun i => !i.wf) = true := by decide

theorem test_wf_supply : ([.supplyFail 2850, .supplyResetExit 2850 0, .supplyFall 2849, .supplyRise 2849] :
    List Instr).all (fun i => !i.wf) = true := by decide

theorem test_wf_accepts : ([.delivery 0x2F 255 65535, .sideState 0 0 1 0 256 (.replicate 32 0xFF),
    .tableWrite 1 4 0 6 [0, 0, 0, 0, 0, 1, 30], .frameEnable 1 47 0xFFE (.replicate 18 0), .hold 0 47 4,
    .dofferReachWrite 0 7 0xFFFFFFFFFFFF, .supplyFail 2849, .supplyFall 2850] : List Instr).all Instr.wf = true := by decide

/-! ### Telegrams written out byte by byte from Tables 1-1 and 1-2, check fields included -/

theorem test_decode_delivery : decodeTelegram .floor [0x01, 0x0E, 0x07, 0x02, 0x12, 0x34, 0xA8, 0x93] =
    .delivery 14 7 0x1234 := by decide +kernel

theorem test_decode_break : decodeTelegram .floor [0x02, 0x0E, 0x01, 0x03, 0x01, 0x02, 0xBC, 0x17, 0x06] =
    .breakReport 14 1 1 700 := by decide +kernel

theorem test_decode_run : decodeTelegram .floor [0x03, 0x2F, 0x02, 0x03, 0x00, 0x00, 0x09, 0x97, 0x31] =
    .runReport 47 2 0 9 := by decide +kernel

theorem test_decode_side_state : decodeTelegram .floor
    [0x04, 0x03, 0x00, 0x07, 0x01, 0x00, 0x10, 0x00, 0x09, 0xA5, 0x80, 0xA2, 0x36] =
    .sideState 3 0 1 16 9 [0xA5, 0x80] := by decide +kernel

theorem test_decode_stopped : decodeTelegram .floor [0x05, 0x03, 0x09, 0x00, 0xDB, 0x4D] =
    .stopped 3 9 := by decide +kernel

theorem test_decode_robot_ready : decodeTelegram .floor [0x10, 0x4B, 0x04, 0x03, 0x3F, 0x07, 0xFF, 0x13, 0x2E] =
    .robotReady 0x4B 4 63 2047 := by decide +kernel

theorem test_decode_not_pieced : decodeTelegram .floor [0x13, 0x40, 0x04, 0x05, 0x0E, 0x01, 0x00, 0x05, 0x02, 0x74, 0x74] =
    .notPieced 0x40 4 14 1 5 2 := by decide +kernel

theorem test_decode_doff_done : decodeTelegram .floor [0x19, 0x57, 0x04, 0x01, 0x1E, 0x85, 0x32] =
    .doffDone 0x57 4 30 := by decide +kernel

theorem test_decode_carrier_ready : decodeTelegram .floor [0x1C, 0x58, 0x04, 0x04, 0x00, 0x3D, 0x09, 0x00, 0xD6, 0xCC] =
    .carrierReady 0x58 4 4000000 := by decide +kernel

theorem test_decode_change_done : decodeTelegram .floor [0x1E, 0x5F, 0x04, 0x02, 0x1E, 0x11, 0x62, 0x01] =
    .changeDone 0x5F 4 30 17 := by decide +kernel

theorem test_decode_frame_enable : decodeTelegram .uplink
    [0x40, 0xFF, 0x05, 0x06, 0x00, 0x0E, 0x04, 0x01, 0x01, 0x02, 0xD7, 0x9F] =
    .frameEnable 5 14 0x400 [2] := by decide +kernel

theorem test_decode_frame_disable : decodeTelegram .uplink
    [0x40, 0xFF, 0x05, 0x05, 0x00, 0x0E, 0x00, 0x01, 0x00, 0x78, 0x29] =
    .frameDisable 5 14 0 [] := by decide +kernel

theorem test_decode_frame_table_write : decodeTelegram .uplink
    [0x40, 0xFF, 0x05, 0x05, 0x00, 0x0E, 0x08, 0x00, 0x02, 0xC2, 0xFB] =
    .frameTableWrite 5 14 0x800 [2] := by decide +kernel

theorem test_decode_robot_zone_change : decodeTelegram .uplink
    [0x40, 0xFF, 0x05, 0x05, 0x03, 0x02, 0x00, 0x02, 0x07, 0xFC, 0x7D] =
    .robotZoneChange 5 2 7 := by decide +kernel

theorem test_decode_doffer_reach_write : decodeTelegram .uplink
    [0x40, 0xFF, 0x05, 0x0A, 0x04, 0x01, 0x00, 0x02, 0x00, 0x00, 0x00, 0x00, 0x01, 0x03, 0xBE, 0x10] =
    .dofferReachWrite 5 1 0x103 := by decide +kernel

theorem test_decode_carrier_timeout_write : decodeTelegram .uplink
    [0x40, 0xFF, 0x05, 0x06, 0x05, 0x01, 0x00, 0x06, 0x14, 0x1E, 0x91, 0x3D] =
    .tableWrite 5 5 1 6 [20, 30] := by decide +kernel

theorem test_decode_disposition_write : decodeTelegram .uplink
    [0x40, 0xFF, 0x05, 0x05, 0x07, 0x11, 0x00, 0x01, 0x00, 0xD0, 0xB4] =
    .dispositionTableWrite 5 0x11 1 [0] := by decide +kernel

theorem test_decode_state_read : decodeTelegram .uplink [0x42, 0xFF, 0x05, 0x03, 0x04, 0x05, 0xFF, 0x9D, 0x30] =
    .stateRead 5 4 1535 := by decide +kernel

theorem test_decode_map_read : decodeTelegram .uplink [0x43, 0xFF, 0x06, 0x05, 0x0E, 0x81, 0x00, 0x03, 0x13, 0x0F, 0xA1] =
    .mapRead 6 14 0x81 3 19 := by decide +kernel

theorem test_decode_shift_close : decodeTelegram .uplink [0x47, 0xFF, 0x06, 0x02, 0x01, 0x9C, 0xCE, 0x13] =
    .shiftClose 6 412 := by decide +kernel

theorem test_decode_hold : decodeTelegram .uplink [0x48, 0xFF, 0x06, 0x02, 0x0E, 0x00, 0x59, 0x1B] =
    .hold 6 14 0 := by decide +kernel

theorem test_decode_group_loaded : decodeTelegram .uplink
    [0x48, 0xFF, 0x06, 0x07, 0x0E, 0x03, 0x10, 0x00, 0x3D, 0x09, 0x00, 0x07, 0x9E] =
    .groupLoaded 6 14 16 4000000 := by decide +kernel

theorem test_decode_flags_read : decodeTelegram .uplink [0x49, 0xFF, 0x06, 0x01, 0x01, 0x72, 0x0B] =
    .flagsRead 6 1 := by decide +kernel

theorem test_decode_part_reset : decodeTelegram .uplink [0x4A, 0xFF, 0x06, 0x00, 0xE7, 0x32] =
    .partReset 6 := by decide +kernel

theorem test_decode_maintenance : decodeTelegram .floor [0x0F, 0x03, 0x06, 0x01, 0x09, 0xFF, 0x91] =
    .floorMaintenance [0x0F, 0x03, 0x06, 0x01, 0x09, 0xFF, 0x91] := by decide +kernel

theorem test_decode_down : decodeTelegram .uplink [0x31, 0x7F, 0x06, 0x01, 0x09, 0x31, 0x90] =
    .downTelegram [0x31, 0x7F, 0x06, 0x01, 0x09, 0x31, 0x90] := by decide +kernel

theorem test_decode_malformed : decodeTelegram .floor [0x01, 0x03, 0x06, 0x01, 0x09, 0x30, 0x39] =
    .malformed .floor [0x01, 0x03, 0x06, 0x01, 0x09, 0x30, 0x39] := by decide +kernel

theorem test_decode_check_error : decodeTelegram .floor [0x05, 0x03, 0x09, 0x00, 0xDB, 0x4C] =
    .checkError .floor [0x05, 0x03, 0x09, 0x00, 0xDB, 0x4C] := by decide +kernel

/-- The check register after the nine bytes of the digits 1 to 9, the usual check value of this generator. -/
theorem test_crc : crc [0x31, 0x32, 0x33, 0x34, 0x35, 0x36, 0x37, 0x38, 0x39] = 0x29B1#16 := by decide +kernel

/-! ### A small mill: frame 0 RUNNING on article 0 with four spindles a side, one zone, robot, doffer and carrier -/

/-- One spindle with no attempt and no repeat. -/
def spin (state : SpindleState) : Spindle := { state, attempts := 0, repeats := 0 }

/-- Article 0 of the mill. -/
def thread : Article :=
  { Article.initial with
    defined := 1, density := 20000, startUp := 50, coeffs := .fill 6 256000, minRpm := 500, maxRpm := 30000,
    highThreshold := 2, lowThreshold := 1, quietIntervals := 2, attemptLimit := 2, repeatLimit := 3, lowMark := 100 }

/-- Frame 0 of the mill: side A in aisle 1, side B in aisle 2. -/
def entry0 : FrameEntry := { FrameEntry.initial with enabled := 1, lengthA := 4, lengthB := 4, aisleA := 1, aisleB := 2 }

def mill : State :=
  let s := State.blank 0 .initial .on false 3200 0 []
  let four := List.replicate 4 (spin .running)
  let s :=
    { s with
      store := { s.store with
        frames := (s.store.frames.set 0 entry0).set 1 { entry0 with enabled := 0 },
        articles := s.store.articles.set 0 thread,
        zones := s.store.zones.set 0 { ZoneEntry.initial with count := 2, slots := [1, 2] ++ List.replicate 14 0xFF },
        robots := s.store.robots.set 0 { enabled := 1, zone := 0 },
        doffers := s.store.doffers.set 0 { enabled := 1, reach := 1, timeout := 30 },
        carriers := s.store.carriers.set 0 { enabled := 1, travelTimeout := 10, changeTimeout := 10 } },
      ssu := { s.ssu with comparator := .normal }, timer := 5000, ticks := 5 }
  let s := s.setCycle 0 { FrameCycle.initial with state := .running }
  let s := s.setMap 0 { sideA := four, sideB := four, running := 8, populated := 8 }
  let s := s.setDelivery 0 { Delivery.initial with baseline := true }
  let s := s.setGroup 0 0 (some { remaining := 500, state := .supplied, sequence := none, carrier := none })
  s.setGroup 0 16 (some { remaining := 500, state := .supplied, sequence := none, carrier := none })

/-- The mill with spindle A 0 of frame 0 in a state, and frame 0 in a state. -/
def millWith (sp : Spindle) (fs : FrameState) : State :=
  (mill.setMap 0
    { sideA := sp :: List.replicate 3 (spin .running), sideB := List.replicate 4 (spin .running), running := 7,
      populated := 8 }).setCycle 0 { FrameCycle.initial with state := fs }

/-- A state with group 0 of frame 0 at a figure. -/
def figure (remaining : Nat) (state : SupplyState) (carrier : Option CarrierId) (s : State) : State :=
  s.setGroup 0 0 (some { remaining, state, sequence := none, carrier })

/-- The mill with robot 0 as given, holding aisle 1. -/
def robotMill (r : Robot) : State := (mill.setRobot 0 r).setAisle 1 { holder := .robot 0, reservedBy := none }

def robotIn (state : RobotState) : Robot := { Robot.initial with state, aisle := some 1, deadline := some 9000 }

/-- A robot at work on spindle A 0 of frame 0. -/
def piecer (satisfied : Bool) : Robot :=
  { robotIn .piecing with assignment := some { frame := 0, side := .A, index := 0, satisfied } }

/-- The mill with doffer 0 and frame 0 as given, each recording the other. -/
def doffMill (ds : DofferState) (fs : FrameState) (held : Bool) : State :=
  (mill.setDoffer 0
    { state := ds, frame := some 0, held, reach := 1, reachPending := none, timer := some 9000 }).setCycle 0
    { FrameCycle.initial with state := fs, claim := some 0 }

/-- The mill with carrier 0 on a trip to group 0 of frame 0. -/
def carrierMill (cs : CarrierState) (gs : SupplyState) : State :=
  figure 20 gs (some 0) (mill.setCarrier 0 { state := cs, trip := some (0, 0), load := 4000000, timer := some 9000 })

/-- The mill once a line reset has begun. -/
def resetMill : State := { mill with store := { mill.store with resetWait := some 0 } }

/-- No spindle of the line is BROKEN where none of the listed records is. -/
theorem noBroken_of {s : State}
    (h : ((List.finRange 48).all fun f => ((s.map f).sideA ++ (s.map f).sideB).all fun sp => sp.state != .broken) = true) :
    s.NoBroken := by
  intro f side i hb
  have hf := List.all_eq_true.mp h f (List.mem_finRange f)
  rw [List.all_append, Bool.and_eq_true, List.all_eq_true, List.all_eq_true] at hf
  have key : ∀ l : List Spindle, (∀ sp ∈ l, (sp.state != .broken) = true) → ((l[i]?).getD Spindle.vacant).state ≠ .broken := by
    intro l hl
    cases hi : l[i]? with
    | none => simp [Spindle.vacant]
    | some sp => simpa using hl sp (List.mem_of_getElem? hi)
  cases side
  · exact key _ hf.1 hb
  · exact key _ hf.2 hb

/-- A condition on every group record of the line. -/
theorem groups_of {s : State} {P : FrameId → GroupId → Group → Bool}
    (h : ((List.finRange 48).all fun f => (List.finRange 32).all fun g => (s.groupRecord f g).all (P f g)) = true) :
    ∀ f g r, s.groupRecord f g = some r → P f g r = true := by
  intro f g r hr
  have := List.all_eq_true.mp (List.all_eq_true.mp h f (List.mem_finRange f)) g (List.mem_finRange g)
  simpa [hr] using this

theorem mill_quiet : mill.Quiet := ⟨noBroken_of (by decide +kernel), by decide +kernel, by decide +kernel⟩

/-! ### Worked examples of the spec -/

/-- What a statement of one step looks at: a property of the next state. -/
def after (o : Host.Outcome State Fault Refusal) (p : State → Bool) : Bool :=
  match o with
  | .next t => p t
  | _ => false

/-- Frame 14 of spec/10 section 10.6, before the hand-off. -/
def shiftMill : State :=
  (mill.setEntry 14 entry0).setCount 14
    { counts :=
        { Counts.zero with
          delivered := 2350000, possible := 3835200000, produced := 3512640000, mass := 25923283, breaks := 4212 },
      restored := true, lost := false, saturated := false, massResidue := 330000 }

/-- spec/10 section 10.6, the hand-off taken first. -/
theorem test_shift_example : after (Sys2Proof.Machine.exec (.scuDeliveryHandoff 14 1019 1500 1632 7380) shiftMill)
    (fun t => decide ((t.count 14).counts.delivered = 2351019 ∧ (t.count 14).counts.possible = 3836863008
      ∧ (t.count 14).counts.produced = 3514168500 ∧ (t.count 14).counts.mass = 25934563 ∧ (t.count 14).massResidue = 660000)) =
    true := by decide +kernel

/-- spec/10 section 10.6, the close taken first: 9,158 basis points. -/
theorem test_close_example : after (Sys2Proof.Machine.exec (.shiftClose 1 412) shiftMill)
    (fun t => decide ((t.scu.closed.get 14).efficiency = 9158 ∧ (t.scu.closed.get 14).shift = 412
      ∧ (t.count 14).massResidue = 330000 ∧ (t.count 14).counts = .zero)) = true := by decide +kernel

/-- spec/01 section 1.9: with 57 entries held a copy is refused and counted, with 55 it is admitted. -/
theorem test_copy_share : after (Sys2Proof.Machine.exec (.breakReport 0 1 0 0)
      (mill.setUpQueue (.replicate 57 (telegram 0x60 0xFF 0 []))))
      (fun t => decide (t.link.upQueue.length = 57 ∧ t.counter .upCopyLoss = 1 ∧ t.flagSet .upCopyLoss = true)) = true
    ∧ after (Sys2Proof.Machine.exec (.breakReport 0 1 0 0) (mill.setUpQueue (.replicate 55 (telegram 0x60 0xFF 0 []))))
      (fun t => decide (t.link.upQueue.length = 56 ∧ t.counter .upCopyLoss = 0)) = true := by decide +kernel

/-- R189, R53, R12, R187: what stands in the queues right after a power-on reset. -/
theorem test_reset_queues : State.reset.link.upQueue.map Telegram.bytes =
      [[0x62, 0xFF, 0x00, 0x04, 0x00, 0x00, 0x02, 0x00, 0x79, 0x35]]
    ∧ State.reset.link.floorQueue.map Telegram.bytes = [[0x26, 0x7F, 0x00, 0x00, 0x60, 0x2E]]
    ∧ State.reset.flagSet .lost = true := by decide +kernel

/-- A counter that wraps gives the difference modulo 65,536 (R40). -/
theorem test_delivery_wraps : after (Sys2Proof.Machine.exec (.delivery 0 1 4)
      (mill.setDelivery 0 { Delivery.initial with baseline := true, lastPulse := 65530 }))
    (fun t => decide ((t.deliveryRecord 0).cop = 10 ∧ (t.deliveryRecord 0).lastPulse = 4)) = true := by decide +kernel

/-- The halves go toward plus infinity (R143) and derating floors (R144). -/
theorem test_rounding : roundRpm 384 = 2 ∧ roundRpm (-384) = -1 ∧ derate 9999 1 1 = 9899 ∧ derate (-1) 1 1 = -1 := by
  decide +kernel

/-- A cancel of the frame in flight ends a verify entry before its deadline passes (R99, R118). -/
theorem test_cancel_before_expiry :
    let e : VerifyEntry := { frame := 0, side := .A, index := 0, deadline := 5000 };
    after (Sys2Proof.Machine.exec .verifyDeadlineExpiry ((mill.setVerify [e]).emit (.pcdPiecingCancel 0)))
        (fun t => decide (t.pcd.verify = [] ∧ t.inFlight = [])) = true
      ∧ after (Sys2Proof.Machine.exec .verifyDeadlineExpiry (mill.setVerify [e]))
        (fun t => decide (t.pcd.verify = [] ∧ t.inFlight = [.verifyExpiry 0 .A 0])) = true := by decide +kernel

/-- R82: the regrant that a cancel brings takes the old satisfied notice of the spindle first, and the new assignment stays
unsatisfied. -/
theorem test_old_notice_before_grant :
    let s := (((millWith (spin .broken) .running).setRobot 0 (piecer false)).setAisle 1
      { holder := .robot 0, reservedBy := none }).emitAll [.satisfiedNotice 0 .A 0, .pcdPiecingCancel 0];
    after (Sys2Proof.Machine.exec (.satisfiedNotice 0 .A 0) s)
      (fun t => decide ((t.spindle 0 .A 0).state = .assigned ∧ t.inFlight = []
        ∧ (t.robot 0).assignment = some { frame := 0, side := .A, index := 0, satisfied := false })) = true := by
  decide +kernel

/-- R82, R118: the choice at the notice that a frame runs again comes after the cancel made since, which takes nothing of it. -/
theorem test_cancel_before_choice :
    let s := (((millWith (spin .broken) .running).setRobot 0 (robotIn .idle)).setAisle 1
      { holder := .robot 0, reservedBy := none }).emitAll [.frameRunningNotice 0, .pcdPiecingCancel 0];
    after (Sys2Proof.Machine.exec (.pcdPiecingCancel 0) s)
      (fun t => decide ((t.spindle 0 .A 0).state = .assigned ∧ t.inFlight = [] ∧ (t.robot 0).state = .piecing)) = true := by
  decide +kernel

/-- R79, R99: the cancel of frame 0, held, is in flight as the piecing deadline passes; the robot takes the new break of frame 1
in its aisle at once, with a new deadline, the timer stands and the robot is not UNRESPONSIVE. -/
theorem test_cancel_before_robot_expiry :
    let s := ((((millWith (spin .assigned) .held).setRobot 0 (piecer false)).setAisle 1
      { holder := .robot 0, reservedBy := none }).setEntry 1 entry0).setCycle 1 { FrameCycle.initial with state := .running };
    let s := ((s.setMap 1 { sideA := [spin .broken], sideB := [], running := 0, populated := 1 }).setGroup 1 0
      (some { remaining := 500, state := .supplied, sequence := none, carrier := none })).emit (.pcdPiecingCancel 0);
    after (Sys2Proof.Machine.exec (.piecingDeadlineExpiry 0) s)
      (fun t => decide ((t.robot 0).state = .piecing ∧ (t.robot 0).deadline = some 65000 ∧ t.timer = 5000
        ∧ (t.robot 0).assignment = some { frame := 1, side := .A, index := 0, satisfied := false }
        ∧ (t.spindle 1 .A 0).state = .assigned ∧ t.inFlight = [] ∧ t.link.upQueue = [])) = true := by decide +kernel

/-- R21: a PIECED for a frame enabled before it finds the PARKED robot of the zone sent to its aisle by the enable. -/
theorem test_enable_before_outcome :
    let s := ((((millWith (spin .broken) .running).setRobot 0 { Robot.initial with state := .parked }).emit
      (.frameRunningNotice 0)).setEnabling 0 1);
    after (Sys2Proof.Machine.exec (.pieced 0x40 0 0 0 0) s)
      (fun t => decide ((t.robot 0).state = .moving ∧ (t.robot 0).aisle = some 1 ∧ t.inFlight = [] ∧ t.enablesDue 0 = 0
        ∧ t.counter .stale = 1)) = true := by decide +kernel

/-- The step takes the command in front and keeps the rest. -/
theorem test_step_order : after (Sys2Proof.Machine.step { mill with pending := [.secondsTick, .vretLoss] })
    (fun t => decide (t.pending = [.vretLoss] ∧ t.ticks = 6)) = true := by decide +kernel

/-! ### States and operands that meet the hypotheses of the statements -/

theorem witness_StepRunsFrontCommand :
    ({ mill with pending := [.secondsTick, .vretLoss] } : State).pending = .secondsTick :: [.vretLoss] := rfl

theorem witness_EmptyQueueStep :
    (∃ s : State, s.pending = [] ∧ s.power ≠ .on)
    ∧ (resetMill.pending = [] ∧ resetMill.power = .on ∧ resetMill.store.resetWait = some 0)
    ∧ (∃ s : State, s.pending = [] ∧ s.power = .on ∧ s.store.resetWait ≠ some 0 ∧ s.inFlight = .scuDoff 0 :: [])
    ∧ (∃ s : State, s.pending = [] ∧ s.power = .on ∧ s.store.resetWait ≠ some 0 ∧ s.inFlight = [] ∧ s.ssu.snapshot = true)
    ∧ (∃ s : State, s.pending = [] ∧ s.power = .on ∧ s.store.resetWait ≠ some 0 ∧ s.inFlight = [] ∧ s.ssu.snapshot = false
        ∧ s.timers = [] ++ (6000, Instr.secondsTick) :: [] ∧ (6000, Instr.secondsTick).1 ≤ s.timer)
    ∧ (mill.pending = [] ∧ mill.power = .on ∧ mill.store.resetWait ≠ some 0 ∧ mill.inFlight = []
      ∧ mill.ssu.snapshot = false ∧ ∀ p ∈ mill.timers, mill.timer < p.1) :=
  ⟨⟨{ mill with power := .heldBySupply }, by decide +kernel⟩, by decide +kernel,
    ⟨mill.emit (.scuDoff 0), by decide +kernel⟩,
    ⟨{ mill with ssu := { mill.ssu with snapshot := true, nextFrame := 47 } }, by decide +kernel⟩,
    ⟨{ mill with timer := 6000 }, by decide +kernel⟩, by decide +kernel⟩

theorem witness_HeldInResetTakesNothing :
    ({ mill with power := .heldByPin true } : State).power ≠ .on ∧ actsInReset (.delivery 0 0 65535) = false := by
  decide +kernel

theorem witness_DecodeInvertsEncode : (Instr.delivery 0x2F 255 65535).wf = true
    ∧ encodeTelegram (.delivery 0x2F 255 65535) = some (telegram 1 0x2F 255 [0xFF, 0xFF])
    ∧ (Instr.tableWrite 0 4 7 6 [0, 0, 0, 0, 0, 1, 60]).wf = true
    ∧ (encodeTelegram (.tableWrite 0 4 7 6 [0, 0, 0, 0, 0, 1, 60])).isSome = true := by decide +kernel

/-- Check error of 5 bytes; length faults of the lowest and the highest management kind; a length fault of a report. -/
theorem witness_DiscardsAreCounted : mill.Hears ∧ resetMill.store.resetWait = some 0
    ∧ (encodeTelegram (.delivery 0 0 0)).isSome = true ∧ Telegram.parse (.replicate 5 0) = none
    ∧ (∀ k ∈ [0x40, 0x4A], let t := telegram k 0xFF 1 [0, 0, 0];
        Telegram.parse t.bytes = some t ∧ decodeTelegram .uplink t.bytes = .malformed .uplink t.bytes)
    ∧ (let t := telegram 0x05 0 1 [0];
        Telegram.parse t.bytes = some t ∧ decodeTelegram .floor t.bytes = .malformed .floor t.bytes) := by
  decide +kernel

theorem witness_UntakenTelegrams : mill.Hears
    ∧ mill.verdict (.delivery 47 0 0) = .unknownNode ∧ (Instr.delivery 47 0 0).port = .floor
    ∧ mill.verdict (.breakReport 0 0 0 4) = .malformed ∧ (Instr.breakReport 0 0 0 4).port = .floor
    ∧ (let t := telegram 0x0F 0x30 1 [];
        Telegram.parse t.bytes = some t ∧ decodeTelegram .floor t.bytes = .floorMaintenance t.bytes
          ∧ isFloorNode t.node.toNat = false ∧ kindDir t.kind.toNat = none)
    ∧ (let t := telegram 0x31 0x60 1 [];
        Telegram.parse t.bytes = some t ∧ decodeTelegram .uplink t.bytes = .downTelegram t.bytes
          ∧ isFloorNode t.node.toNat = false ∧ t.node ≠ 0x7F#8 ∧ t.node ≠ 0xFF#8
          ∧ kindDir t.kind.toNat ≠ some .millDown ∧ kindDir t.kind.toNat ≠ some .millUp)
    ∧ (let t := telegram 0x05 1 1 [];
        Telegram.parse t.bytes = some t ∧ (decodeReport t).isSome = true
          ∧ mill.verdict (decodeTelegram .floor t.bytes) = .unknownNode)
    ∧ (let t := telegram 0xFF 0x2F 1 [];
        Telegram.parse t.bytes = some t ∧ kindDir t.kind.toNat = none ∧ isFloorNode t.node.toNat = true)
    ∧ (∀ n ∈ [0x5F, 0x7F], let t := telegram 0x20 n 1 [];
        Telegram.parse t.bytes = some t ∧ kindDir t.kind.toNat ≠ some .millDown ∧ kindDir t.kind.toNat ≠ some .millUp
          ∧ (isFloorNode t.node.toNat = true ∨ t.node = 0x7F#8)) := by
  decide +kernel

theorem witness_TransmitQueues : mill.link.floorQueue.length < 64
    ∧ 64 ≤ (mill.setFloorQueue (.replicate 64 (telegram 0x21 0 0 []))).link.floorQueue.length
    ∧ mill.link.upQueue.length < 64
    ∧ 64 ≤ (mill.setUpQueue (.replicate 64 (telegram 0x60 0xFF 0 []))).link.upQueue.length
    ∧ mill.power = .on ∧ mill.store.resetWait = none ∧ mill.link.upQueue = [] ∧ resetMill.store.resetWait = some 0
    ∧ (let s := { mill.setUpQueue [telegram 0x60 0xFF 0 []] with store := { mill.store with resetWait := some 1 } };
        s.power = .on ∧ s.store.resetWait = some (0 + 1) ∧ s.link.upQueue = telegram 0x60 0xFF 0 [] :: []) := by
  decide +kernel

/-- No baseline; ΔL = 0 and ΔL = 65,535 with the counter at its ends; doff completions in flight to the DAU, after a switch,
and to the SMU. -/
theorem witness_DeliveryArithmetic :
    (let s := mill.setDelivery 0 .initial;
      s.Takes (.delivery 0 0 65535) ∧ (s.deliveryRecord 0).baseline = false)
    ∧ (∀ p ∈ [0, 65535], mill.Takes (.delivery 0 0 p) ∧ p < 65536 ∧ (mill.deliveryRecord 0).lastPulse < 65536
      ∧ (mill.deliveryRecord 0).baseline = true)
    ∧ (let s := mill.emit (.spindleDoffCompletion 0);
        s.Takes (.delivery 0 0 65535) ∧ (s.deliveryRecord 0).baseline = true ∧ ¬s.NoneFlying (smuFirst 0))
    ∧ (let s := (mill.keepFormer 0 thread).emit (.dauDoffCompletion 0 true);
        s.Takes (.delivery 0 0 65535) ∧ (s.deliveryRecord 0).former = some thread ∧ ¬s.NoneFlying (dauFirst 0))
    ∧ ((0 + (65536 - (mill.deliveryRecord 0).lastPulse)) % 65536 * (mill.entry 0).pulseLength
        + (mill.deliveryRecord 0).lengthResidue) / 65536 = 0
    ∧ 0 < ((65535 + (65536 - (mill.deliveryRecord 0).lastPulse)) % 65536 * (mill.entry 0).pulseLength
        + (mill.deliveryRecord 0).lengthResidue) / 65536 := by
  decide +kernel

theorem witness_DoffCompletionRequests : mill.Next (dauFirst 0) (.dauDoffCompletion 0 true) ∧ mill.enabled 0 = true
    ∧ mill.Next (dauFirst 1) (.dauDoffCompletion 1 false) ∧ mill.enabled 1 = false ∧ mill.NoneFlying (dauFirst 0)
    ∧ mill.Next (spuFirst 0) (.spuDoffCompletion 0 true) ∧ mill.Next (spuFirst 0) (.spuDoffCompletion 0 false)
    ∧ mill.Next (spuFirst 0) (.spuResumeRequest 0 true)
    ∧ (let c : Instr := .dauDoffCompletion 0 true;
        let s := mill.emit c;
        s.power = .on ∧ c ∈ s.inFlight ∧ (s.drop c).NoneFlying (dauFirst 0)
          ∧ after (Sys2Proof.Machine.exec c s) (fun t => t.inFlight == [.spuDoffCompletion 0 true]) = true) := by
  decide +kernel

theorem witness_ScuTakesItems : mill.Next (scuLane 0) (.scuDeliveryHandoff 0 16776960 8 8 20000) ∧ mill.enabled 0 = true
    ∧ mill.Next (scuLane 1) (.scuDeliveryHandoff 1 1 0 0 1) ∧ mill.enabled 1 = false
    ∧ (∀ f, (∀ c ∈ [Instr.scuBreak f, .scuRovingEndBreak f, .scuRogueEvent f], mill.Next (smuToScu f) c)
      ∧ (∀ c ∈ [Instr.scuSuccessfulPiecing f, .scuFailedPiecing f], mill.Next (pcdToScu f) c)
      ∧ ∀ c ∈ [Instr.scuDoff f, .scuStoppedSecond f, .scuDoffWaitSecond f], mill.Next dcuToScu c) := by
  decide +kernel

/-- Every group one above the low mark after the lowering; a group lowered to 0 exactly, one left above it and one at 0. -/
theorem witness_RovingIsLowered : mill.Next (rsuLane 0) (.rsuRovingHandoff 0 399) ∧ mill.enabled 0 = true
    ∧ (∀ g r, mill.groupRecord 0 g = some r → (mill.article 0).lowMark + 399 < r.remaining)
    ∧ (∃ r, mill.groupRecord 0 0 = some r ∧ 0 < r.remaining ∧ r.remaining ≤ 500)
    ∧ (∃ r, mill.groupRecord 0 0 = some r ∧ 499 < r.remaining)
    ∧ (∃ r, (figure 0 .supplied none mill).groupRecord 0 0 = some r ∧ r.remaining = 0)
    ∧ mill.Next (rsuLane 1) (.rsuRovingHandoff 1 1) ∧ mill.enabled 1 = false ∧ mill.groupRecord 0 1 = none :=
  ⟨by decide +kernel, by decide +kernel, fun g r h => by
      have := groups_of (s := mill) (P := fun f _ r => f != 0 || decide ((mill.article 0).lowMark + 399 < r.remaining))
        (by decide +kernel) 0 g r h
      simpa using this,
    ⟨_, rfl, by decide +kernel, by decide +kernel⟩, ⟨_, rfl, by decide +kernel⟩, ⟨_, rfl, by decide +kernel⟩, by decide +kernel⟩

/-- The mill with the speed record of frame 0 one millimetre before the interval and a monitor count. -/
def monitorMill (count : Nat) : State := mill.setSpeed 0 { SpeedRecord.initial with progress := 999, count }

/-- A computation for a fill, for a changed level, and none; the four rows of an interval evaluation at their bounds. -/
theorem witness_SpeedMonitor :
    (let s := monitorMill 2;
      s.Next (spuLane 0) (.spuDeliveryHandoff 0 1 (some 65535)) ∧ s.Next (spuLane 0) (.spuDeliveryHandoff 0 1 none)
        ∧ s.NoneFlying (dauFirst 0) ∧ s.NoneFlying (spuFirst 0) ∧ s.enabled 0 = true ∧ s.frameState 0 = .running
        ∧ ((s.speed 0).advance (s.article 0) 1).level ≠ (s.speed 0).level)
    ∧ (let s := monitorMill 1; ((s.speed 0).advance (s.article 0) 1).level = (s.speed 0).level)
    ∧ mill.enabled 1 = false
    ∧ thread.lowThreshold < thread.highThreshold ∧ thread.highThreshold ≤ 2 ∧ 1 ≤ thread.lowThreshold
    ∧ thread.quietIntervals ≤ 1 + 1 ∧ 0 + 1 < thread.quietIntervals
    ∧ (let a : Article := { thread with highThreshold := 3 }; a.lowThreshold < 2 ∧ 2 < a.highThreshold)
    ∧ 0 < thread.interval ∧ 999 + 0 < thread.interval ∧ thread.interval ≤ 999 + 1 := by
  decide +kernel

theorem witness_RoundingToWholeRpm : ∀ x ∈ [accMin, 0, accMax], accMin ≤ x ∧ x ≤ accMax := by decide

theorem witness_DeratingByLevel : (3 : Nat) ≤ 3 ∧ (25 : Nat) ≤ 25 := by decide

/-- An evaluation within the range with a result inside the rpm limits, one with a result on either side of them, and one that
saturates. -/
theorem witness_SpeedWithinLimits :
    (let a : Article := { thread with degree := 5 };
      a.degree ≤ 5 ∧ (a.polynomial 65535).first = none ∧ a.minRpm ≤ a.maxRpm
        ∧ (a.minRpm : Int) ≤ derate (roundRpm (a.polynomial 65535).acc) 3 a.speedStep
        ∧ derate (roundRpm (a.polynomial 65535).acc) 3 a.speedStep ≤ a.maxRpm)
    ∧ (let derated := fun a : Article => derate (roundRpm (a.polynomial 0).acc) 0 a.speedStep;
        derated { thread with minRpm := 1001 } < 1001 ∧ 999 < derated { thread with maxRpm := 999 })
    ∧ (({ thread with degree := 1, coeffs := .fill 6 0x7FFFFFFF } : Article).polynomial 65535).first = some 0
    ∧ (let sum := fun (acc c : Int) => stageSum acc 65535 c;
        sum 0 accMax = accMax ∧ accMax < sum accMax 32769 ∧ sum 0 accMin = accMin ∧ sum accMin (-32769) < accMin) := by
  decide +kernel

/-- A computation with the same result as the last sent, one with another, and one that is always sent. -/
theorem witness_ComputationIsRecorded :
    (let s := mill.setSpeed 0 { SpeedRecord.initial with lastRpm := some ((mill.article 0).compute 0 0).rpm };
      (s.speed 0).lastRpm = some ((s.article 0).compute (s.speed 0).level 0).rpm)
    ∧ (mill.speed 0).lastRpm ≠ some ((mill.article 0).compute (mill.speed 0).level 0).rpm
    ∧ mill.link.floorQueue.length < 64
    ∧ (let a : Article := { thread with maxRpm := 600 };
        (a.compute 0 0).clampHigh = true ∧ (mill.speed 0).clampHigh = false ∧ (mill.speed 0).sat = false
          ∧ (mill.speed 0).clampLow = false) := by
  decide +kernel

theorem witness_ChangeOfStateIsNotified : 3 < ((mill.map 0).side .A).length := by decide +kernel

/-- The mill with group 0 of frame 0 empty and spindle A 0 as given. -/
def emptyMill (sp : Spindle) (fs : FrameState) : State := figure 0 .supplied none (millWith sp fs)

theorem witness_BreaksByState :
    (∀ s ∈ [emptyMill (spin .running) .running, millWith (spin .running) .starting, millWith (spin .running) .running,
        millWith { spin .running with repeats := 2 } .running, millWith (spin .running) .held,
        millWith (spin .verify) .starting, millWith { spin .verify with attempts := 1 } .running,
        emptyMill (spin .verify) .running],
      s.Takes (.breakReport 0 0 0 0) ∧ s.NoneFlying (smuFirst 0))
    ∧ (emptyMill (spin .running) .running).groupEmpty 0 .A 0 = true
    ∧ (millWith (spin .running) .running).groupEmpty 0 .A 0 = false
    ∧ (millWith (spin .running) .starting).frameState 0 = .starting
    ∧ min (0 + 1) 15 < ((millWith (spin .running) .running).article 0).repeatLimit
    ∧ ((millWith { spin .running with repeats := 2 } .running).article 0).repeatLimit ≤ min (2 + 1) 15
    ∧ ((millWith (spin .running) .held).spindle 0 .A 0).state = .running
    ∧ ((millWith (spin .verify) .starting).spindle 0 .A 0).state = .verify
    ∧ 0 + 1 < ((millWith (spin .verify) .starting).article 0).attemptLimit
    ∧ ((millWith (spin .verify) .running).article 0).attemptLimit ≤ 1 + 1 := by
  decide +kernel

/-- The mill with no spindle in the map of frame 0, and frame 0 in a state. -/
def vacantMill (fs : FrameState) : State := (mill.setMap 0 .empty).setCycle 0 { FrameCycle.initial with state := fs }

/-- The states in which a frame does not spin. -/
def standing : List FrameState := [.offline, .stopping, .doffWait, .doffing, .held]

/-- A report discarded for a VACANT spindle, the frame spinning or not, and one discarded for the frame's state, the spindle in
any state. -/
theorem witness_BreaksByState_discarded :
    (∀ fs ∈ .running :: standing, let s := vacantMill fs;
      s.Takes (.breakReport 0 0 0 0) ∧ s.NoneFlying (smuFirst 0) ∧ (s.spindle 0 .A 0).state = .vacant)
    ∧ (∀ fs ∈ standing, ∀ st ∈ [SpindleState.unknown, .running, .broken, .assigned, .verify, .starved, .rogue],
        let s := millWith (spin st) fs;
        s.Takes (.breakReport 0 0 0 0) ∧ s.NoneFlying (smuFirst 0) ∧ (s.spindle 0 .A 0).state ≠ .vacant
          ∧ s.frameState 0 ≠ .running ∧ s.frameState 0 ≠ .starting) := by
  decide +kernel

theorem witness_UncountedAndDuplicateReports :
    ∀ st ∈ [SpindleState.unknown, .broken, .assigned, .starved, .rogue, .running],
      let s := millWith (spin st) .running;
      s.NoneFlying (smuFirst 0) ∧ s.frameState 0 = .running ∧ (s.spindle 0 .A 0).state = st
        ∧ s.Takes (.breakReport 0 0 0 0) ∧ s.Takes (.runReport 0 0 0 0) := by
  decide +kernel

theorem witness_RunsAndSideStates :
    (∀ st ∈ [SpindleState.unknown, .broken, .starved, .assigned, .verify, .rogue],
      let s := millWith (spin st) .starting;
      s.Takes (.runReport 0 0 0 0) ∧ s.NoneFlying (smuFirst 0) ∧ s.frameState 0 = .starting ∧ (s.spindle 0 .A 0).state = st)
    ∧ (let s := millWith (spin .unknown) .offline;
        s.Takes (.sideState 0 0 0 0 4 [0x70]) ∧ s.NoneFlying (smuFirst 0)
          ∧ ∀ j < 4, (s.spindle 0 .A (0 + j)).state ≠ .vacant) := by
  decide +kernel

/-- A VACANT spindle named by a RUN, and standing last in the range of a SIDE-STATE; a RUN to a frame that does not spin. -/
theorem witness_RunsAndSideStates_discarded :
    (∀ fs ∈ .starting :: standing, let s := vacantMill fs;
      s.Takes (.runReport 0 0 1 3) ∧ s.NoneFlying (smuFirst 0) ∧ (s.spindle 0 .B 3).state = .vacant)
    ∧ (let s := mill.setMap 0 { sideA := List.replicate 3 (spin .unknown), sideB := [], running := 0, populated := 3 };
        s.Takes (.sideState 0 0 0 0 4 [0x70]) ∧ s.NoneFlying (smuFirst 0) ∧ (s.spindle 0 .A (0 + 3)).state = .vacant)
    ∧ (∀ fs ∈ standing, let s := millWith (spin .broken) fs;
        s.Takes (.runReport 0 0 0 0) ∧ s.NoneFlying (smuFirst 0) ∧ (s.spindle 0 .A 0).state ≠ .vacant
          ∧ s.frameState 0 ≠ .running ∧ s.frameState 0 ≠ .starting) := by
  decide +kernel

theorem witness_DispatcherRequestsAtTheMap : mill.NoneFlying (smuFirst 0)
    ∧ mill.Next (pcdToSmu 0) (.piecingRequest 0 .A 0 true) ∧ mill.Next (pcdToSmu 0) (.piecingRequest 0 .A 3 false)
    ∧ mill.Next (pcdToSmu 0) (.failureRequest 0 .A 0) ∧ mill.Next (pcdToSmu 0) (.withdrawRequest 0 .A 0)
    ∧ mill.Next (pcdToSmu 0) (.verifyExpiry 0 .A 0)
    ∧ (let s := emptyMill (spin .assigned) .running;
        s.NoneFlying (smuFirst 0) ∧ s.Next (pcdToSmu 0) (.failureRequest 0 .A 0)
          ∧ (s.spindle 0 .A 0).state = .assigned ∧ s.groupEmpty 0 .A 0 = true)
    ∧ (let s := millWith (spin .verify) .running;
        s.Next (pcdToSmu 0) (.verifyExpiry 0 .A 0) ∧ (s.spindle 0 .A 0).state = .verify) := by
  decide +kernel

theorem witness_RogueSpindles : 3 < ((mill.map 0).side .A).length ∧ mill.smu.rogues.length < 128
    ∧ mill.Manages ∧ mill.enabled (frameAt 47) = false ∧ mill.enabled (frameAt 0) = true
    ∧ (mill.entry (frameAt 0)).length (sideAt 1) ≤ 4
    ∧ (let r : RogueEntry := { frame := 5, side := .A, index := 0, cause := .attempts, seconds := 0 };
        128 ≤ (mill.setRogues (.replicate 128 r)).smu.rogues.length)
    ∧ (let s := millWith (spin .rogue) .held;
        s.Manages ∧ s.enabled 0 = true ∧ 0 < (s.entry 0).length .A ∧ s.NoneFlying (smuFirst 0)
          ∧ (s.spindle 0 .A 0).state = .rogue ∧ (s.spindle 0 .A 3).state ≠ .rogue) := by
  decide +kernel

theorem witness_FrameWideChanges : mill.Next (smuFirst 0) (.smuPiecingCancel 0)
    ∧ mill.Next (smuFirst 0) (.spindleDoffCompletion 0) ∧ mill.power = .on ∧ mill.NoneFlying (smuFirst 0)
    ∧ (emptyMill (spin .broken) .running).remaining 0 0 = 0 ∧ (emptyMill (spin .broken) .running).power = .on
    ∧ (emptyMill (spin .broken) .running).NoneFlying (smuFirst 0)
    ∧ 0 < (figure 1 .supplied none mill).remaining 0 0 := by
  decide +kernel

/-- A state with the spindles of the mill and nothing in flight finds nothing to do in a re-evaluation. -/
theorem quiet_of {s : State} (hm : s.smu = mill.smu) (hf : s.inFlight = []) : s.Quiet :=
  ⟨mill_quiet.1.of_smu hm, by simp [State.NoneFlying, hf], by simp [State.NoneFlying, hf]⟩

/-- An arrival, positions and a stale report, with no spindle BROKEN and with one. -/
theorem witness_RobotReadyAndPosition_position :
    (∀ r ∈ [robotIn .moving, robotIn .idle, piecer false, robotIn .leaving],
      ∀ s ∈ [robotMill r, (millWith (spin .broken) .running).setRobot 0 r],
        s.Takes (.robotPos 0x40 0 1 2047) ∧ (s.robot 0).aisle = some 1 ∧ s.NoneFlying pcdBefore)
    ∧ mill.Takes (.robotPos 0x40 0 63 0) ∧ (mill.robot 0).aisle ≠ some 63 ∧ mill.NoBroken ∧ mill.NoneFlying aouFirst :=
  ⟨by decide +kernel, by decide +kernel, by decide +kernel, mill_quiet.1, mill_quiet.2.1⟩

/-- An OFFLINE and an UNRESPONSIVE robot in an aisle of its zone, and outside it with nowhere to go. -/
theorem witness_RobotReadyAndPosition_ready :
    ∀ st ∈ [RobotState.offline, .unresponsive], ∀ a ∈ [(1 : AisleId), 3],
      let s := mill.setRobot 0 { Robot.initial with state := st };
      s.Takes (.robotReady 0x40 0 a.val 0) ∧ s.NoneFlying pcdBefore ∧ s.NoneFlying aouFirst ∧ (s.robot 0).state = st
        ∧ (∀ x, (s.aisleRecord x).holder ≠ .robot 0) ∧ (s.aisleRecord a).holder = .none ∧ (s.aisleRecord a).reservedBy = none
        ∧ (a ∈ s.patrol (s.robotZone 0) ↔ a = 1) ∧ s.patrol (s.robotZone 0) = [1, 2]
        ∧ ∀ x ∈ [(1 : AisleId), 2], s.candidates (s.robotZone 0) x = [] := by
  decide +kernel

/-- Robots that restart where they stand: PARKED with no aisle, and holding aisle 1 in every other state. -/
theorem witness_RobotReadyAndPosition_restart :
    ∀ r ∈ [{ Robot.initial with state := .parked }, robotIn .moving, robotIn .idle, piecer false, piecer true,
        { robotIn .leaving with leaveTarget := some 2 }],
      let s := if r.aisle = none then mill.setRobot 0 r else robotMill r;
      s.Takes (.robotReady 0x40 0 1 0) ∧ s.NoneFlying pcdBefore ∧ s.NoneFlying aouFirst ∧ s.robot 0 = r
        ∧ (∀ x, (s.aisleRecord x).holder = .robot 0 ↔ r.aisle = some x) ∧ s.patrol (s.robotZone 0) = [1, 2]
        ∧ (s.aisleRecord 1).reservedBy = none := by
  decide +kernel

/-- Spindle A 0, in aisle 1, is BROKEN and robot 0 as given. -/
def brokenMill (r : Robot) (holder : Holder) : State :=
  ((millWith (spin .broken) .running).setRobot 0 r).setAisle 1 { holder, reservedBy := none }

/-- An aisle that may be granted: in the mill with spindle A 0 BROKEN, aisle 1 with no holder. -/
theorem broken_candidate : ∀ r, (brokenMill r .none).candidates ((brokenMill r .none).robotZone 0) 1 ≠ [] := by
  intro r
  show (millWith (spin .broken) .running).candidates 0 1 ≠ []
  decide +kernel

/-- An OFFLINE robot in an aisle outside its zone, and in one that a doffer holds; each finds aisle 1. In the second place none
qualifies, with nothing BROKEN. -/
theorem witness_RobotReadyAndPosition_elsewhere :
    (let s := brokenMill .initial .none;
      s.Takes (.robotReady 0x40 0 3 0) ∧ s.NoneFlying pcdBefore ∧ s.NoneFlying aouFirst
        ∧ (∀ x, (s.aisleRecord x).holder ≠ .robot 0)
        ∧ (s.robot 0).state = .offline ∧ (3 : AisleId) ∉ s.patrol (s.robotZone 0)
        ∧ s.patrol (s.robotZone 0) = [] ++ 1 :: [2] ∧ (s.aisleRecord 1).holder = .none ∧ (s.aisleRecord 1).reservedBy = none)
    ∧ (let s := (brokenMill .initial .none).setAisle 2 { holder := .doffer 0, reservedBy := some 0 };
        s.Takes (.robotReady 0x40 0 2 0) ∧ (∀ x, (s.aisleRecord x).holder ≠ .robot 0) ∧ (s.aisleRecord 2).holder ≠ .none
          ∧ s.patrol (s.robotZone 0) = [1] ++ 2 :: [] ∧ (2 : AisleId) ∉ [(1 : AisleId)]
          ∧ [] ++ [(1 : AisleId)] = [] ++ 1 :: [] ∧ s.candidates (s.robotZone 0) 1 ≠ [])
    ∧ (let s := mill.setAisle 2 { holder := .doffer 0, reservedBy := some 0 };
        s.Takes (.robotReady 0x40 0 2 0) ∧ (∀ x, (s.aisleRecord x).holder ≠ .robot 0) ∧ (s.robot 0).state = .offline
          ∧ (s.aisleRecord 2).holder ≠ .none ∧ s.patrol (s.robotZone 0) = [1] ++ 2 :: []
          ∧ ∀ x ∈ [] ++ [(1 : AisleId)], s.candidates (s.robotZone 0) x = []) := by
  decide +kernel

/-- A robot LEAVING the aisle that doffer 0 has reserved restarts in it; aisle 2 has nothing for it. -/
theorem witness_RobotReadyAndPosition_reserved :
    let s := ((mill.setRobot 0 (robotIn .leaving)).setAisle 1 { holder := .robot 0, reservedBy := some 0 }).setClaimed 0 (some 0);
    s.Takes (.robotReady 0x40 0 1 0) ∧ s.NoneFlying pcdBefore ∧ s.NoneFlying aouFirst ∧ (s.robot 0).state = .leaving
      ∧ (∀ x, (s.aisleRecord x).holder = .robot 0 ↔ (s.robot 0).aisle = some x)
      ∧ (((s.copyReport (.robotReady 0x40 0 1 0)).setHolder 1 .none).holdStep 0).aisleRecord 1 =
          { holder := .doffer 0, reservedBy := some 0 }
      ∧ s.patrol (s.robotZone 0) = [] ++ 1 :: [2] ∧ ∀ x ∈ [(2 : AisleId)] ++ [], s.candidates (s.robotZone 0) x = [] := by
  decide +kernel

theorem witness_OutcomesOfPiecing :
    (∀ sat : Bool, (robotMill (piecer sat)).Quiet) ∧ (∀ sat : Bool, (robotMill (piecer sat)).enablesDue 0 = 0) ∧
    (∀ sat : Bool, ((robotMill (piecer sat)).robot 0).state = .piecing
      ∧ ((robotMill (piecer sat)).robot 0).assignment = some { frame := 0, side := .A, index := 0, satisfied := sat }
      ∧ (robotMill (piecer sat)).Takes (.pieced 0x40 0 0 0 0) ∧ (robotMill (piecer sat)).Takes (.notPieced 0x40 0 0 0 0 1))
    ∧ (robotMill (piecer false)).pcd.verify.length < 32
    ∧ (let e : VerifyEntry := { frame := 0, side := .A, index := 3, deadline := 9000 };
        let s := (robotMill (piecer false)).setVerify (.replicate 32 e);
        s.Takes (.pieced 0x40 0 0 0 0) ∧ s.enablesDue 0 = 0 ∧ 32 ≤ s.pcd.verify.length)
    ∧ (mill.robot 0).state ≠ .piecing ∧ mill.Takes (.pieced 0x40 0 0 0 0) ∧ mill.Takes (.notPieced 0x40 0 0 0 0 1) :=
  ⟨fun _ => quiet_of rfl rfl, by decide +kernel⟩

/-- The notice of an enable of frame 0 is in flight, and stands next among those of its channel. -/
theorem witness_OutcomesOfPiecing_enabled :
    let running : Instr := .frameRunningNotice 0;
    ∀ n : Fin 2, let s := ((robotMill (piecer false)).emit running).setEnabling 0 (n.val + 1);
      s.enablesDue 0 = n.val + 1 ∧ running ∈ s.inFlight ∧ s.Next (dcuToPcd 0) running ∧ s.Takes (.pieced 0x40 0 0 0 0)
        ∧ s.Takes (.notPieced 0x40 0 0 0 0 1) := by
  decide +kernel

/-- A failure of a spindle that is ASSIGNED in a group with roving and in an empty one, and of one that runs. -/
theorem witness_OutcomesOfPiecing_failed :
    ((millWith (spin .assigned) .running).setRobot 0 (piecer false)).Quiet
    ∧ ((emptyMill (spin .assigned) .running).setRobot 0 (piecer false)).Quiet
    ∧ (∀ s ∈ [(millWith (spin .assigned) .running).setRobot 0 (piecer false),
          (emptyMill (spin .assigned) .running).setRobot 0 (piecer false), robotMill (piecer false)],
        s.Takes (.notPieced 0x40 0 0 0 0 1) ∧ s.NoneFlying (smuFirst 0) ∧ s.NoneFlying (pcdToSmu 0)
          ∧ (s.robot 0).state = .piecing ∧ s.enablesDue 0 = 0)
    ∧ ((millWith (spin .assigned) .running).spindle 0 .A 0).state = .assigned
    ∧ (millWith (spin .assigned) .running).groupEmpty 0 .A 0 = false
    ∧ (emptyMill (spin .assigned) .running).groupEmpty 0 .A 0 = true
    ∧ ((robotMill (piecer false)).spindle 0 .A 0).state ≠ .assigned :=
  ⟨⟨noBroken_of (by decide +kernel), by decide +kernel, by decide +kernel⟩,
    ⟨noBroken_of (by decide +kernel), by decide +kernel, by decide +kernel⟩, by decide +kernel⟩

/-- Robot 0 is LEAVING aisle 1, which doffer 0 has reserved for frame 0. -/
def recalledMill (target : Option AisleId) : State :=
  ((robotMill { robotIn .leaving with leaveTarget := target }).setAisle 1
    { holder := .robot 0, reservedBy := some 0 }).setClaimed 0 (some 0)

theorem witness_RecallAndLeave :
    (∀ r, (robotMill r).NoBroken)
    ∧ (∀ target, (recalledMill target).inFlight = [] ∧ (recalledMill target).smu = mill.smu)
    ∧ (∀ r ∈ [robotIn .idle, robotIn .moving, piecer false, piecer true, robotIn .leaving, .initial,
        { Robot.initial with state := .parked }, { Robot.initial with state := .unresponsive }],
      (robotMill r).Next pcdFirst (.robotRecall 0 1) ∧ (robotMill r).NoneFlying aouFirst)
    ∧ (let s := robotMill (robotIn .leaving);
        s.Takes (.robotLeft 0x40 0) ∧ (s.robot 0).state = .leaving ∧ (s.robot 0).aisle = some 1
          ∧ (∀ b, (s.aisleRecord b).holder = .robot 0 ↔ b = 1) ∧ (s.aisleRecord 1).reservedBy = none
          ∧ (s.robot 0).leaveTarget = none ∧ s.patrol (s.robotZone 0) ≠ [])
    ∧ (let s := robotMill { robotIn .leaving with leaveTarget := some 2 };
        s.Takes (.robotLeft 0x40 0) ∧ (∀ b, (s.aisleRecord b).holder = .robot 0 ↔ b = 1)
          ∧ (s.robot 0).leaveTarget = some 2 ∧ (s.aisleRecord 2).holder = .none ∧ (s.aisleRecord 2).reservedBy = none)
    ∧ mill.Takes (.robotLeft 0x40 0) ∧ (mill.robot 0).state ≠ .leaving :=
  ⟨fun r => (quiet_of (s := robotMill r) rfl rfl).1, fun _ => ⟨rfl, rfl⟩, by decide +kernel⟩

/-- A leave from an aisle that a doffer has reserved, and the hold step that follows or finds nothing to hold. -/
theorem witness_RecallAndLeave_hold :
    (∀ target ∈ [none, some (2 : AisleId)], let s := recalledMill target;
        s.Takes (.robotLeft 0x40 0) ∧ (s.robot 0).state = .leaving ∧ (s.robot 0).aisle = some 1
          ∧ (∀ b, (s.aisleRecord b).holder = .robot 0 ↔ b = 1) ∧ (s.aisleRecord 1).reservedBy = some 0
          ∧ (s.robot 0).leaveTarget = target ∧ s.patrol (s.robotZone 0) ≠ [] ∧ (s.aisleRecord 2).holder = .none
          ∧ (s.aisleRecord 2).reservedBy = none)
    ∧ (let s := (recalledMill none).setAisle 1 { holder := .none, reservedBy := some 0 };
        (∀ a, (s.aisleRecord a).reservedBy = some 0 → (s.aisleRecord a).holder = .none)
          ∧ (s.aisleRecord 1).reservedBy = some 0 ∧ s.aou.claims.get 0 = some 0)
    ∧ (∀ a, (mill.aisleRecord a).reservedBy ≠ some 0) ∧ ((recalledMill none).aisleRecord 1).holder ≠ .none := by
  decide +kernel

/-- Spindle A 0, in aisle 1, is BROKEN, and robot 0 as given holds aisle 2. -/
def otherAisle (r : Robot) : State := (brokenMill r .none).setAisle 2 { holder := .robot 0, reservedBy := none }

def leftMill (target : Option AisleId) : State :=
  (otherAisle { robotIn .leaving with aisle := some 2, leaveTarget := target }).setAisle 3
    { holder := .doffer 0, reservedBy := some 0 }

theorem witness_RecallAndLeave_target :
    ∀ s ∈ [otherAisle { robotIn .idle with aisle := some 2 }, otherAisle { robotIn .moving with aisle := some 2 },
        otherAisle { piecer false with aisle := some 2 }, otherAisle { piecer true with aisle := some 2 }],
      s.Next pcdFirst (.robotRecall 0 2) ∧ s.NoneFlying aouFirst
        ∧ ((s.robot 0).state = .idle ∨ (s.robot 0).state = .moving
            ∨ ((s.robot 0).state = .piecing ∧ (s.robot 0).assignment.isSome = true))
        ∧ s.patrol (s.robotZone 0) = [1] ++ 2 :: [] ∧ (s.aisleRecord 1).holder = .none
        ∧ (s.aisleRecord 1).reservedBy = none ∧ s.candidates (s.robotZone 0) 1 ≠ [] := by
  decide +kernel

/-- A leave from a reserved aisle that ends with no target. -/
theorem witness_RecallAndLeave_reserved :
    let s := ((leftMill none).setAisle 2 { holder := .robot 0, reservedBy := some 1 }).setClaimed 1 (some 0)
    s.Takes (.robotLeft 0x40 0) ∧ s.NoneFlying pcdBefore ∧ s.NoneFlying aouFirst ∧ (s.robot 0).state = .leaving
      ∧ (s.robot 0).aisle = some 2 ∧ (∀ x, (s.aisleRecord x).holder = .robot 0 ↔ x = 2)
      ∧ (s.aisleRecord 2).reservedBy = some 1 ∧ (s.robot 0).leaveTarget = none
      ∧ s.patrol (s.robotZone 0) = [] ++ 1 :: [2] ∧ (s.aisleRecord 1).holder = .none
      ∧ (s.aisleRecord 1).reservedBy = none ∧ s.candidates (s.robotZone 0) 1 ≠ [] := by
  decide +kernel

/-- A leave that ends with no target, and with one that is refused. -/
theorem witness_RecallAndLeave_left :
    ∀ s ∈ [leftMill none, leftMill (some 3)],
      s.Takes (.robotLeft 0x40 0) ∧ s.NoneFlying pcdBefore ∧ s.NoneFlying aouFirst ∧ (s.robot 0).state = .leaving
        ∧ (s.robot 0).aisle = some 2 ∧ (∀ x, (s.aisleRecord x).holder = .robot 0 ↔ x = 2)
        ∧ (s.aisleRecord 2).reservedBy = none ∧ (s.aisleRecord 3).reservedBy ≠ none
        ∧ s.patrol (s.robotZone 0) = [] ++ 1 :: [2] ∧ (s.aisleRecord 1).holder = .none
        ∧ (s.aisleRecord 1).reservedBy = none ∧ s.candidates (s.robotZone 0) 1 ≠ [] := by
  decide +kernel

/-- The same where no aisle of the list can be granted: another robot holds the one with a candidate. -/
theorem witness_RecallAndLeave_parked :
    ∀ target ∈ [none, some (3 : AisleId)],
      let s := (leftMill target).setAisle 1 { holder := .robot 1, reservedBy := none };
      s.Takes (.robotLeft 0x40 0) ∧ s.NoneFlying pcdBefore ∧ s.NoneFlying aouFirst ∧ (s.robot 0).state = .leaving
        ∧ (s.robot 0).aisle = some 2 ∧ (∀ x, (s.aisleRecord x).holder = .robot 0 ↔ x = 2)
        ∧ (s.robot 0).leaveTarget = target ∧ (s.aisleRecord 3).reservedBy ≠ none ∧ s.patrol (s.robotZone 0) = [1, 2]
        ∧ (s.aisleRecord 1).holder ≠ .none ∧ s.candidates (s.robotZone 0) 2 = [] := by
  decide +kernel

theorem witness_TimersPass :
    (mill.power = .on ∧ mill.NoneFlying pcdBefore ∧ (mill.robot 0).deadline = none)
    ∧ (∀ r ∈ [piecer false, piecer true, robotIn .moving, robotIn .leaving],
        let s := robotMill r;
        s.power = .on ∧ s.NoneFlying pcdBefore ∧ (s.robot 0).deadline = some 9000 ∧ (s.robot 0).aisle = some 1)
    ∧ mill.pcd.verify = []
    ∧ (let e : VerifyEntry := { frame := 0, side := .A, index := 0, deadline := 5000 };
        let s := mill.setVerify [e];
        let c : Instr := .pcdPiecingCancel 0;
        s.power = .on ∧ s.pcd.verify = e :: [] ∧ s.NoneFlying pcdBefore
          ∧ (s.emit c).pcd.verify = e :: [] ∧ c ∈ (s.emit c).inFlight ∧ (s.emit c).Next (dcuToPcd 0) c
          ∧ ((s.emit c).drop c).NoneFlying pcdBefore ∧ (s.emit c).NoneFlying aouFirst)
    ∧ ((mill.cycle 0).stopTimer = none ∧ mill.NoneFlying (dauFirst 0) ∧ mill.NoneFlying (spuFirst 0))
    ∧ (let s := mill.setCycle 0 { FrameCycle.initial with state := .stopping, stopTimer := some 9000 };
        s.power = .on ∧ (s.cycle 0).stopTimer = some 9000 ∧ s.frameState 0 = .stopping) := by
  decide +kernel

/-- The cancel of the frame that a robot works on, and a recall of a robot at work or on its way, in flight as its deadline
passes. -/
theorem witness_TimersPass_before :
    (let c : Instr := .pcdPiecingCancel 0;
      let s := (robotMill (piecer false)).emit c;
      (s.robot 0).deadline = some 9000 ∧ c ∈ s.inFlight ∧ (s.drop c).NoneFlying pcdBefore ∧ (s.robot 0).state = .piecing
        ∧ ((s.robot 0).assignment.map Assignment.frame) = some 0 ∧ s.Next (dcuToPcd 0) c)
    ∧ (let c : Instr := .robotRecall 0 1;
        ∀ r ∈ [piecer false, robotIn .moving], let s := (robotMill r).emit c;
          (s.robot 0).deadline = some 9000 ∧ c ∈ s.inFlight ∧ (s.drop c).NoneFlying pcdBefore ∧ s.Next pcdFirst c) := by
  decide +kernel

theorem witness_NoticesToTheDispatcher :
    mill.NoBroken ∧ mill.NoneFlying pcdBefore ∧ mill.Next smuToPcd (.verifyEntryRemove 0 .A 0)
    ∧ mill.Next smuToPcd (.satisfiedNotice 0 .A 0) ∧ mill.Next smuToPcd (.brokenNotice 0 .A 3) ∧ mill.NoneFlying aouFirst
    ∧ (let s := robotMill (piecer false);
        s.NoneFlying pcdBefore ∧ s.Next smuToPcd (.satisfiedNotice 0 .A 0)
          ∧ (s.robot 0).assignment = some { frame := 0, side := .A, index := 0, satisfied := false }
          ∧ ∀ j < (0 : RobotId), (s.robot j).assignment = none)
    ∧ (∀ k, (mill.robot k).assignment = none)
    ∧ mill.zoneOf ((mill.entry 0).aisle .A) = some 0 ∧ mill.zoneOf ((mill.entry 2).aisle .A) = none
    ∧ (let c : Instr := .pcdPiecingCancel 0;
        (mill.emit c).Next (dcuToPcd 0) c ∧ (mill.emit c).NoneFlying aouFirst ∧ ((mill.emit c).drop c).NoneFlying pcdBefore)
    ∧ mill.link.floorQueue.length + 12 ≤ 64 :=
  ⟨mill_quiet.1, by decide +kernel⟩

/-- The cancel of a frame with a robot at work on it while a spindle of the line is BROKEN. -/
theorem witness_NoticesToTheDispatcher_cancel :
    let c : Instr := .pcdPiecingCancel 0;
    let s := ((millWith (spin .broken) .held).setRobot 0 (piecer false)).emit c;
    s.Next (dcuToPcd 0) c ∧ (s.drop c).NoneFlying pcdBefore ∧ (s.spindle 0 .A 0).state = .broken ∧ 0 ∈ s.robotsOn 0
      ∧ s.robotZone 0 = 0 := by
  decide +kernel

theorem witness_EventsThatReevaluate :
    mill.NoBroken ∧ mill.NoneFlying pcdBefore ∧ mill.NoneFlying aouFirst ∧ mill.Next (dcuToPcd 0) (.frameRunningNotice 0)
    ∧ mill.power = .on ∧ mill.zoneOf ((mill.entry 0).aisle (groupSide 16)) = some 0
    ∧ mill.zoneOf ((mill.entry 2).aisle (groupSide 15)) = none ∧ mill.Next aouToPcd (.freeAisleNotice 1)
    ∧ mill.zoneOf 1 = some 0 ∧ mill.zoneOf 63 = none :=
  ⟨mill_quiet.1, by decide +kernel⟩

/-- An IDLE robot in aisle 2 with nothing there and aisle 1 to go to, and one in aisle 1 with nowhere to go. -/
theorem witness_ChoicesOfRobots_idle :
    (let s := otherAisle { robotIn .idle with aisle := some 2 };
      s.NoneFlying aouFirst ∧ (s.robot 0).state = .idle ∧ (s.robot 0).aisle = some 2
        ∧ s.candidates (s.robotZone 0) 2 = [] ∧ s.patrol (s.robotZone 0) = [1] ++ 2 :: []
        ∧ (s.aisleRecord 1).holder = .none ∧ (s.aisleRecord 1).reservedBy = none ∧ s.candidates (s.robotZone 0) 1 ≠ []
        ∧ (∀ x, (s.aisleRecord x).holder = .robot 0 ↔ x = 2) ∧ (s.aisleRecord 2).reservedBy = none)
    ∧ (let s := robotMill (robotIn .idle);
        s.candidates (s.robotZone 0) 1 = [] ∧ s.candidates (s.robotZone 0) 2 = []
          ∧ s.patrol (s.robotZone 0) = [] ++ 1 :: [2]) := by
  decide +kernel

/-- Candidates ahead, at the robot's place and behind; an IDLE robot with a candidate; a PARKED one with an aisle and without. -/
theorem witness_ChoicesOfRobots :
    (let c := fun i => ({ frame := 0, side := .A, index := i } : Candidate);
      inAisleChoice (fun x => x.index) 5 .up [c 3, c 5, c 7] = some (.up, c 5)
        ∧ inAisleChoice (fun x => x.index) 5 .up [c 3, c 4] = some (.down, c 4)
        ∧ inAisleChoice (fun x => x.index) 5 .down [c 6, c 7] = some (.up, c 6)
        ∧ inAisleChoice (fun x => x.index) 5 .down [] = none)
    ∧ (let s := brokenMill (robotIn .idle) (.robot 0);
        s.NoneFlying (smuFirst 0) ∧ s.NoneFlying (pcdToSmu 0) ∧ s.NoneFlying (aboutSpindle 0 .A 0)
          ∧ (s.robot 0).state = .idle ∧ (s.robot 0).aisle = some 1
          ∧ inAisleChoice s.candidatePosition (s.robot 0).position (s.robot 0).sweep (s.candidates (s.robotZone 0) 1) =
              some (.up, { frame := 0, side := .A, index := 0 }))
    ∧ (let s := brokenMill { Robot.initial with state := .parked } .none;
        s.NoneFlying aouFirst ∧ s.aisleOf 0 = none ∧ (s.robot 0).state = .parked
          ∧ s.patrol (s.robotZone 0) = [] ++ 1 :: [2] ∧ (s.aisleRecord 1).holder = .none
          ∧ (s.aisleRecord 1).reservedBy = none ∧ s.candidates (s.robotZone 0) 1 ≠ [])
    ∧ (let s := mill.setRobot 0 { Robot.initial with state := .parked };
        s.NoneFlying aouFirst ∧ s.aisleOf 0 = none ∧ (s.robot 0).state = .parked
          ∧ ∀ a ∈ s.patrol (s.robotZone 0), s.candidates (s.robotZone 0) a = []) := by
  decide +kernel

/-! Aisles -/

/-- Aisles 1 and 2 reserved for doffer 0, aisle 1 with robot 0 in it and aisle 2 with a holder. -/
def reservedMill (second : Holder) : State :=
  let s := (mill.setAisle 1 { holder := .robot 0, reservedBy := some 0 }).setAisle 2 { holder := second, reservedBy := some 0 }
  { s with aou := { s.aou with claims := s.aou.claims.set 0 (some 0) } }

theorem witness_AisleOccupancy :
    mill.Next aouFirst (.robotRelease 0 1) ∧ (mill.aisleRecord 1).holder ≠ .robot 0
    ∧ ((robotMill (robotIn .idle)).aisleRecord 1).holder = .robot 0
    ∧ ((robotMill (robotIn .idle)).aisleRecord 1).reservedBy = none
    ∧ (reservedMill (.robot 1)).Next aouFirst (.robotRelease 0 1)
    ∧ ((reservedMill (.robot 1)).aisleRecord 2).reservedBy = some 0 ∧ ((reservedMill (.robot 1)).aisleRecord 2).holder ≠ .none
    ∧ (∀ b, b ≠ 1 → ((reservedMill .none).aisleRecord b).reservedBy = some 0 → ((reservedMill .none).aisleRecord b).holder = .none)
    ∧ (reservedMill .none).aou.claims.get 0 = some 0
    ∧ (∀ s ∈ [mill, robotMill (robotIn .idle), mill.setAisle 2 { holder := .none, reservedBy := some 1 }],
        s.Next dcuToAou (.dofferReservation 0 0)
          ∧ (∀ a, (s.aisleRecord a).reservedBy ≠ some 0 ∧ (s.aisleRecord a).holder ≠ .doffer 0)
          ∧ ∀ p ∈ s.aou.waiting, p.doffer ≠ 0)
    ∧ [(1 : AisleId), 2] ≠ [] ∧ [(1 : AisleId), 2].Pairwise (· < ·) ∧ ((robotMill (robotIn .idle)).aisleRecord 1).holder ≠ .none
    ∧ (∀ s ∈ [reservedMill (.robot 1), reservedMill (.doffer 0)],
        s.Next dcuToAou (.dofferReservation 0 0) ∧ s.Next dcuToAou (.dofferRelease 0) ∧ (s.aisleRecord 1).reservedBy = some 0)
    ∧ (∀ a, (mill.aisleRecord a).reservedBy ≠ some 0) := by
  decide +kernel

/-- The scan of R113: an empty list, an entry that finds its aisles reserved by another doffer and one that does not. -/
theorem witness_AisleOccupancy_scan :
    let p : PendingReservation := { doffer := 1, frame := 0, aisles := [1, 2] }
    let q : PendingReservation := { doffer := 0, frame := 0, aisles := [1, 2] }
    let s := reservedMill (.robot 1)
    mill.aou.waiting = [] ∧ (s.setWaiting [p]).aou.waiting = p :: [] ∧ p ∉ ([] : List PendingReservation)
    ∧ (∃ a ∈ p.aisles, ∃ e, (s.aisleRecord a).reservedBy = some e ∧ e ≠ p.doffer)
    ∧ (s.setWaiting [q]).aou.waiting = q :: []
    ∧ ¬∃ a ∈ q.aisles, ∃ e, (s.aisleRecord a).reservedBy = some e ∧ e ≠ q.doffer := by
  have held : ∀ a ∈ [(1 : AisleId), 2], ((reservedMill (.robot 1)).aisleRecord a).reservedBy = some 0 := by decide +kernel
  refine ⟨by decide +kernel, rfl, by simp, ⟨1, by simp, 0, held 1 (by simp), by decide⟩, rfl, ?_⟩
  rintro ⟨a, h, e, h1, h2⟩
  rw [held a h] at h1
  cases h1
  exact h2 rfl

/-- R113, R115: at its new request doffer 0 loses its aisles to doffer 1, which waited for them, and waits in its turn. -/
theorem test_request_with_claim :
    after (Sys2Proof.Machine.exec (.dofferReservation 0 0)
        ((reservedMill (.doffer 0)).setWaiting [{ doffer := 1, frame := 5, aisles := [2] }]))
      (fun t => decide ((t.aisleRecord 2).holder = .doffer 1 ∧ (t.aisleRecord 1).reservedBy = none
        ∧ t.aou.waiting = [{ doffer := 0, frame := 0, aisles := [1, 2] }]
        ∧ t.inFlight = [.aislesHeldNotice 1 5])) = true := by decide +kernel

/-! Doffs -/

/-- The mill with doffer `d` IDLE and frame 0 in its reach. -/
def idleDoffer (d : DofferId) (s : State) : State := s.setDoffer d { Doffer.initial 1 with state := .idle }

theorem witness_StopsOfFrames :
    mill.NoIdleDoffer 0 ∧ (idleDoffer 0 (idleDoffer 7 mill)).OfferedTo 0 0 ∧ (idleDoffer 7 mill).OfferedTo 0 7
    ∧ (mill.cycle 0).claim = none
    ∧ (let s := doffMill .claiming .doffWait false;
        (s.cycle 0).claim = some 0 ∧ (s.doffer 0).state = .claiming ∧ (s.doffer 0).reachPending = none
          ∧ ∀ g ∈ s.dcu.queue.filter fun g => g != 0, (s.doffer 0).reaches g = false)
    ∧ (let s := doffMill .doffing .doffing true; (s.cycle 0).claim = some 0 ∧ (s.doffer 0).state ≠ .claiming)
    ∧ (∀ b : Bool, mill.Next (dcuLane 0) (.dcuDeliveryHandoff 0 50 b) ∧ mill.Next (dcuLane 0) (.dcuDeliveryHandoff 0 49 b)
      ∧ mill.Next (dcuLane 1) (.dcuDeliveryHandoff 1 1 b))
    ∧ mill.NoneFlying (dauFirst 0) ∧ mill.NoneFlying (spuFirst 0) ∧ mill.enabled 0 = true ∧ mill.enabled 1 = false
    ∧ (let s := mill.setCycle 0 { FrameCycle.initial with state := .starting, startUp := 50 };
        s.Next (dcuLane 0) (.dcuDeliveryHandoff 0 50 false) ∧ s.frameState 0 = .starting ∧ (s.cycle 0).startUp - 50 = 0
          ∧ 0 < (s.cycle 0).startUp - 49) := by
  decide +kernel

theorem witness_DoffersPick :
    (let s := mill.setQueue [1, 0];
      s.dcu.queue = [1] ++ 0 :: [] ∧ (∀ g ∈ [(1 : FrameId)], ((s.setDoffer 0 (.initial 1)).doffer 0).reaches g = false)
        ∧ ((s.setDoffer 0 (.initial 1)).doffer 0).reaches 0 = true)
    ∧ (∀ f ∈ mill.dcu.queue, (mill.doffer 0).reaches f = false)
    ∧ (mill.Takes (.dofferReady 0x50 0) ∧ (mill.doffer 0).state = .offline)
    ∧ (let s := doffMill .claiming .doffWait false; s.Takes (.dofferReady 0x50 0) ∧ (s.doffer 0).state = .claiming) := by
  decide +kernel

theorem witness_DoffStartsOnBoth :
    (∀ s ∈ [mill, mill.setCycle 0 { FrameCycle.initial with state := .stopping }, doffMill .claiming .stopping false,
        doffMill .claiming .stopping true, doffMill .claiming .doffWait false],
      s.Takes (.stopped 0 0) ∧ s.NoneFlying (dauFirst 0) ∧ s.NoneFlying (spuFirst 0))
    ∧ (mill.frameState 0 ≠ .stopping ∧ (mill.doffer 0).state ≠ .claiming)
    ∧ (let s := mill.setCycle 0 { FrameCycle.initial with state := .stopping };
        s.frameState 0 = .stopping ∧ (s.cycle 0).claim = none)
    ∧ (∀ b : Bool, let s := doffMill .claiming .stopping b;
        s.frameState 0 = .stopping ∧ (s.cycle 0).claim = some 0 ∧ (s.doffer 0).held = b ∧ (s.doffer 0).state = .claiming
          ∧ (s.doffer 0).frame = some 0)
    ∧ (doffMill .claiming .doffWait false).frameState 0 = .doffWait
    ∧ .dofferReservation 0 0 ∉ (doffMill .claiming .doffWait false).inFlight
    ∧ .dofferReservation 0 0 ∈ ((doffMill .claiming .doffWait false).emit (.dofferReservation 0 0)).inFlight := by
  decide +kernel

theorem witness_DoffDoneRestartsFrame :
    (let s := doffMill .doffing .doffing true;
      s.Takes (.doffDone 0x50 0 0) ∧ s.NoneFlying (dauFirst 0) ∧ s.NoneFlying (spuFirst 0) ∧ (s.doffer 0).state = .doffing
        ∧ (s.doffer 0).frame = some 0 ∧ s.frameState 0 = .doffing ∧ (∀ g ∈ s.dcu.queue, (s.doffer 0).reaches g = false)
        ∧ (s.setQueue [0]).dcu.queue.find? (s.doffer 0).reaches = some 0)
    ∧ mill.Takes (.doffDone 0x50 0 0) ∧ (mill.doffer 0).state ≠ .doffing := by
  decide +kernel

theorem witness_DofferFaults :
    (∀ s ∈ [mill, mill.setDoffer 0 { Doffer.initial 1 with state := .idle }, doffMill .claiming .doffWait false,
        doffMill .doffing .doffing true],
      s.Takes (.dofferFault 0x50 0) ∧ s.NoneFlying (dauFirst 0) ∧ s.NoneFlying (spuFirst 0))
    ∧ (mill.doffer 0).state = .offline
    ∧ (let s := mill.setDoffer 0 { Doffer.initial 1 with state := .idle };
        (s.doffer 0).state = .idle ∧ (s.doffer 0).frame = none ∧ (s.doffer 0).timer = none)
    ∧ (let s := doffMill .claiming .doffWait false;
        (s.doffer 0).state = .claiming ∧ (s.doffer 0).frame = some 0 ∧ s.NoIdleDoffer 0
          ∧ ∀ d ∈ [(1 : DofferId), 7], (idleDoffer d s).OfferedTo 0 d ∧ (idleDoffer d s).Takes (.dofferFault 0x50 0))
    ∧ (let s := doffMill .doffing .doffing true;
        (s.doffer 0).state = .doffing ∧ (s.doffer 0).frame = some 0 ∧ (s.doffer 0).timer = some 9000) := by
  decide +kernel

theorem witness_FrameCommands :
    (∀ fs ∈ [FrameState.running, .starting, .stopping, .doffWait, .offline, .doffing, .held],
      let s := mill.setCycle 0 { FrameCycle.initial with state := fs };
      s.Manages ∧ s.enabled 0 = true ∧ s.NoneFlying (dauFirst 0) ∧ s.NoneFlying (spuFirst 0) ∧ s.frameState 0 = fs)
    ∧ (∀ cop ∈ [1000], (mill.article 0).doffTarget ≤ ((mill.setDelivery 0 { Delivery.initial with cop }).deliveryRecord 0).cop)
    ∧ ((mill.setDelivery 0 { Delivery.initial with cop := 999 }).deliveryRecord 0).cop < (mill.article 0).doffTarget
    ∧ 47 < 48 ∧ 3 < 4 ∧ mill.enabled (frameAt 47) = false := by
  decide +kernel

/-! Roving -/

theorem witness_GroupsAreAdmitted :
    (∃ r, mill.groupRecord 0 0 = some r ∧ ¬r.remaining ≤ (mill.article 0).lowMark)
    ∧ (∃ r, (figure 100 .supplied none mill).groupRecord 0 0 = some r ∧ r.state = .supplied
        ∧ r.remaining ≤ ((figure 100 .supplied none mill).article 0).lowMark)
    ∧ (figure 100 .supplied none mill).rsu.set.length < 64 ∧ (∀ c, (mill.carrier c).state ≠ .idle)
    ∧ (let s := mill.setCarrier 0 { Carrier.initial with state := .idle };
        (s.carrier 0).state = .idle ∧ ∀ c' < (0 : CarrierId), (s.carrier c').state ≠ .idle)
    ∧ (let e : SetEntry := { frame := 0, group := 16, sequence := 1 }; 64 ≤ (mill.setSet (.replicate 64 e)).rsu.set.length)
    ∧ (∀ f g r, mill.groupRecord f g = some r → r.state ≠ .unqueued) ∧ mill.rsu.set = []
    ∧ (let e : SetEntry := { frame := 0, group := 0, sequence := 1 };
        let e' : SetEntry := { frame := 0, group := 16, sequence := 2 };
        let s := (figure 500 .queued none mill).setSet [e, e'];
        s.rsu.set = [] ++ e :: [e'] ∧ (s.groupRecord 0 0).isSome = true ∧ s.remaining 0 0 ≤ s.remaining 0 16)
    ∧ (let e : SetEntry := { frame := 0, group := 0, sequence := 1 };
        let s := ((figure 20 .queued none mill).setGroup 0 16
          (some { remaining := 90, state := .unqueued, sequence := none, carrier := none })).setSet [e];
        s.rsu.set = [] ++ e :: [] ∧ (s.groupRecord 0 0).map Group.state = some .queued
          ∧ s.leastUnqueued = some (0, 16) ∧ (s.groupRecord 0 16).isSome = true ∧ s.rsu.set.length < 64
          ∧ ∀ c', c' ≠ 0 → (s.carrier c').state ≠ .idle) :=
  ⟨⟨_, rfl, by decide +kernel⟩, ⟨_, rfl, by decide +kernel⟩, by decide +kernel, by decide +kernel, by decide +kernel,
    by decide +kernel, fun f g r h => by
      simpa using groups_of (s := mill) (P := fun _ _ r => r.state != .unqueued) (by decide +kernel) f g r h,
    by decide +kernel, by decide +kernel, by decide +kernel⟩

theorem witness_CarrierTrips :
    (∀ cs ∈ [CarrierState.offline, .returning, .faulted, .idle, .travel, .wait, .changing],
      let s := mill.setCarrier 0 { Carrier.initial with state := cs };
      s.Takes (.carrierReady 0x58 0 4000000) ∧ (s.carrier 0).state = cs)
    ∧ (let s := carrierMill .travel .called;
        s.Takes (.arrived 0x58 0 0 0) ∧ s.NoneFlying (lastAssignedOf 0 0) ∧ s.NoneFlying (smuFirst 0)
          ∧ (s.carrier 0).state = .travel ∧ (s.carrier 0).trip = some (0, 0) ∧ s.groupAssigned 0 0 = false
          ∧ (s.groupRecord 0 0).isSome = true)
    ∧ (let s := figure 20 .called (some 0) (millWith (spin .assigned) .running);
        let s := s.setCarrier 0 { state := .travel, trip := some (0, 0), load := 1, timer := some 9000 };
        s.Takes (.arrived 0x58 0 0 0) ∧ s.NoneFlying (lastAssignedOf 0 0) ∧ s.NoneFlying (smuFirst 0)
          ∧ s.groupAssigned 0 0 = true)
    ∧ mill.Takes (.arrived 0x58 0 0 0) ∧ (mill.carrier 0).state ≠ .travel ∧ mill.power = .on
    ∧ (∀ y, ¬((mill.carrier y).state = .wait ∧ (mill.carrier y).trip = some (0, 0)))
    ∧ (let s := carrierMill .wait .called;
        s.power = .on ∧ (s.carrier 0).state = .wait ∧ (s.carrier 0).trip = some (0, 0)
          ∧ (∀ y' < (0 : CarrierId), ¬((s.carrier y').state = .wait ∧ (s.carrier y').trip = some (0, 0)))
          ∧ (s.groupRecord 0 0).isSome = true) := by
  decide +kernel

theorem witness_GroupIsRefilled : (∃ r, mill.groupRecord 0 0 = some r) ∧ mill.NoneFlying (smuFirst 0)
    ∧ (mill.article 0).lowMark < 101 ∧ ¬(mill.article 0).lowMark < 100 := ⟨⟨_, rfl⟩, by decide +kernel⟩

theorem witness_RefillsByCarrierAndHand :
    (let s := carrierMill .changing .changing;
      s.Takes (.changeDone 0x58 0 0 0) ∧ (s.carrier 0).state = .changing ∧ (s.carrier 0).trip = some (0, 0))
    ∧ mill.Takes (.changeDone 0x58 0 0 0) ∧ (mill.carrier 0).state ≠ .changing
    ∧ mill.Manages ∧ mill.enabled 0 = true ∧ (mill.entry 0).hasGroup 1 = false ∧ (mill.entry 0).hasGroup 0 = true
    ∧ (∀ n ∈ [1, 4000000], 0 < n ∧ n ≤ 4000000) ∧ 4000000 < 4000001
    ∧ (∀ st ∈ [SupplyState.supplied, .unqueued, .queued, .called, .changing],
        ((figure 20 st (some 0) mill).groupRecord 0 0).map Group.state = some st
          ∧ ((figure 20 st (some 0) mill).groupRecord 0 0).map Group.carrier = some (some 0)) := by
  decide +kernel

theorem witness_CarrierTripsFail :
    (∀ cs ∈ [CarrierState.offline, .faulted, .idle, .returning, .travel, .wait, .changing],
      let s := carrierMill cs .called;
      s.Takes (.carrierFault 0x58 0) ∧ (s.carrier 0).state = cs ∧ (s.carrier 0).trip = some (0, 0)
        ∧ (s.groupRecord 0 0).isSome = true ∧ (s.carrier 0).timer = some 9000 ∧ s.power = .on)
    ∧ (mill.carrier 0).timer = none := by
  decide +kernel

/-! Tables and management -/

theorem witness_WritesOfForm :
    mill.Manages ∧ 7 < 8 ∧ [48, 16, 8, 12, 8, 8, 1, 256].getD 7 0 ≤ 256 ∧ [48, 16, 8, 12, 8, 8, 1, 256].getD 6 0 ≤ 1
    ∧ robotWidths.length ≤ 2 ∧ Nat.testBit 4 2 = true ∧ (∀ j, robotWidths.length ≤ j → j < 2 → Nat.testBit 4 j = false)
    ∧ (3 < 2 ^ robotWidths.length ∧ ([] : List Byte).length ≠ selectedWidth 3 0 robotWidths)
    ∧ (RobotEntry.fields { enabled := 1, zone := 7 }).length = robotWidths.length
    ∧ ([7] : List Byte).length = selectedWidth 2 0 robotWidths ∧ 1 < robotWidths.length
    ∧ (mill.store.articles.get 0).maxRpm < 65536
    ∧ (let z := mill.store.zones.get 0;
        z.count ≤ 16 ∧ z.slots.length = 16 ∧ (∀ b ∈ z.slots, b < 256) ∧ ∀ b ∈ z.slots.drop z.count, b = 255) := by
  refine ⟨by decide +kernel, by decide, by decide, by decide, by decide, by decide, ?_, by decide +kernel⟩
  intro j h1 h2
  have : robotWidths.length = 2 := rfl
  omega

/-- Writes that pass: the next article of frame 0, the attempt limit of article 1, the patrol list of zone 1, Line Settings
and a disposition; and writes that fail or meet a table in use. -/
theorem witness_AcceptedWritesAreStored :
    let one := beBytes 17 (256 ^ 16 + 3 * 256 ^ 15)
    let fields := overlay 1 0 zoneWidths (mill.store.zones.get 1).fields one
    let entry := fun v => FrameEntry.ofFields (overlay 0x800 0 frameWidths (mill.entry 0).fields [v])
    let article := fun v => Article.ofFields (overlay 0x2000 0 articleWidths (mill.store.articles.get 1).fields [v])
    mill.Manages
    ∧ (0x800 < 2 ^ frameWidths.length ∧ selectedWidth 0x800 0 frameWidths = 1 ∧ (entry 0).enabled = (mill.entry 0).enabled
      ∧ locksFrame 0x800 = false ∧ (∀ b ∈ mill.frameConds (entry 0), b = true)
      ∧ (mill.frameConds (entry 16)).getD 11 true = false ∧ 11 < (mill.frameConds (entry 16)).length
      ∧ ∀ j < 11, (mill.frameConds (entry 16)).getD j true = true)
    ∧ (2 < 2 ^ frameWidths.length ∧ selectedWidth 2 0 frameWidths = 2 ∧ mill.enabled 0 = true ∧ locksFrame 2 = true)
    ∧ (0x2000 < 2 ^ articleWidths.length ∧ selectedWidth 0x2000 0 articleWidths = 1 ∧ mill.articleInUse 0 = true
      ∧ mill.articleInUse 1 = false ∧ (∀ b ∈ (article 1).conds, b = true) ∧ (article 0).conds.getD 13 true = false
      ∧ 13 < (article 0).conds.length ∧ ∀ j < 13, (article 0).conds.getD j true = true)
    ∧ (1 < 2 ^ zoneWidths.length ∧ one.length = selectedWidth 1 0 zoneWidths ∧ fields.getD 0 0 / 256 ^ 16 = 1
      ∧ (patrolSlots (fields.getD 0 0)).take 1 = [3] ∧ mill.inOtherZone 1 3 = false ∧ mill.inOtherZone 1 2 = true
      ∧ [3].Nodup ∧ 5 ≤ fields.getD 1 0 ∧ fields.getD 1 0 ≤ 255 ∧ 1 ≤ fields.getD 2 0 ∧ fields.getD 2 0 ≤ 30)
    ∧ (2 < 2 ^ settingsWidths.length ∧ selectedWidth 2 0 settingsWidths = 1
      ∧ (overlay 2 0 settingsWidths mill.store.settings.fields [60]).getD 0 0 < 2048
      ∧ (Settings.ofFields (overlay 2 0 settingsWidths mill.store.settings.fields [60])).stopTimeout = 60
      ∧ mill.store.settings.warnLevel ≤ 7 ∧ mill.store.settings.warnMode ≤ 2)
    ∧ (2 < 2 ^ dispositionWidths.length ∧ selectedWidth 2 0 dispositionWidths = 1
      ∧ (∀ v ∈ ([0, 1] : List Byte), (overlay 2 0 dispositionWidths (mill.link.disposition.get 0x30).fields [v]).getD 0 0 ≤ 1
        ∧ (overlay 2 0 dispositionWidths (mill.link.disposition.get 0x30).fields [v]).getD 1 0 ≤ 1)
      ∧ (Disposition.ofFields (overlay 2 0 dispositionWidths (mill.link.disposition.get 0x30).fields [0])).pass = true
      ∧ (Disposition.ofFields (overlay 2 0 dispositionWidths (mill.link.disposition.get 0x30).fields [1])).pass = false) := by
  decide +kernel

/-- Writes of a zone and of Line Settings that are refused: a repeated aisle, count 0 with a robot in the zone, a timeout
out of its range and a reserved bit. -/
theorem witness_AcceptedWritesAreStored_refused :
    selectedWidth 1 0 zoneWidths = 17 ∧ selectedWidth 2 0 zoneWidths = 1 ∧ selectedWidth 4 0 zoneWidths = 1
    ∧ (patrolSlots (2 * 256 ^ 16 + 3 * 256 ^ 15 + 3 * 256 ^ 14)).take 2 = [3, 3]
    ∧ (mill.store.robots.get 0).enabled = 1 ∧ mill.robotZone 0 = 0
    ∧ selectedWidth 1 0 settingsWidths = 2
    ∧ (overlay 1 0 settingsWidths mill.store.settings.fields [8, 0]).getD 0 0 = 2048 := by
  decide +kernel

theorem witness_EnableStartsFrame :
    mill.Manages ∧ (mill.entry 1).enabled = 0 ∧ selectedWidth (0 + 1) 0 frameWidths = 0 + 1
    ∧ (∀ b ∈ mill.frameConds (FrameEntry.ofFields (overlay (0 + 1) 0 frameWidths (mill.entry 1).fields [1#8])), b = true)
    ∧ mill.frameState 1 ≠ .running ∧ mill.frameState 1 ≠ .starting ∧ mill.link.floorQueue.length < 16 := by
  decide +kernel

theorem witness_DisableEndsFrame :
    mill.Quiet ∧ mill.Manages ∧ mill.enabled 0 = true ∧ locksFrame (0 + 1) = false
    ∧ selectedWidth (0 + 1) 0 frameWidths = 0 + 1
    ∧ (∀ b ∈ mill.frameConds (FrameEntry.ofFields (overlay (0 + 1) 0 frameWidths (mill.entry 0).fields [0#8])), b = true)
    ∧ mill.frameState 0 ≠ .doffing ∧ mill.NoneFlying (dauFirst 0) ∧ mill.NoneFlying (spuFirst 0)
    ∧ mill.NoneFlying (smuFirst 0) ∧ (mill.cycle 0).claim = none
    ∧ (let s := doffMill .claiming .doffWait false;
        (s.cycle 0).claim = some 0 ∧ (s.doffer 0).state = .claiming ∧ s.dcu.queue = []
          ∧ s.link.floorQueue.length < 12)
    ∧ (let s := robotMill (piecer false);
        s.Manages ∧ (s.cycle 0).claim = none ∧ (s.robot 0).assignment.map Assignment.frame = some 0)
    ∧ (let s := carrierMill .wait .called;
        s.Manages ∧ (s.cycle 0).claim = none ∧ ((s.groupRecord 0 0).bind Group.carrier) = some 0)
    ∧ (let s := doffMill .doffing .doffing true; s.Manages ∧ s.enabled 0 = true ∧ s.frameState 0 = .doffing) :=
  ⟨mill_quiet, by decide +kernel⟩

theorem witness_DisableEndsFrame_working : (robotMill (piecer false)).Quiet := quiet_of rfl rfl

theorem witness_MachineWrites :
    (let e := RobotEntry.ofFields (overlay (2 + 1) 0 robotWidths (mill.store.robots.get 11).fields [1#8, 0#8]);
      mill.Manages ∧ 2 + 1 < 2 ^ robotWidths.length ∧ selectedWidth (2 + 1) 0 robotWidths = 1 + 1
        ∧ (mill.store.robots.get 11).enabled = 0 ∧ mill.NoneFlying pcdBefore ∧ (mill.robot 11).state = .offline ∧ e.zone ≤ 7
        ∧ 1 ≤ (mill.store.zones.get (Fin.ofNat 8 e.zone)).count
        ∧ ((List.finRange 12).filter fun j =>
            j != 11 && (mill.store.robots.get j).enabled == 1 && (mill.store.robots.get j).zone == e.zone).length < 3)
    ∧ (let e := DofferEntry.ofFields (overlay (0 + 1) 0 dofferWidths (mill.store.doffers.get 7).fields [1#8]);
        selectedWidth (0 + 1) 0 dofferWidths = 0 + 1 ∧ (mill.store.doffers.get 7).enabled = 0 ∧ 1 ≤ e.timeout
          ∧ e.timeout ≤ 60 ∧ (mill.doffer 7).state = .offline)
    ∧ (let e := CarrierEntry.ofFields (overlay (0 + 1) 0 carrierWidths (mill.store.carriers.get 7).fields [1#8]);
        (mill.store.carriers.get 7).enabled = 0 ∧ 1 ≤ e.travelTimeout ∧ e.travelTimeout ≤ 30 ∧ 1 ≤ e.changeTimeout
          ∧ e.changeTimeout ≤ 30)
    ∧ (mill.store.robots.get 0).enabled = 1 ∧ (mill.robot 0).state = .offline
    ∧ (let s := robotMill (robotIn .idle); (s.robot 0).state ≠ .offline ∧ (s.robot 0).state ≠ .parked
        ∧ 7 ≠ (s.store.robots.get 0).zone)
    ∧ (∀ ds ∈ [DofferState.offline, .idle, .claiming, .doffing, .faulted],
        ((doffMill ds .doffWait false).doffer 0).state = ds ∧ (doffMill ds .doffWait false).Manages)
    ∧ (mill.store.doffers.get 0).timeout = 30 ∧ 0xFFFFFFFFFFFF < 2 ^ 48
    ∧ (mill.store.carriers.get 0).enabled ≤ 1 ∧ 1 ≤ (mill.store.carriers.get 0).travelTimeout
    ∧ (mill.store.carriers.get 0).travelTimeout ≤ 30 := by
  decide +kernel

/-- Writes that break a condition: an enable of frame 1 with no spindle, a disable of frame 0 with next article 16, zone 1 with
an empty patrol list, a doff timeout of 61, a travel timeout of 0. -/
theorem witness_MachineWrites_refused :
    mill.Manages ∧ mill.NoneFlying pcdBefore ∧ (mill.robot 11).state = .offline ∧ mill.enabled 1 = false
    ∧ locksFrame 0x801 = false
    ∧ selectedWidth 7 0 frameWidths = 5 ∧ selectedWidth 0x801 0 frameWidths = 2 ∧ selectedWidth 3 0 robotWidths = 2
    ∧ selectedWidth 4 0 dofferWidths = 1 ∧ selectedWidth 2 0 carrierWidths = 1
    ∧ (RobotEntry.ofFields (overlay 3 0 robotWidths (mill.store.robots.get 11).fields [1, 1])).zone = 1
    ∧ (mill.store.zones.get (Fin.ofNat 8 1)).count = 0
    ∧ (DofferEntry.ofFields (overlay 4 0 dofferWidths (mill.store.doffers.get 0).fields [61])).timeout = 61
    ∧ (CarrierEntry.ofFields (overlay 2 0 carrierWidths (mill.store.carriers.get 0).fields [0])).travelTimeout = 0 := by
  decide +kernel

/-- The first condition that these two frame writes break. -/
theorem witness_MachineWrites_refused_frames :
    (∃ after, mill.frameConds (FrameEntry.ofFields (overlay 7 0 frameWidths (mill.entry 1).fields [1, 0, 0, 0, 0])) =
        [] ++ false :: after)
    ∧ ∃ before, before.length = 11 ∧ (∀ b ∈ before, b = true)
      ∧ mill.frameConds (FrameEntry.ofFields (overlay 0x801 0 frameWidths (mill.entry 0).fields [0, 16])) =
          before ++ false :: [] :=
  ⟨⟨_, rfl⟩, List.replicate 11 true, by decide +kernel⟩

theorem witness_MachinesAreDisabled :
    (∀ r, (robotMill r).Quiet) ∧ (mill.setRobot 0 { Robot.initial with state := .parked }).Quiet ∧ mill.Manages
    ∧ (mill.store.robots.get 0).enabled = 1 ∧ (mill.store.robots.get 0).zone ≤ 7
    ∧ (let s := mill.setRobot 0 { Robot.initial with state := .parked };
        (s.robot 0).aisle = none ∧ (s.robot 0).assignment = none ∧ (s.robot 0).state ≠ .offline)
    ∧ (let s := robotMill (piecer false);
        (s.robot 0).state = .piecing ∧ (s.robot 0).aisle = some 1
          ∧ ∀ j, j ≠ 0 → s.robotZone j = s.robotZone 0 → (s.robot j).state ≠ .idle ∧ (s.robot j).state ≠ .parked)
    ∧ (∀ r ∈ [robotIn .idle, robotIn .moving, robotIn .leaving],
        ((robotMill r).robot 0).state ≠ .offline ∧ ((robotMill r).robot 0).aisle = some 1
          ∧ ((robotMill r).robot 0).assignment = none ∧ (robotMill r).NoneFlying pcdBefore)
    ∧ (mill.store.doffers.get 0).enabled = 1 ∧ 1 ≤ (mill.store.doffers.get 0).timeout
    ∧ (mill.store.doffers.get 0).timeout ≤ 60
    ∧ (let s := doffMill .claiming .doffWait false;
        s.NoneFlying (dauFirst 0) ∧ s.NoneFlying (spuFirst 0) ∧ s.NoIdleDoffer 0 ∧ (s.doffer 0).frame = some 0)
    ∧ (mill.store.carriers.get 0).enabled = 1 ∧ (mill.store.carriers.get 0).travelTimeout = 10
    ∧ (mill.store.carriers.get 0).changeTimeout = 10
    ∧ (let s := carrierMill .wait .called; s.Manages ∧ (s.carrier 0).trip = some (0, 0) ∧ (s.groupRecord 0 0).isSome = true)
    ∧ (let e : SetEntry := { frame := 0, group := 16, sequence := 1 };
        let s := (figure 100 .supplied none mill).setSet (.replicate 64 e);
        (s.groupRecord 0 0).map Group.state = some .supplied ∧ s.remaining 0 0 ≤ (s.article 0).lowMark
          ∧ 64 ≤ s.rsu.set.length) :=
  ⟨fun _ => quiet_of rfl rfl, quiet_of rfl rfl, by decide +kernel⟩

/-- A robot that is OFFLINE already, and a CLAIMING doffer whose frame another doffer has in reach. -/
theorem witness_MachinesAreDisabled_offline :
    (mill.Manages ∧ (mill.store.robots.get 0).enabled = 1 ∧ (mill.robot 0).state = .offline ∧ mill.NoneFlying pcdBefore)
    ∧ (let s := idleDoffer 7 (doffMill .claiming .doffWait false);
        s.Manages ∧ s.OfferedTo 0 7 ∧ (s.doffer 0).state = .claiming ∧ (s.doffer 0).frame = some 0
          ∧ (s.store.doffers.get 0).enabled = 1 ∧ s.NoneFlying (dauFirst 0) ∧ s.NoneFlying (spuFirst 0)) := by
  decide +kernel

theorem witness_ReadsReply :
    mill.Manages ∧ (mill.entryBytes 7 255).isSome = true ∧ (mill.entryBytes 1 31).isSome = true
    ∧ [48, 32, 8, 12, 8, 8, 1, 256].getD 1 0 ≤ 32 ∧ [48, 12, 8, 8, 1536, 64].getD 4 0 ≤ 1536
    ∧ mill.NoneFlying (dauFirst 0) ∧ mill.NoneFlying (spuFirst 0) ∧ mill.NoneFlying (smuFirst 0) ∧ mill.NoneFlying pcdBefore
    ∧ (mill.groupRecord 0 0).isSome = true ∧ mill.enabled 0 = true ∧ (mill.entry 0).hasGroup 0 = true
    ∧ mill.enabled 1 = false ∧ (mill.entry 0).hasGroup 1 = false ∧ (mill.robot 0).assignment = none
    ∧ (mill.smu.rogues.drop 0).take 4 = []
    ∧ (mill.store.articles.get 0).maxRpm < 65536 ∧ (mill.store.zones.get 7).slots.length = 16
    ∧ (∀ b ∈ (mill.store.zones.get 7).slots, b < 256)
    ∧ (let s := mill.setRogues [{ frame := 0, side := .A, index := 0, cause := .repeats, seconds := 2 ^ 32 }];
        ∃ e ∈ (s.smu.rogues.drop 0).take 4, 2 ^ 32 ≤ e.seconds)
    ∧ (let s := mill.setGroup 0 0 (some { remaining := 5, state := .queued, sequence := some 1#16, carrier := none });
        s.Manages ∧ (s.groupRecord 0 0).map Group.sequence = some (some 1#16))
    ∧ (mill.entry 0).length .A < 1 + 4 ∧ 0 + 4 ≤ (mill.entry 0).length .A ∧ 64 < 65 ∧ 19 < 20 := by
  decide +kernel

theorem witness_ShiftCloses :
    mill.Manages ∧ mill.ssu.snapshot = false ∧ ((mill.scu.current.get 47).counts.lawful : Prop)
    ∧ (let s : State := { mill with ssu := { mill.ssu with snapshot := true } }; s.Manages ∧ s.ssu.snapshot = true) :=
  ⟨by decide +kernel, by decide +kernel, by unfold Counts.lawful; decide +kernel, by decide +kernel⟩

theorem witness_FlagsAndPartReset :
    mill.Manages ∧ 1 < 2 ∧ mill.link.upQueue.length < 64
    ∧ (let s := mill.setUpQueue (.replicate 64 (telegram 0x60 0xFF 0 [])); s.Manages ∧ 64 ≤ s.link.upQueue.length)
    ∧ (let s : State := { mill with store := { mill.store with resetWait := some 1 } };
        s.store.resetWait ≠ none ∧ (Instr.shiftClose 0 0).port = .uplink
          ∧ (encodeTelegram (.shiftClose 0 0)).isSome = true) := by
  decide +kernel

/-- With a line reset begun and without; one group at the low mark, one above it. -/
theorem witness_LineResetValues : resetMill.power = .on ∧ resetMill.inFlight = [] ∧ resetMill.store.resetWait = some 0
    ∧ mill.power = .on ∧ mill.inFlight = [] ∧ mill.store.resetWait ≠ some 0
    ∧ (let s := figure 100 .supplied none resetMill;
        s.power = .on ∧ s.inFlight = [] ∧ s.remaining 0 0 ≤ (s.article 0).lowMark ∧ (s.article 0).lowMark < s.remaining 0 16)
    ∧ (let s := resetMill.emit (.rsuRovingHandoff 0 500);
        let u := s.settleHandoffs;
        s.store.resetWait = some 0 ∧ u.power = .on ∧ u.inFlight = [] ∧ u.store.heldAlarms.length = 2
          ∧ isHandOff (.rsuRovingHandoff 0 500) = true) := by
  decide +kernel

/-- R189: SUPPLY-WARN, raised once the line reset has begun, is held. -/
theorem test_alarm_is_held :
    after (Sys2Proof.Machine.exec (.supplyFall 3000) resetMill) (fun s =>
      decide (s.link.upQueue = [] ∧ s.store.heldAlarms = [{ kind := .supplyWarn, cls := 7, index := 0, detail := 2 }])) =
      true := by
  decide +kernel

/-- R188, R189: a roving hand-off taken as the line reset is made empties two groups, whose STARVED alarms stand behind
STARTUP. -/
theorem test_alarms_behind_startup :
    (((resetMill.emit (.rsuRovingHandoff 0 500)).settleHandoffs.applyLineReset .lineCmd 0).announce 0).offerHeld.link.upQueue.map
        (fun m => (m.kind, m.seq, m.payload.take 4)) =
      [(0x62#8, 0#8, [0, 2, 0, 1]), (0x61#8, 1#8, [5, 4, 0, 0]), (0x61#8, 2#8, [5, 4, 0, 16])] := by
  decide +kernel

/-- R96: a full verify list takes no entry, also where it names the spindle of the PIECED. -/
theorem test_full_verify_list :
    let e : VerifyEntry := { frame := 0, side := .A, index := 0, deadline := 9000 }
    after (Sys2Proof.Machine.exec (.pieced 0x40 0 0 0 0) ((robotMill (piecer false)).setVerify (.replicate 32 e))) (fun t =>
      decide (t.pcd.verify = .replicate 32 e ∧ t.flagSet .verifySkipped = true
        ∧ t.inFlight = [.piecingRequest 0 .A 0 false, .scuSuccessfulPiecing 0])) = true := by
  decide +kernel

theorem witness_SupplyResets :
    2850 ≤ 2850 ∧ 2849 < 2850 ∧ 2850 < 2851
    ∧ (let s : State := { mill with power := .heldBySupply };
        s.power = .heldBySupply ∧ s.rstnLow = false ∧ ({ s with rstnLow := true } : State).rstnLow = true)
    ∧ (∀ dip : Bool, let s : State := { mill with power := .heldByPin dip };
        s.power = .heldByPin dip ∧ s.retention.valid = false)
    ∧ mill.power ≠ .heldBySupply ∧ mill.power = .on
    ∧ (let s := State.blank 0 { Retention.initial with intact := false } .heldBySupply false 0 0 [];
        s.power = .heldBySupply ∧ s.rstnLow = false ∧ s.retention.intact = false ∧ s.retention.images = .fill 48 .empty
          ∧ s.freeUses = 0 ∧ s.pending = []) := by
  decide +kernel

/-- The mill with its comparator and warn mode as given; its warn level is 3,100 mV and its recovery level 3,150 mV. -/
def supplyMill (comparator : Comparator) (warnMode : Nat) : State :=
  { mill with
    ssu := { mill.ssu with comparator },
    store := { mill.store with settings := { mill.store.settings with warnMode } } }

theorem witness_CrossingsAndSnapshot :
    (∀ m ∈ [0, 1, 2], let s := supplyMill .normal m;
      s.power = .on ∧ s.ssu.comparator = .normal ∧ s.store.settings.warnMode = m
        ∧ 3000 + 50 * s.store.settings.warnLevel ≤ 3100 ∧ 3099 < 3000 + 50 * s.store.settings.warnLevel)
    ∧ (let s := supplyMill .low 2;
        s.power = .on ∧ s.ssu.comparator = .low ∧ 3150 ≤ 3000 + 50 * s.store.settings.warnLevel + 50
          ∧ 3000 + 50 * s.store.settings.warnLevel + 50 < 3151)
    ∧ mill.ssu.snapshot = false
    ∧ (∀ f ∈ [(0 : FrameId), 46, 47], let s : State := { mill with ssu := { mill.ssu with snapshot := true, nextFrame := f } };
        s.power = .on ∧ s.ssu.snapshot = true ∧ s.ssu.nextFrame = f)
    ∧ (47 : FrameId).val = (46 : FrameId).val + 1 := by
  decide +kernel

/-- The mill with a production item at the front of its queue is sound, and a step from it answers a next state. -/
theorem witness_StepKeepsBounds_StepKeepsProductionLawful :
    let s : State := { mill with pending := [.scuDeliveryHandoff 0 1 8 8 20000] }
    (after (Sys2Proof.Machine.step s) fun t =>
        decide ((t.count 0).counts.produced = 8 ∧ (t.count 0).counts.possible = 8)) = true
      ∧ s.queuesBounded ∧ s.countersBounded ∧ s.listsBounded ∧ s.residuesBounded ∧ s.commandsBlocked
      ∧ s.productionLawful := by
  have former : ∀ f : FrameId, (mill.deliveryRecord f).former = none := by decide +kernel
  refine ⟨by decide +kernel, by unfold State.queuesBounded; decide +kernel, fun c => by cases c <;> decide +kernel,
    by unfold State.listsBounded; decide +kernel,
    ⟨by decide +kernel, ⟨by decide +kernel, fun f a h => ?_, by decide +kernel, by decide +kernel⟩, by decide +kernel,
      by decide +kernel⟩,
    by unfold State.commandsBlocked; decide +kernel,
    ⟨by unfold State.mapsCounted FrameMap.counted; decide +kernel, by unfold Counts.lawful; decide +kernel,
      by unfold Counts.lawful; decide +kernel, by unfold Counts.lawful; decide +kernel, fun c hc => ?_,
      by simp [lawfulItem]⟩⟩
  · exact absurd ((former f).symm.trans h) (by simp)
  · rw [show mill.inFlight = [] by decide +kernel] at hc
    cases hc

theorem witness_OnlyTheirOwnCommands :
    (after (Sys2Proof.Machine.exec (.doffDone 0x50 0 0) (doffMill .doffing .doffing true)) fun _ => true) = true
    ∧ losesState (.doffDone 0x50 0 0) = false ∧ writesTable (.doffDone 0x50 0 0) = false
    ∧ (let c : Instr := .lineReset 0;
        losesState c = false ∧ (∀ seq index mask values, c ≠ .dispositionTableWrite seq index mask values)
          ∧ ∀ seq index mask values, c ≠ .tableWrite seq 7 index mask values)
    ∧ losesState (.flagsRead 0 0) = false ∧ (∀ seq, Instr.flagsRead 0 0 ≠ .flagsRead seq 1)
    ∧ (mill.latch .lost).flagSet .lost = true := by
  refine ⟨by decide +kernel, rfl, rfl, ⟨rfl, by simp, by simp⟩, rfl, fun seq => by simp, by decide +kernel⟩

end Sys2Proof.Tests
end

section
/-! What a command of the machine leaves: the bounds it keeps (R10, R11, R13, R15, R50, R55, R76, R96) and the tables, flags and
closed records that it does not touch (R18, R37, R130, R172). The relations and the rules of the shared operations. -/

namespace Sys2Proof.Machine

variable {s t u : State}

/-- A sound `s` has only a sound `t` behind it, bound by bound. -/
structure State.Bounds (s t : State) : Prop where
  queues : s.queuesBounded → t.queuesBounded
  counters : s.countersBounded → t.countersBounded
  lists : s.listsBounded → t.listsBounded
  maps : s.mapsCounted → t.mapsCounted
  residues : s.residuesBounded → t.residuesBounded
  blocked : s.commandsBlocked → t.commandsBlocked

/-- The tables of the Table Store, but for the Frame Table. -/
def State.tables (s : State) :
    Tab 16 Article × Tab 8 ZoneEntry × Tab 12 RobotEntry × Tab 8 DofferEntry × Tab 8 CarrierEntry × Settings :=
  (s.store.articles, s.store.zones, s.store.robots, s.store.doffers, s.store.carriers, s.store.settings)

/-- What every command keeps that neither resets the part nor writes a disposition, reads with clear or closes a shift. -/
structure State.Kept (s t : State) : Prop where
  bounds : s.Bounds t
  flags : ∀ x, s.flagSet x = true → t.flagSet x = true
  disposition : t.link.disposition = s.link.disposition
  closed : t.scu.closed = s.scu.closed
  power : t.power = s.power
  rstnLow : t.rstnLow = s.rstnLow

/-- What the units keep among themselves: the tables are as they were, too. -/
structure State.Calm (s t : State) : Prop extends State.Kept s t where
  tables : t.tables = s.tables
  frames : t.store.frames = s.store.frames

theorem State.Bounds.refl : s.Bounds s := ⟨id, id, id, id, id, id⟩

theorem State.Bounds.trans (h : s.Bounds t) (h' : t.Bounds u) : s.Bounds u :=
  ⟨h'.queues ∘ h.queues, h'.counters ∘ h.counters, h'.lists ∘ h.lists, h'.maps ∘ h.maps, h'.residues ∘ h.residues,
    h'.blocked ∘ h.blocked⟩

theorem State.Kept.refl : s.Kept s := ⟨.refl, fun _ => id, rfl, rfl, rfl, rfl⟩

theorem State.Kept.trans (h : s.Kept t) (h' : t.Kept u) : s.Kept u :=
  ⟨h.bounds.trans h'.bounds, fun x => h'.flags x ∘ h.flags x, h'.disposition.trans h.disposition, h'.closed.trans h.closed,
    h'.power.trans h.power, h'.rstnLow.trans h.rstnLow⟩

theorem State.Calm.refl : s.Calm s := ⟨.refl, rfl, rfl⟩

theorem State.Calm.trans (h : s.Calm t) (h' : t.Calm u) : s.Calm u :=
  ⟨h.toKept.trans h'.toKept, h'.tables.trans h.tables, h'.frames.trans h.frames⟩

/-- What the relations read, but for the link counters, the flags and the lists that only grow by a rule. -/
def State.watched (s : State) :
    Link × Store × Tab 48 Delivery × SpindleMap × List VerifyEntry × List SetEntry × ShiftCounts × Retention × Power × Bool :=
  (s.link, s.store, s.dau, s.smu, s.pcd.verify, s.rsu.set, s.scu, s.retention, s.power, s.rstnLow)

/-- A change of anything that the relations do not read. -/
theorem State.Calm.elsewhere (h : s.Calm t) (e : u.watched = t.watched) : s.Calm u := by
  obtain ⟨link, store, dau, smu, pcd, aou, dcu, spu, rsu, scu, ssu, retention, power, rstnLow, _⟩ := u
  simp only [State.watched, Prod.mk.injEq] at e
  obtain ⟨rfl, rfl, rfl, rfl, verify, set, rfl, rfl, rfl, rfl⟩ := e
  refine h.trans ⟨⟨⟨id, id, fun l => ?_, id, id, id⟩, fun _ => id, rfl, rfl, rfl, rfl⟩, rfl, rfl⟩
  exact ⟨l.1, verify ▸ l.2.1, set ▸ l.2.2⟩

/-! ### The link and the flags -/

theorem State.flagSet_latch_of (x y : LineFlag) (h : t.flagSet x = true) : (t.latch y).flagSet x = true := by
  unfold State.flagSet at h ⊢
  rw [State.latch_store, BitVec.getLsbD_or, h, Bool.true_or]

theorem State.Calm.latch (h : s.Calm t) (x : LineFlag) : s.Calm (t.latch x) :=
  h.trans ⟨⟨⟨id, id, id, id, id, id⟩, fun y => State.flagSet_latch_of y x, rfl, rfl, rfl, rfl⟩, rfl, rfl⟩

theorem State.Calm.bump (h : s.Calm t) (c : LinkCounter) : s.Calm (t.bump c) := by
  have counters : t.countersBounded → (t.bump c).countersBounded := fun b d => by
    rw [State.counter_bump]
    split
    · exact Nat.min_le_right _ _
    · exact b d
  exact h.trans ⟨⟨⟨id, counters, id, id, id, id⟩, fun _ => id, rfl, rfl, rfl, rfl⟩, rfl, rfl⟩

theorem State.Calm.setUpQueue (h : s.Calm t) (q : List Telegram) (hq : t.queuesBounded → q.length ≤ 64) :
    s.Calm (t.setUpQueue q) :=
  h.trans ⟨⟨⟨fun b => ⟨hq b, b.2⟩, id, id, id, id, id⟩, fun _ => id, rfl, rfl, rfl, rfl⟩, rfl, rfl⟩

theorem State.Calm.setFloorQueue (h : s.Calm t) (q : List Telegram) (hq : t.queuesBounded → q.length ≤ 64) :
    s.Calm (t.setFloorQueue q) :=
  h.trans ⟨⟨⟨fun b => ⟨b.1, hq b⟩, id, id, id, id, id⟩, fun _ => id, rfl, rfl, rfl, rfl⟩, rfl, rfl⟩

theorem State.Calm.offerCopy (h : s.Calm t) (tel : Telegram) : s.Calm (t.offerCopy tel) := by
  rcases t.offerCopy_cases tel with ⟨room, e⟩ | ⟨-, e⟩
  · exact e ▸ h.setUpQueue _ fun _ => by simp; omega
  · exact e ▸ (h.bump _).latch _

theorem State.Calm.offerUp (h : s.Calm t) (tel : Telegram) : s.Calm (t.offerUp tel) := by
  rcases t.offerUp_cases tel with ⟨room, e⟩ | ⟨-, e⟩
  · exact e ▸ h.setUpQueue _ fun _ => by simp; omega
  · exact e ▸ (h.bump _).latch _

theorem State.Calm.offerPass (h : s.Calm t) (tel : Telegram) : s.Calm (t.offerPass tel) := by
  rcases t.offerPass_cases tel with ⟨room, e⟩ | ⟨-, e⟩
  · exact e ▸ h.setFloorQueue _ fun _ => by simp; omega
  · exact e ▸ (h.bump _).latch _

theorem State.Calm.offerFloor (h : s.Calm t) (tel : Telegram) : s.Calm (t.offerFloor tel) := by
  rcases t.offerFloor_cases tel with ⟨room, e⟩ | ⟨-, e⟩
  · exact e ▸ h.setFloorQueue _ fun _ => by simp; omega
  · exact e ▸ (h.bump _).latch _

/-- The sequence counters of the part's own telegrams (R12). -/
theorem State.Calm.setSeqs (h : s.Calm t) (up floor : Byte) :
    s.Calm { t with link := { t.link with upSeq := up, floorSeq := floor } } :=
  h.trans ⟨⟨⟨id, id, id, id, id, id⟩, fun _ => id, rfl, rfl, rfl, rfl⟩, rfl, rfl⟩

theorem State.Calm.sendFloor (h : s.Calm t) (node kind : Nat) (p : List Byte) : s.Calm (t.sendFloor node kind p) :=
  (h.setSeqs _ _).offerFloor _

theorem State.Calm.sendUp (h : s.Calm t) (kind : Nat) (p : List Byte) : s.Calm (t.sendUp kind p) :=
  (h.setSeqs _ _).offerUp _

/-- The wait of a PART-RESET, the line number and the held alarms are no table. -/
theorem State.Calm.setWait (h : s.Calm t) (wait : Option Nat) (line : Fin 32) (held : List Alarm) :
    s.Calm { t with store := { t.store with resetWait := wait, lineNumber := line, heldAlarms := held } } :=
  h.trans ⟨⟨⟨id, id, id, id, id, id⟩, fun _ => id, rfl, rfl, rfl, rfl⟩, rfl, rfl⟩

theorem State.Calm.alarm (h : s.Calm t) (k : AlarmKind) (c i d : Nat) : s.Calm (t.alarm k c i d) := by
  unfold State.alarm
  split
  · split
    · exact h.setWait _ _ _
    · exact h.sendUp _ _
  · exact h

/-! ### Hand-offs -/

theorem State.Calm.fly (h : s.Calm t) (l : List Instr) : s.Calm { t with inFlight := l } := h.elsewhere rfl

theorem State.Calm.emit (h : s.Calm t) (c : Instr) : s.Calm (t.emit c) := h.fly _

theorem State.Calm.emitAll (h : s.Calm t) (l : List Instr) : s.Calm (t.emitAll l) := h.fly _

theorem State.Calm.drop (h : s.Calm t) (c : Instr) : s.Calm (t.drop c) := h.fly _

theorem State.Calm.reach (h : s.Calm t) (n : Nat) : s.Calm (t.reach n) := h.elsewhere rfl

theorem State.Calm.foldl {α : Type} {op : State → α → State} (h : s.Calm t)
    (hop : ∀ (u : State) (a : α), s.Calm u → s.Calm (op u a)) (l : List α) : s.Calm (l.foldl op t) := by
  induction l generalizing t with
  | nil => exact h
  | cons a rest ih => exact ih (hop t a h)

theorem State.Calm.takeMatching {p : Instr → Bool} {app : Instr → State → State} (h : s.Calm t)
    (hop : ∀ (u : State) (c : Instr), s.Calm u → s.Calm (app c u)) : s.Calm (t.takeMatching p app) :=
  (h.fly _).foldl (op := fun u c => app c u) hop _

theorem State.Calm.takeInOrder {lane : Instr → Bool} {app : Instr → State → State} {c : Instr} (h : s.Calm t)
    (hop : ∀ (u : State) (c : Instr), s.Calm u → s.Calm (app c u)) : s.Calm (t.takeInOrder lane app c) :=
  (h.foldl (op := fun u c => u.drop c) (fun _ c k => k.drop c) _).foldl (op := fun u c => app c u) hop _

theorem State.Calm.whenOn {k : State → State} (h : s.Calm t) (hk : ∀ u, s.Calm u → s.Calm (k u)) : s.Calm (t.whenOn k) := by
  unfold State.whenOn
  split
  · exact hk t h
  · exact h

theorem State.Calm.handoffInOrder {lane : Instr → Bool} {app : Instr → State → State} {c : Instr} (h : s.Calm t)
    (hop : ∀ (u : State) (c : Instr), s.Calm u → s.Calm (app c u)) : s.Calm (t.handoffInOrder lane app c) :=
  h.whenOn fun _ k => k.takeInOrder hop

theorem State.Calm.handoff {k : State → State} (h : s.Calm t) (c : Instr) (hk : ∀ u, s.Calm u → s.Calm (k u)) :
    s.Calm (t.handoff c k) := h.whenOn fun _ j => hk _ (j.drop c)

/-! ### Records that a bound speaks of -/

theorem State.Calm.setVerify (h : s.Calm t) (l : List VerifyEntry) (hl : t.listsBounded → l.length ≤ 32) :
    s.Calm (t.setVerify l) :=
  h.trans ⟨⟨⟨id, id, fun b => ⟨b.1, hl b, b.2.2⟩, id, id, id⟩, fun _ => id, rfl, rfl, rfl, rfl⟩, rfl, rfl⟩

theorem State.Calm.filterVerify (h : s.Calm t) (p : VerifyEntry → Bool) : s.Calm (t.setVerify (t.pcd.verify.filter p)) :=
  h.setVerify _ fun b => (List.length_filter_le _ _).trans b.2.1

theorem State.Calm.setRogues (h : s.Calm t) (l : List RogueEntry) (hl : t.listsBounded → l.length ≤ 128) :
    s.Calm (t.setRogues l) :=
  h.trans ⟨⟨⟨id, id, fun b => ⟨hl b, b.2⟩, id, id, id⟩, fun _ => id, rfl, rfl, rfl, rfl⟩, rfl, rfl⟩

theorem State.Calm.filterRogues (h : s.Calm t) (p : RogueEntry → Bool) : s.Calm (t.setRogues (t.smu.rogues.filter p)) :=
  h.setRogues _ fun b => (List.length_filter_le _ _).trans b.1

theorem State.Calm.setSet (h : s.Calm t) (l : List SetEntry) (hl : s.listsBounded → l.length ≤ 64) :
    s.Calm (t.setSet l) := by
  refine ⟨⟨⟨h.bounds.queues, h.bounds.counters, fun b => ?_, h.bounds.maps, h.bounds.residues, h.bounds.blocked⟩, h.flags,
    h.disposition, h.closed, h.power, h.rstnLow⟩, h.tables, h.frames⟩
  exact ⟨(h.bounds.lists b).1, (h.bounds.lists b).2.1, hl b⟩

theorem State.Calm.setMap (h : s.Calm t) (f : FrameId) (m : FrameMap) (hm : (t.map f).counted → m.counted) :
    s.Calm (t.setMap f m) := by
  have maps : t.mapsCounted → (t.setMap f m).mapsCounted := fun b g => by
    by_cases e : f = g
    · subst e
      rw [State.map_setMap]
      exact hm (b f)
    · rw [State.map_setMap_ne t e]
      exact b g
  exact h.trans ⟨⟨⟨id, id, id, maps, id, id⟩, fun _ => id, rfl, rfl, rfl, rfl⟩, rfl, rfl⟩

theorem State.Calm.setCount (h : s.Calm t) (f : FrameId) (r : CountRecord)
    (hr : (t.count f).massResidue < 1000000 → r.massResidue < 1000000) : s.Calm (t.setCount f r) := by
  have residues : t.residuesBounded → (t.setCount f r).residuesBounded := fun ⟨length, roving, mass, images⟩ =>
    ⟨length, roving, fun g => by
      by_cases e : f = g
      · subst e
        rw [State.count_setCount]
        exact hr (mass f)
      · rw [State.count_setCount_ne t e]
        exact mass g, images⟩
  exact h.trans ⟨⟨⟨id, id, id, id, residues, id⟩, fun _ => id, rfl, rfl, rfl, rfl⟩, rfl, rfl⟩

/-- What the residues of R50 ask of a delivery record of a frame. -/
def State.deliverySound (t : State) (f : FrameId) (r : Delivery) : Prop :=
  r.lengthResidue < 65536 ∧ (∀ a, r.former = some a → 0 < a.draft)
    ∧ (t.enabled f = true → r.rovingResidue < (r.former.getD (t.article f)).draft)

theorem State.residuesBounded.delivery (h : t.residuesBounded) (f : FrameId) : t.deliverySound f (t.deliveryRecord f) :=
  ⟨h.1 f, h.2.1.2.1 f, h.2.1.2.2.2 f⟩

theorem State.residuesBounded.article_pos (h : t.residuesBounded) (f : FrameId) : 0 < (t.article f).draft := h.2.1.1 _

theorem State.residuesBounded.dauArticle_pos (h : t.residuesBounded) (f : FrameId) : 0 < (t.dauArticle f).draft := by
  unfold State.dauArticle
  cases e : (t.deliveryRecord f).former with
  | none => exact h.article_pos f
  | some a => exact h.2.1.2.1 f a e

/-- The bounds of R50 after a delivery record is written. -/
theorem State.residuesBounded.setDelivery (h : t.residuesBounded) {f : FrameId} {r : Delivery} (hr : t.deliverySound f r) :
    (t.setDelivery f r).residuesBounded := by
  have records : ∀ g, (t.setDelivery f r).deliverySound g ((t.setDelivery f r).deliveryRecord g) := fun g => by
    by_cases e : f = g
    · subst e
      rw [State.deliveryRecord_setDelivery]
      exact hr
    · rw [State.deliveryRecord_setDelivery_ne t e]
      exact h.delivery g
  exact ⟨fun g => (records g).1, ⟨h.2.1.1, fun g => (records g).2.1, h.2.1.2.2.1, fun g => (records g).2.2⟩, h.2.2⟩

theorem State.Calm.setDelivery (h : s.Calm t) (f : FrameId) (r : Delivery)
    (hr : t.residuesBounded → t.deliverySound f r) : s.Calm (t.setDelivery f r) :=
  h.trans ⟨⟨⟨id, id, id, id, fun b => b.setDelivery (hr b), id⟩, fun _ => id, rfl, rfl, rfl, rfl⟩, rfl, rfl⟩

end Sys2Proof.Machine
end

section
/-! The units among themselves: each of their operations keeps the bounds, the tables, the flags and the closed records. -/

namespace Sys2Proof.Machine

variable {s t u : State}

/-! ### The Aisle Occupancy Unit -/

theorem State.Calm.setHolder (h : s.Calm t) (a : AisleId) (x : Holder) : s.Calm (t.setHolder a x) := h.elsewhere rfl

theorem State.Calm.setReserved (h : s.Calm t) (a : AisleId) (d : Option DofferId) : s.Calm (t.setReserved a d) :=
  h.elsewhere rfl

theorem State.Calm.setWaiting (h : s.Calm t) (l : List PendingReservation) : s.Calm (t.setWaiting l) := h.elsewhere rfl

theorem State.Calm.setClaimed (h : s.Calm t) (d : DofferId) (f : Option FrameId) : s.Calm (t.setClaimed d f) :=
  h.elsewhere rfl

theorem State.Calm.holdStep (h : s.Calm t) (d : DofferId) : s.Calm (t.holdStep d) := by
  unfold State.holdStep
  dsimp only
  split
  · have held : s.Calm ((t.reservedFor d).foldl (fun v a => v.setHolder a (.doffer d)) t) :=
      h.foldl (op := fun v a => v.setHolder a (.doffer d)) (fun _ _ k => k.setHolder _ _) _
    split
    · exact held.emit _
    · exact held
  · exact h

theorem State.Calm.takeRobotRelease (h : s.Calm t) (k : RobotId) (a : AisleId) : s.Calm (t.takeRobotRelease k a) := by
  unfold State.takeRobotRelease
  split
  · dsimp only
    split
    · exact (h.setHolder _ _).emit _
    · exact (h.setHolder _ _).holdStep _
  · exact h

theorem State.Calm.aouTakeRobot (h : s.Calm t) (c : Instr) : s.Calm (aouTakeRobot t c) := by
  unfold Machine.aouTakeRobot
  split
  · exact h.takeRobotRelease _ _
  · exact h

theorem State.Calm.aouReady (h : s.Calm t) : s.Calm t.aouReady := h.takeMatching fun _ c k => k.aouTakeRobot c

theorem State.Calm.robotGrant (h : s.Calm t) (k : RobotId) (a : AisleId) : s.Calm (t.robotGrant k a).2 := by
  unfold State.robotGrant
  dsimp only
  split
  · exact h.aouReady
  · split
    · split
      · exact (h.aouReady.setHolder _ _).takeRobotRelease _ _
      · exact h.aouReady.setHolder _ _
    · exact h.aouReady

theorem State.Calm.reserveSet (h : s.Calm t) (d : DofferId) (f : FrameId) (set : List AisleId) :
    s.Calm (t.reserveSet d f set) := by
  unfold State.reserveSet
  have reserved : s.Calm (set.foldl (fun v a => v.setReserved a (some d)) t) :=
    h.foldl (op := fun v a => v.setReserved a (some d)) (fun _ _ k => k.setReserved _ _) _
  exact ((reserved.setClaimed _ _).emitAll _).holdStep _

theorem State.Calm.scan (h : s.Calm t) : s.Calm t.scan := by
  refine h.foldl (fun v p k => ?_) _
  split
  · exact (k.setWaiting _).reserveSet _ _ _
  · exact k

theorem State.Calm.endClaim (h : s.Calm t) (d : DofferId) : s.Calm (t.endClaim d) := by
  have cleared : s.Calm (((t.reservedFor d).foldl (fun v a => v.setReserved a none)
      ((t.heldBy d).foldl (fun v a => v.setHolder a .none)
        (t.setWaiting (t.aou.waiting.filter fun p => p.doffer != d)))).setClaimed d none) :=
    (((h.setWaiting _).foldl (op := fun v a => v.setHolder a .none) (fun _ _ k => k.setHolder _ _) _).foldl
      (op := fun v a => v.setReserved a none) (fun _ _ k => k.setReserved _ _) _).setClaimed _ _
  unfold State.endClaim
  dsimp only
  split
  · exact cleared.scan
  · exact cleared

theorem State.Calm.takeDofferRelease (h : s.Calm t) (d : DofferId) : s.Calm (t.takeDofferRelease d) :=
  (h.endClaim d).emitAll _

theorem State.Calm.placeClaim (h : s.Calm t) (d : DofferId) (f : FrameId) : s.Calm (t.placeClaim d f) := by
  unfold State.placeClaim
  dsimp only
  split
  · exact h.reserveSet _ _ _
  · exact h.setWaiting _

theorem State.Calm.takeReservation (h : s.Calm t) (d : DofferId) (f : FrameId) : s.Calm (t.takeReservation d f) := by
  unfold State.takeReservation
  dsimp only
  split
  · exact (((h.fly _).endClaim d).placeClaim d f).emitAll _
  · exact (h.fly _).placeClaim d f

theorem State.Calm.aouTakeDoffer (h : s.Calm t) (c : Instr) : s.Calm (aouTakeDoffer t c) := by
  unfold Machine.aouTakeDoffer
  split
  · exact h.takeReservation _ _
  · exact h.takeDofferRelease _
  · exact h

/-! ### The Shift Count Unit -/

/-- A single event leaves the mass residue (R174). -/
theorem CountRecord.count_massResidue (r : CountRecord) (e : Event) : (r.count e).massResidue = r.massResidue := by
  cases e <;> rfl

theorem State.Calm.countEvent (h : s.Calm t) (e : Event) (f : FrameId) : s.Calm (t.countEvent e f) :=
  h.setCount _ _ fun b => (CountRecord.count_massResidue _ e).symm ▸ b

theorem State.Calm.takeCountDelivery (h : s.Calm t) (f : FrameId) (dL r p mtex : Nat) :
    s.Calm (t.takeCountDelivery f dL r p mtex) := by
  unfold State.takeCountDelivery
  split
  · exact h.setCount _ _ fun _ => Nat.mod_lt _ (by decide)
  · exact h

theorem State.Calm.scuTake (h : s.Calm t) (c : Instr) : s.Calm (scuTake t c) := by
  unfold Machine.scuTake
  split
  · exact h.takeCountDelivery _ _ _ _ _
  all_goals first | exact h.countEvent _ _ | exact h

/-! ### The Line Link Unit -/

theorem State.Calm.countMalformed (h : s.Calm t) : s.Calm t.countMalformed := (h.bump _).latch _

theorem State.Calm.countUnknownNode (h : s.Calm t) : s.Calm t.countUnknownNode := (h.bump _).latch _

theorem State.Calm.countStale (h : s.Calm t) : s.Calm t.countStale := h.bump _

theorem State.Calm.countDuplicate (h : s.Calm t) : s.Calm t.countDuplicate := h.bump _

theorem State.Calm.countStoppedFrame (h : s.Calm t) : s.Calm t.countStoppedFrame := h.bump _

theorem State.Calm.copyTelegram (h : s.Calm t) (tel : Telegram) : s.Calm (t.copyTelegram tel) := by
  unfold State.copyTelegram
  split
  · exact h.offerCopy _
  · exact h

theorem State.Calm.copyReport (h : s.Calm t) (c : Instr) : s.Calm (t.copyReport c) := by
  rcases t.copyReport_cases c with e | ⟨tel, -, e⟩
  · rw [e]
    exact h
  · rw [e]
    exact h.offerCopy _

theorem State.Calm.hears {k : State → State} (h : s.Calm t) (hk : ∀ u, s.Calm u → s.Calm (k u)) : s.Calm (t.hears k) := by
  refine h.whenOn fun v j => ?_
  split
  · exact j
  · exact hk v j

theorem State.Calm.report {owner : State → State} (h : s.Calm t) (c : Instr) (hk : ∀ u, s.Calm u → s.Calm (owner u)) :
    s.Calm (t.report c owner) := by
  refine h.hears fun v j => ?_
  split
  · exact j.countMalformed
  · exact j.countUnknownNode
  · exact hk _ (j.copyReport c)

theorem State.Calm.management {k : State → State} (h : s.Calm t) (hk : ∀ u, s.Calm u → s.Calm (k u)) :
    s.Calm (t.management k) := by
  refine h.whenOn fun v j => ?_
  split
  · exact hk v j
  · exact j

theorem State.Calm.refuse (h : s.Calm t) (seq : Nat) (r : Result) : s.Calm (t.refuse seq r) := h.offerUp _

theorem State.Calm.replyOk (h : s.Calm t) (seq : Nat) (data : List Byte) : s.Calm (t.replyOk seq data) := h.offerUp _

theorem State.Calm.badValue (h : s.Calm t) (seq n : Nat) : s.Calm (t.badValue seq n) := h.offerUp _

theorem State.Calm.discardMalformed (h : s.Calm t) (port : Port) (tel : Telegram) : s.Calm (t.discardMalformed port tel) := by
  unfold State.discardMalformed
  dsimp only
  split
  · exact h.countMalformed.refuse _ _
  · exact h.countMalformed

theorem State.Calm.relayDown (h : s.Calm t) (tel : Telegram) : s.Calm (t.relayDown tel) := by
  unfold State.relayDown
  split
  · exact h.offerPass _
  · exact h.bump _

theorem State.Calm.replySent (h : s.Calm t) : s.Calm t.replySent := by
  unfold State.replySent
  split
  · exact h.setWait _ _ _
  · exact h

/-! ### The Spindle Map Unit -/

/-- The running count of a list of spindles after one of them is replaced (R55). -/
theorem runningIn_set {l : List Spindle} {i : Nat} {old : Spindle} (h : l[i]? = some old) (sp : Spindle) :
    runningIn (l.set i sp) + (if old.state = .running then 1 else 0)
      = runningIn l + (if sp.state = .running then 1 else 0) := by
  obtain ⟨hi, rfl⟩ := List.getElem?_eq_some_iff.1 h
  have pos : l[i].state = .running → 0 < runningIn l := fun r =>
    List.countP_pos_iff.2 ⟨_, List.getElem_mem hi, by simp [r]⟩
  unfold runningIn at pos ⊢
  rw [List.countP_set hi]
  by_cases a : l[i].state = .running <;> by_cases b : sp.state = .running <;> simp [a, b] <;>
    (have := pos a; omega)

theorem FrameMap.counted.put {m : FrameMap} (h : m.counted) (side : Side) (i : Nat) (sp : Spindle) :
    (m.put side i sp).counted := by
  obtain ⟨running, populated⟩ := h
  unfold FrameMap.put
  split
  · exact ⟨running, populated⟩
  · rename_i old e
    have count := runningIn_set e sp
    cases side <;> simp only [FrameMap.side, FrameMap.setSide] at count ⊢ <;>
      exact ⟨by dsimp only; omega, by simpa using populated⟩

theorem FrameMap.counted.remap {m : FrameMap} (h : m.counted) (upd : Side → Nat → Spindle → Spindle) :
    (m.remap upd).counted :=
  ⟨by simp only [FrameMap.remap]; have := h.1; omega, by simpa [FrameMap.remap] using h.2⟩

theorem State.Calm.notices (h : s.Calm t) (f : FrameId) (l : List Change) : s.Calm (t.notices f l) := h.fly _

theorem State.Calm.change (h : s.Calm t) (f : FrameId) (side : Side) (i : Nat) (sp : Spindle) :
    s.Calm (t.change f side i sp) := (h.setMap _ _ fun b => b.put _ _ _).notices _ _

theorem State.Calm.changeMany (h : s.Calm t) (f : FrameId) (upd : Side → Nat → Spindle → Spindle) :
    s.Calm (t.changeMany f upd) := (h.setMap _ _ fun b => b.remap _).notices _ _

theorem State.Calm.makeBroken (h : s.Calm t) (f : FrameId) (side : Side) (i : Nat) (sp : Spindle) :
    s.Calm (t.makeBroken f side i sp) := h.change _ _ _ _

theorem State.Calm.listRogue (h : s.Calm t) (f : FrameId) (side : Side) (i : Nat) (cause : RogueCause) :
    s.Calm (t.listRogue f side i cause) := by
  unfold State.listRogue
  split
  · exact h.setRogues _ fun _ => by simp; omega
  · exact (h.latch _).alarm _ _ _ _

theorem State.Calm.makeRogue (h : s.Calm t) (f : FrameId) (side : Side) (i : Nat) (cause : RogueCause) (sp : Spindle) :
    s.Calm (t.makeRogue f side i cause sp) :=
  ((((h.change _ _ _ _).sendFloor _ _ _).listRogue _ _ _ _).alarm _ _ _ _).emit _

theorem State.Calm.unlistRogue (h : s.Calm t) (f : FrameId) (side : Side) (i : Nat) : s.Calm (t.unlistRogue f side i) :=
  h.filterRogues _

theorem State.Calm.failAttempt (h : s.Calm t) (f : FrameId) (side : Side) (i : Nat) : s.Calm (t.failAttempt f side i) := by
  unfold State.failAttempt
  dsimp only
  split
  · exact h.makeRogue _ _ _ _ _
  · exact h.makeBroken _ _ _ _

theorem State.Calm.smuTakeFirst (h : s.Calm t) (c : Instr) : s.Calm (smuTakeFirst t c) := by
  unfold Machine.smuTakeFirst
  split
  · exact h.changeMany _ _
  · exact h.changeMany _ _
  · exact h

theorem State.Calm.smuReady (h : s.Calm t) (f : FrameId) : s.Calm (t.smuReady f) := h.takeMatching fun _ c k => k.smuTakeFirst c

theorem State.Calm.takeBreak (h : s.Calm t) (f : FrameId) (side : Side) (i : Nat) : s.Calm (t.takeBreak f side i) := by
  unfold State.takeBreak
  dsimp only
  split
  · exact h.countMalformed
  · exact h.makeBroken _ _ _ _
  · split
    · exact (h.change _ _ _ _).emit _
    · split
      · split
        · exact ((h.emit _).emit _).makeRogue _ _ _ _ _
        · exact ((h.emit _).emit _).change _ _ _ _
      · exact (h.emit _).change _ _ _ _
  · exact (h.emit _).failAttempt _ _ _
  all_goals exact h.countDuplicate

theorem State.Calm.takeRun (h : s.Calm t) (f : FrameId) (side : Side) (i : Nat) : s.Calm (t.takeRun f side i) := by
  unfold State.takeRun
  dsimp only
  split
  · exact h.countMalformed
  · exact h.countDuplicate
  · exact (h.emit _).change _ _ _ _
  · exact (h.emit _).change _ _ _ _
  · exact (h.change _ _ _ _).unlistRogue _ _ _
  all_goals exact h.change _ _ _ _

theorem State.Calm.spindleReport {take : State → State} (h : s.Calm t) (f : FrameId) (side : Side) (i : Nat)
    (hk : ∀ u, s.Calm u → s.Calm (take u)) : s.Calm (t.spindleReport f side i take) := by
  unfold State.spindleReport
  dsimp only
  split
  · exact (h.smuReady f).countMalformed
  · split
    · exact (h.smuReady f).countStoppedFrame
    · exact hk _ (h.smuReady f)

theorem State.Calm.takeSideState (h : s.Calm t) (f : FrameId) (side : Side) (first count : Nat) (bits : List Byte) :
    s.Calm (t.takeSideState f side first count bits) := by
  unfold State.takeSideState
  dsimp only
  split
  · exact (h.smuReady f).countMalformed
  · exact (h.smuReady f).changeMany _ _

theorem State.Calm.takePiecing (h : s.Calm t) (f : FrameId) (side : Side) (i : Nat) (verify : Bool) :
    s.Calm (t.takePiecing f side i verify) := by
  unfold State.takePiecing
  dsimp only
  split
  · exact h.change _ _ _ _
  · exact h

theorem State.Calm.takeFailure (h : s.Calm t) (f : FrameId) (side : Side) (i : Nat) : s.Calm (t.takeFailure f side i) := by
  unfold State.takeFailure
  dsimp only
  split
  · split
    · exact h.change _ _ _ _
    · exact h.failAttempt _ _ _
  · exact h

theorem State.Calm.takeWithdraw (h : s.Calm t) (f : FrameId) (side : Side) (i : Nat) : s.Calm (t.takeWithdraw f side i) := by
  unfold State.takeWithdraw
  dsimp only
  split
  · exact h.makeBroken _ _ _ _
  · exact h

theorem State.Calm.takeVerifyExpiry (h : s.Calm t) (f : FrameId) (side : Side) (i : Nat) :
    s.Calm (t.takeVerifyExpiry f side i) := by
  unfold State.takeVerifyExpiry
  split
  · exact h.failAttempt _ _ _
  · exact h

theorem State.Calm.smuTake (h : s.Calm t) (c : Instr) : s.Calm (smuTake t c) := by
  unfold Machine.smuTake
  split
  · exact (h.smuReady _).takePiecing _ _ _ _
  · exact (h.smuReady _).takeFailure _ _ _
  · exact (h.smuReady _).takeWithdraw _ _ _
  · exact (h.smuReady _).takeVerifyExpiry _ _ _
  · exact h

theorem State.Calm.assignRequest (h : s.Calm t) (f : FrameId) (side : Side) (i : Nat) :
    s.Calm (t.assignRequest f side i).2 := by
  have ready : s.Calm ((t.takeMatching (pcdToSmu f) fun c v => Machine.smuTake v c).smuReady f) :=
    (h.takeMatching fun _ c k => k.smuTake c).smuReady f
  unfold State.assignRequest
  dsimp only
  split
  · exact ready.change _ _ _ _
  · exact ready

theorem State.Calm.starve (h : s.Calm t) (f : FrameId) (g : GroupId) : s.Calm (t.starve f g) := by
  unfold State.starve
  dsimp only
  split
  · exact (h.smuReady f).changeMany _ _
  · exact h.smuReady f

theorem State.Calm.unstarve (h : s.Calm t) (f : FrameId) (g : GroupId) : s.Calm (t.unstarve f g) :=
  (h.smuReady f).changeMany _ _

theorem State.Calm.release (h : s.Calm t) (f : FrameId) (side : Side) (i : Nat) : s.Calm (t.release f side i).2 := by
  unfold State.release
  dsimp only
  split
  · exact (((h.smuReady f).makeBroken _ _ _ _).sendFloor _ _ _).unlistRogue _ _ _
  · exact h.smuReady f

theorem FrameMap.enabled_counted (e : FrameEntry) : (FrameMap.enabled e).counted := by
  constructor <;> simp [FrameMap.enabled, runningIn, List.countP_replicate]

theorem FrameMap.empty_counted : FrameMap.empty.counted := ⟨rfl, rfl⟩

theorem State.Calm.disableMap (h : s.Calm t) (f : FrameId) : s.Calm (t.disableMap f) := by
  unfold State.disableMap
  exact ((h.setMap f .empty fun _ => FrameMap.empty_counted).notices _ _).filterRogues _

end Sys2Proof.Machine
end

section
/-! The Delivery Arithmetic Unit with the residues of R50, the Piecing Dispatcher and the Speed Program Unit keep the bounds, the
tables, the flags and the closed records. -/

namespace Sys2Proof.Machine

variable {s t u : State}

/-! ### The Delivery Arithmetic Unit -/

theorem State.Calm.takeDauDoff (h : s.Calm t) (f : FrameId) (switched : Bool) : s.Calm (t.takeDauDoff f switched) := by
  unfold State.takeDauDoff
  split
  · refine (h.setDelivery _ _ fun b => ?_).emit _
    obtain ⟨length, former, roving⟩ := b.delivery f
    cases switched with
    | false => exact ⟨length, former, roving⟩
    | true => exact ⟨length, nofun, fun _ => b.article_pos f⟩
  · exact h

theorem State.Calm.dauTake (h : s.Calm t) (c : Instr) : s.Calm (dauTake t c) := by
  unfold Machine.dauTake
  split
  · exact h.takeDauDoff _ _
  · exact h

theorem State.Calm.dauReady (h : s.Calm t) (f : FrameId) : s.Calm (t.dauReady f) := h.takeMatching fun _ c k => k.dauTake c

/-- A record whose remainders are those of the divisions by 65,536 and by the draft is sound (R41, R48, R50). -/
theorem State.residuesBounded.remainders (b : t.residuesBounded) (f : FrameId) (pulse length cop fill roving : Nat) :
    t.deliverySound f
      { t.deliveryRecord f with
        lastPulse := pulse, lengthResidue := length % 65536, cop, fill,
        rovingResidue := roving % (t.dauArticle f).draft } :=
  ⟨Nat.mod_lt _ (by decide), (b.delivery f).2.1, fun _ => Nat.mod_lt _ (b.dauArticle_pos f)⟩

theorem State.Calm.deliver (h : s.Calm t) (f : FrameId) (pulse : Nat) : s.Calm (t.deliver f pulse) := by
  unfold State.deliver
  dsimp only
  split
  · exact h.setDelivery _ _ fun b => b.delivery f
  · split
    · exact h.setDelivery _ _ fun b => ⟨Nat.mod_lt _ (by decide), (b.delivery f).2⟩
    · split
      · exact ((h.setDelivery _ _ fun b => b.remainders f _ _ _ _ _).emitAll _).emit _
      · exact (h.setDelivery _ _ fun b => b.remainders f _ _ _ _ _).emitAll _

/-! ### The Piecing Dispatcher -/

theorem State.Calm.modRobot (h : s.Calm t) (k : RobotId) (upd : Robot → Robot) : s.Calm (t.modRobot k upd) := h.elsewhere rfl

theorem State.Calm.setEnabling (h : s.Calm t) (f : FrameId) (n : Nat) : s.Calm (t.setEnabling f n) := h.elsewhere rfl

theorem State.Calm.takeSatisfied (h : s.Calm t) (f : FrameId) (side : Side) (i : Nat) : s.Calm (t.takeSatisfied f side i) := by
  unfold State.takeSatisfied
  dsimp only
  split
  · exact h.modRobot _ _
  · exact h.filterVerify _

theorem State.Calm.pcdTakeAbout (h : s.Calm t) (c : Instr) : s.Calm (pcdTakeAbout t c) := by
  unfold Machine.pcdTakeAbout
  split
  · exact h.takeSatisfied _ _ _
  · exact h.filterVerify _
  · exact h

theorem State.Calm.assign (h : s.Calm t) (k : RobotId) (c : Candidate) : s.Calm (t.assign k c) := by
  unfold State.assign
  exact (((h.takeMatching fun _ x j => j.pcdTakeAbout x).modRobot k _).sendFloor _ _ _).modRobot k _

theorem State.Calm.grantAlong (h : s.Calm t) (k : RobotId) (l : List AisleId) : s.Calm (t.grantAlong k l).2 := by
  induction l generalizing t with
  | nil => exact h
  | cons a rest ih =>
    rw [State.grantAlong]
    split
    · have granted := h.aouReady.robotGrant k a
      split <;> rename_i e <;> rw [e] at granted
      · exact granted
      · exact ih granted
    · exact ih h.aouReady

theorem State.Calm.startMove (h : s.Calm t) (k : RobotId) (a : AisleId) : s.Calm (t.startMove k a) := h.modRobot k _

theorem State.Calm.aisleChoice (h : s.Calm t) (k : RobotId) : s.Calm (t.aisleChoice k) := by
  unfold State.aisleChoice
  dsimp only
  have granted := h.grantAlong k
    (cycleAfter (t.patrol (t.robotZone k)) (if (t.robot k).state = .idle then (t.robot k).aisle else none))
  split <;> rename_i e <;> rw [e] at granted
  · exact (granted.sendFloor _ _ _).startMove k _
  · exact granted

theorem State.Calm.inAisle (h : s.Calm t) (k : RobotId) (a : AisleId) (fuel : Nat) (refused : List Candidate) :
    s.Calm (t.inAisle k a fuel refused) := by
  induction fuel generalizing t refused with
  | zero => exact h.aisleChoice k
  | succ fuel ih =>
    rw [State.inAisle]
    split
    · exact h.aisleChoice k
    · rename_i dir c _
      have asked := (h.modRobot k fun r => { r with sweep := dir }).assignRequest c.frame c.side c.index
      dsimp only
      split <;> rename_i e <;> rw [e] at asked
      · exact asked.assign k c
      · exact ih asked _

theorem State.Calm.turn (h : s.Calm t) (k : RobotId) : s.Calm (t.turn k) := by
  unfold State.turn
  dsimp only
  split
  · exact h.inAisle k _ _ _
  · exact h.aisleChoice k
  · exact h.aisleChoice k
  · exact h

theorem State.Calm.reevaluate (h : s.Calm t) (z : ZoneId) : s.Calm (t.reevaluate z) := by
  refine h.foldl (fun v k j => ?_) _
  split
  · exact j.turn k
  · exact j

theorem State.Calm.reevaluateZones (h : s.Calm t) (zs : List ZoneId) : s.Calm (t.reevaluateZones zs) := by
  refine h.foldl (fun v z j => ?_) _
  split
  · exact j.reevaluate z
  · exact j

theorem State.Calm.reevaluateAisles (h : s.Calm t) (as : List AisleId) : s.Calm (t.reevaluateAisles as) :=
  h.reevaluateZones _

theorem State.Calm.giveUpAisle (h : s.Calm t) (k : RobotId) : s.Calm (t.giveUpAisle k) := by
  unfold State.giveUpAisle
  split
  · exact (h.modRobot k _).emit _
  · exact h

theorem State.Calm.withdraw (h : s.Calm t) (k : RobotId) : s.Calm (t.withdraw k) := by
  unfold State.withdraw
  split
  · split
    · exact h
    · exact h.emit _
  · exact h

theorem State.Calm.leave (h : s.Calm t) (k : RobotId) (a : AisleId) : s.Calm (t.leave k a) := by
  unfold State.leave
  exact (h.aouReady.sendFloor _ _ _).modRobot k _

theorem State.Calm.recall (h : s.Calm t) (k : RobotId) (a : AisleId) : s.Calm (t.recall k a) := by
  unfold State.recall
  split
  · exact (((h.withdraw k).sendFloor _ _ _).modRobot k _).leave k a
  · exact h.leave k a
  · exact h.leave k a
  all_goals exact h

theorem State.Calm.pcdTakeRecall (h : s.Calm t) (c : Instr) : s.Calm (pcdTakeRecall t c) := by
  unfold Machine.pcdTakeRecall
  split
  · exact h.recall _ _
  · exact h

theorem State.Calm.takeRecalls (h : s.Calm t) : s.Calm t.takeRecalls := h.takeMatching fun _ c k => k.pcdTakeRecall c

theorem State.Calm.abandonFrame (h : s.Calm t) (f : FrameId) : s.Calm (t.abandonFrame f) :=
  (h.foldl (fun _ k j => (j.sendFloor _ _ _).modRobot k _) (t.robotsOn f)).filterVerify _

theorem State.Calm.cancelFrames (h : s.Calm t) (fs : List FrameId) : s.Calm (t.cancelFrames fs) :=
  (h.foldl (fun _ f k => k.abandonFrame f) fs).reevaluateZones _

theorem State.Calm.takeCancels (h : s.Calm t) (fs : List FrameId) (also : FrameId → Bool) : s.Calm (t.takeCancels fs also) :=
  (h.fly _).cancelFrames _

theorem State.Calm.pcdReady (h : s.Calm t) : s.Calm t.pcdReady := h.takeRecalls.takeCancels _ _

theorem State.Calm.pcdReadyFor (h : s.Calm t) (f : FrameId) : s.Calm (t.pcdReadyFor f) := h.takeRecalls.takeCancels _ _

theorem State.Calm.takeCancel (h : s.Calm t) (f : FrameId) : s.Calm (t.takeCancel f) := h.takeRecalls.takeCancels _ _

theorem State.Calm.pcdReadyRobot (h : s.Calm t) (k : RobotId) : s.Calm (t.pcdReadyRobot k) := by
  unfold State.pcdReadyRobot
  split
  · exact h.pcdReadyFor _
  · exact h.pcdReady

theorem State.Calm.readyForNotice (h : s.Calm t) (c : Instr) : s.Calm (State.readyForNotice c t) := by
  unfold State.readyForNotice
  split
  case h_5 | h_6 => exact h.pcdReady
  case h_7 => exact h
  all_goals exact h.pcdReadyFor _

theorem State.Calm.pcdTake (h : s.Calm t) (c : Instr) : s.Calm (pcdTake t c) := by
  unfold Machine.pcdTake
  split
  · exact h.reevaluateAisles _
  · exact h.takeSatisfied _ _ _
  · exact h.filterVerify _
  · exact h.takeCancel _
  · exact (h.setEnabling _ _).reevaluateAisles _
  · exact h.reevaluateAisles _
  · exact h.reevaluateAisles _
  · exact h

theorem State.Calm.takeNotice (h : s.Calm t) (flying : Bool) (c : Instr) : s.Calm (t.takeNotice flying c) := by
  unfold State.takeNotice
  dsimp only
  split
  · exact h
  · split
    · exact h.readyForNotice c
    · exact ((h.readyForNotice c).drop c).pcdTake c

theorem State.Calm.takeNotices (h : s.Calm t) (lane : Instr → Bool) (c : Instr) : s.Calm (t.takeNotices lane c) :=
  h.whenOn fun v k => k.foldl (op := fun w c' => w.takeNotice (v.inFlight.contains c) c') (fun _ _ j => j.takeNotice _ _) _

theorem State.Calm.enableApplied (h : s.Calm t) (f : FrameId) : s.Calm (t.enableApplied f) :=
  h.foldl (fun _ _ k => k.takeNotices _ _) _

theorem State.Calm.pcdReadyForReport (h : s.Calm t) (f : FrameId) : s.Calm (t.pcdReadyForReport f) :=
  (h.enableApplied f).pcdReadyFor f

theorem State.Calm.robotIsReady (h : s.Calm t) (k : RobotId) (a : AisleId) (p : Nat) : s.Calm (t.robotIsReady k a p) := by
  unfold State.robotIsReady
  dsimp only
  have placed := h.modRobot k fun r => { r with position := p, sweep := .up }
  generalize t.modRobot k _ = v at placed ⊢
  have granted : s.Calm (if (v.patrol (v.robotZone k)).contains a = true then v.robotGrant k a else (false, v)).2 := by
    split
    · exact placed.robotGrant k a
    · exact placed
  split <;> rename_i e <;> rw [e] at granted
  · exact (granted.modRobot k _).reevaluate _
  · have sent := granted.grantAlong k (cycleAfter (v.patrol (v.robotZone k)) (some a))
    split <;> rename_i e' <;> rw [e'] at sent
    · exact (sent.sendFloor _ _ _).startMove k _
    · exact ((sent.sendFloor _ _ _).modRobot k _).reevaluate _

theorem State.Calm.takeRobotReady (h : s.Calm t) (k : RobotId) (a : AisleId) (p : Nat) : s.Calm (t.takeRobotReady k a p) := by
  unfold State.takeRobotReady
  dsimp only
  split
  · exact (h.pcdReadyRobot k).robotIsReady k a p
  · exact (h.pcdReadyRobot k).robotIsReady k a p
  all_goals exact ((((h.pcdReadyRobot k).withdraw k).modRobot k _).giveUpAisle k).robotIsReady k a p

theorem State.Calm.takeRobotPos (h : s.Calm t) (k : RobotId) (a : AisleId) (p : Nat) : s.Calm (t.takeRobotPos k a p) := by
  unfold State.takeRobotPos
  dsimp only
  split
  · split
    · exact ((h.pcdReadyRobot k).modRobot k _).reevaluate _
    · exact (h.pcdReadyRobot k).modRobot k _
    · exact (h.pcdReadyRobot k).modRobot k _
    all_goals exact (h.pcdReadyRobot k).countStale
  · exact (h.pcdReadyRobot k).countStale

/-- An entry placed in a list makes it longer by one. -/
theorem length_insertVerify (e : VerifyEntry) (l : List VerifyEntry) : (insertVerify e l).length = l.length + 1 := by
  have parts := congrArg List.length (List.takeWhile_append_dropWhile (p := fun x => decide (x.deadline ≤ e.deadline)) (l := l))
  rw [List.length_append] at parts
  simp only [insertVerify, List.length_append, List.length_cons]
  omega

theorem State.Calm.placeVerify (h : s.Calm t) (f : FrameId) (side : Side) (i deadline : Nat) :
    s.Calm (t.placeVerify f side i deadline).2 := by
  unfold State.placeVerify
  split
  · refine h.setVerify _ fun _ => ?_
    rw [length_insertVerify]
    have := List.length_filter_le (fun e : VerifyEntry => !e.names f side i) t.pcd.verify
    omega
  · exact h.latch _

theorem State.Calm.takePieced (h : s.Calm t) (k : RobotId) (f : FrameId) (side : Side) (i : Nat) :
    s.Calm (t.takePieced k f side i) := by
  unfold State.takePieced
  dsimp only
  split
  · exact (h.pcdReadyForReport f).countStale
  · have ended : s.Calm ((t.pcdReadyForReport f).endAssignment k f side i) := (h.pcdReadyForReport f).modRobot k _
    split
    · exact (ended.emit _).reevaluate _
    · exact (((ended.placeVerify _ _ _ _).emit _).emit _).reevaluate _

theorem State.Calm.failPiecing (h : s.Calm t) (f : FrameId) (side : Side) (i : Nat) : s.Calm (t.failPiecing f side i) :=
  ((h.emit _).emit _).takeMatching fun _ c k => k.smuTake c

theorem State.Calm.takeNotPieced (h : s.Calm t) (k : RobotId) (f : FrameId) (side : Side) (i : Nat) :
    s.Calm (t.takeNotPieced k f side i) := by
  unfold State.takeNotPieced
  dsimp only
  split
  · exact (h.pcdReadyForReport f).countStale
  · have ended : s.Calm ((t.pcdReadyForReport f).endAssignment k f side i) := (h.pcdReadyForReport f).modRobot k _
    split
    · exact ended.countStale.reevaluate _
    · exact (ended.failPiecing _ _ _).reevaluate _

theorem State.Calm.takeRobotLeft (h : s.Calm t) (k : RobotId) : s.Calm (t.takeRobotLeft k) := by
  unfold State.takeRobotLeft
  dsimp only
  split
  · have left := (h.pcdReady.modRobot k fun r => { r with deadline := none, leaveTarget := none }).giveUpAisle k
    generalize (t.pcdReady.modRobot k _).giveUpAisle k = v at left ⊢
    generalize (t.pcdReady.robot k).leaveTarget = target
    have sentOn : ∀ w : State, s.Calm w → s.Calm
        (match w.grantAlong k (w.patrol (w.robotZone k)) with
          | (some b, w) => (sendMove k b w).startMove k b
          | (none, w) => ((sendLeave k none w).modRobot k fun r => { r with state := .parked }).reevaluate (w.robotZone k)) :=
      fun w j => by
        have sent := j.grantAlong k (w.patrol (w.robotZone k))
        split <;> rename_i e <;> rw [e] at sent
        · exact (sent.sendFloor _ _ _).startMove k _
        · exact ((sent.sendFloor _ _ _).modRobot k _).reevaluate _
    cases target with
    | none => exact sentOn v left
    | some b =>
      have granted := left.robotGrant k b
      dsimp only
      generalize v.robotGrant k b = p at granted ⊢
      obtain ⟨yes, w⟩ := p
      cases yes
      · exact sentOn w granted
      · exact granted.startMove k b
  · exact h.pcdReady.countStale

theorem State.Calm.deadlinePasses {app : State → State} (h : s.Calm t) (k : RobotId) (st : RobotState)
    (hk : ∀ u, s.Calm u → s.Calm (app u)) : s.Calm (t.deadlinePasses k st app) := by
  refine h.whenOn fun v j => ?_
  split
  · exact j
  · split
    · have ready := (j.modRobot k fun r => { r with deadline := none }).pcdReadyRobot k
      dsimp only
      split
      · exact hk _ (ready.reach _)
      · exact ready
    · exact j

theorem State.Calm.unresponsive (h : s.Calm t) (k : RobotId) (record : FaultRecord) (detail : Nat) :
    s.Calm (t.unresponsive k record detail) := ((h.modRobot k _).giveUpAisle k).alarm _ _ _ _

theorem State.Calm.verifyPasses (h : s.Calm t) (e : VerifyEntry) : s.Calm (t.verifyPasses e) := by
  unfold State.verifyPasses
  split
  · refine ((h.reach _).setVerify _ fun b => ?_).emit _
    rw [List.length_tail]
    exact (Nat.sub_le _ _).trans b.2.1
  · exact h

theorem State.Calm.disableRobot (h : s.Calm t) (k : RobotId) : s.Calm (t.disableRobot k) := by
  have send : ∀ {v : State} (b : Bool) (node kind : Nat) (p : List Byte), s.Calm v →
      s.Calm (if b = true then v.sendFloor node kind p else v) := fun b _ _ _ j => by
    cases b
    · exact j
    · exact j.sendFloor _ _ _
  unfold State.disableRobot
  dsimp only
  split
  · exact h.pcdReadyRobot k
  · exact ((send _ _ _ _ (send _ _ _ _ ((h.pcdReadyRobot k).withdraw k))).giveUpAisle k).modRobot k _

/-! ### The Speed Program Unit -/

theorem State.Calm.setSpeed (h : s.Calm t) (f : FrameId) (r : SpeedRecord) : s.Calm (t.setSpeed f r) := h.elsewhere rfl

theorem State.Calm.recordFirstFault (h : s.Calm t) (f : FrameId) (c : Computation) : s.Calm (t.recordFirstFault f c) := by
  unfold State.recordFirstFault
  split
  · exact h.elsewhere rfl
  · exact h

theorem State.Calm.raiseArith (h : s.Calm t) (f : FrameId) (r : SpeedRecord) (c : Computation) :
    s.Calm (t.raiseArith f r c) := by
  unfold State.raiseArith
  split
  · exact (h.latch _).alarm _ _ _ _
  · exact h

theorem State.Calm.offerSpeed (h : s.Calm t) (f : FrameId) (always : Bool) (rpm : Nat) : s.Calm (t.offerSpeed f always rpm) := by
  unfold State.offerSpeed
  dsimp only
  split
  · exact (h.sendFloor _ _ _).setSpeed _ _
  · exact h

theorem State.Calm.computeSpeed (h : s.Calm t) (f : FrameId) (fill : Nat) (always : Bool) :
    s.Calm (t.computeSpeed f fill always) := (((h.setSpeed f _).recordFirstFault f _).raiseArith f _ _).offerSpeed f _ _

theorem State.Calm.takeSpuDoff (h : s.Calm t) (f : FrameId) (switched : Bool) : s.Calm (t.takeSpuDoff f switched) := by
  unfold State.takeSpuDoff
  dsimp only
  split
  · split
    · exact ((h.setSpeed f _).computeSpeed f _ _).sendFloor _ _ _
    · exact (h.computeSpeed f _ _).sendFloor _ _ _
  · exact h

theorem State.Calm.takeResumeSpeed (h : s.Calm t) (f : FrameId) (restart : Bool) : s.Calm (t.takeResumeSpeed f restart) := by
  unfold State.takeResumeSpeed
  dsimp only
  split
  · split
    · exact (h.computeSpeed f _ _).sendFloor _ _ _
    · exact h.computeSpeed f _ _
  · exact h

theorem State.Calm.spuTakeFirst (h : s.Calm t) (c : Instr) : s.Calm (spuTakeFirst t c) := by
  unfold Machine.spuTakeFirst
  split
  · exact h.takeSpuDoff _ _
  · exact h.takeResumeSpeed _ _
  · exact h

theorem State.Calm.spuReady (h : s.Calm t) (f : FrameId) : s.Calm (t.spuReady f) :=
  (h.dauReady f).takeMatching fun _ c k => k.spuTakeFirst c

theorem State.Calm.takeSpeedDelivery (h : s.Calm t) (f : FrameId) (dL : Nat) (fill : Option Nat) :
    s.Calm (t.takeSpeedDelivery f dL fill) := by
  unfold State.takeSpeedDelivery
  dsimp only
  split
  · generalize (if (t.spuReady f).frameState f = .running then
      ((t.spuReady f).speed f).advance ((t.spuReady f).article f) dL else (t.spuReady f).speed f) = r
    have advanced := (h.spuReady f).setSpeed f r
    split
    · exact advanced.computeSpeed f _ _
    · split
      · exact advanced.computeSpeed f _ _
      · exact advanced
  · exact h

theorem State.Calm.spuTake (h : s.Calm t) (c : Instr) : s.Calm (spuTake t c) := by
  unfold Machine.spuTake
  split
  · exact h.takeSpeedDelivery _ _ _
  · exact h

theorem State.Calm.takeMonitoredBreak (h : s.Calm t) (f : FrameId) : s.Calm (t.takeMonitoredBreak f) := by
  unfold State.takeMonitoredBreak
  split
  · exact (h.spuReady f).setSpeed f _
  · exact h

end Sys2Proof.Machine
end

section
/-! The Doff Cycle, Roving Supply and Supply Supervision Units and the reads of the Table Store keep the bounds, the tables, the
flags and the closed records; the doff completion may write its frame's entry (R130). -/

namespace Sys2Proof.Machine

variable {s t u : State}

/-! ### The Doff Cycle Unit -/

theorem State.Calm.modCycle (h : s.Calm t) (f : FrameId) (upd : FrameCycle → FrameCycle) : s.Calm (t.modCycle f upd) :=
  h.elsewhere rfl

theorem State.Calm.modDoffer (h : s.Calm t) (d : DofferId) (upd : Doffer → Doffer) : s.Calm (t.modDoffer d upd) :=
  h.elsewhere rfl

theorem State.Calm.setQueue (h : s.Calm t) (q : List FrameId) : s.Calm (t.setQueue q) := h.elsewhere rfl

theorem State.Calm.noticeCancel (h : s.Calm t) (f : FrameId) : s.Calm (t.noticeCancel f) := (h.emit _).emit _

theorem State.Calm.enterFrameState (h : s.Calm t) (f : FrameId) (st : FrameState) : s.Calm (t.enterFrameState f st) := by
  unfold State.enterFrameState
  dsimp only
  split
  · exact (h.modCycle f _).noticeCancel f
  · split
    · exact (h.modCycle f _).emit _
    · exact h.modCycle f _

theorem State.Calm.dcuReady (h : s.Calm t) (f : FrameId) : s.Calm (t.dcuReady f) := h.spuReady f

theorem State.Calm.makeIdle (h : s.Calm t) (d : DofferId) : s.Calm (t.makeIdle d) := h.modDoffer d _

theorem State.Calm.pick (h : s.Calm t) (d : DofferId) : s.Calm (t.pick d) := by
  unfold State.pick
  dsimp only
  split
  · exact h
  · exact (((h.setQueue _).modDoffer d _).modCycle _ _).emit _

theorem State.Calm.offerFrame (h : s.Calm t) (f : FrameId) : s.Calm (t.offerFrame f) := by
  unfold State.offerFrame
  split
  · exact h.pick _
  · exact h

theorem State.Calm.leaveQueue (h : s.Calm t) (f : FrameId) : s.Calm (t.leaveQueue f) := h.setQueue _

theorem State.Calm.cancelClaim (h : s.Calm t) (f : FrameId) : s.Calm (t.cancelClaim f) := by
  unfold State.cancelClaim
  split
  · exact h
  · split
    · exact ((((h.sendFloor _ _ _).modCycle f _).makeIdle _).emit _).pick _
    · exact h.modCycle f _

theorem State.Calm.trigger (h : s.Calm t) (f : FrameId) : s.Calm (t.trigger f) := by
  unfold State.trigger
  exact ((((h.enterFrameState f _).sendFloor _ _ _).modCycle f _).setQueue _).offerFrame f

theorem State.Calm.startUp (h : s.Calm t) (f : FrameId) (dL : Nat) : s.Calm (t.startUp f dL) := by
  unfold State.startUp
  dsimp only
  split
  · split
    · exact (h.modCycle f _).enterFrameState f _
    · exact h.modCycle f _
  · exact h

theorem State.Calm.takeDcuDelivery (h : s.Calm t) (f : FrameId) (dL : Nat) (target : Bool) :
    s.Calm (t.takeDcuDelivery f dL target) := by
  unfold State.takeDcuDelivery
  dsimp only
  split
  · split
    · exact ((h.dcuReady f).trigger f).startUp f dL
    · exact (h.dcuReady f).startUp f dL
  · exact h

theorem State.Calm.dcuTake (h : s.Calm t) (c : Instr) : s.Calm (dcuTake t c) := by
  unfold Machine.dcuTake
  split
  · exact h.takeDcuDelivery _ _ _
  · exact h

theorem State.Calm.alarmHeld (h : s.Calm t) (f : FrameId) (cause : HoldCause) : s.Calm (t.alarmHeld f cause) := by
  cases cause
  case stopTimeout | doffTimeout => exact h.alarm _ _ _ _
  case mill | reset => exact h

theorem State.Calm.enterHeld (h : s.Calm t) (f : FrameId) (cause : HoldCause) : s.Calm (t.enterHeld f cause) :=
  (((((h.modCycle f _).leaveQueue f).cancelClaim f).enterFrameState f _).sendFloor _ _ _).alarmHeld f cause

theorem State.Calm.startDoff (h : s.Calm t) (d : DofferId) (f : FrameId) : s.Calm (t.startDoff d f) := by
  unfold State.startDoff
  exact ((h.sendFloor _ _ _).enterFrameState f _).modDoffer d _

theorem State.Calm.takeStopped (h : s.Calm t) (f : FrameId) : s.Calm (t.takeStopped f) := by
  have waits := ((h.dcuReady f).modCycle f fun r => { r with stopTimer := none }).enterFrameState f .doffWait
  unfold State.takeStopped
  dsimp only
  split
  · split
    · split
      · exact waits.startDoff _ f
      · exact waits
    · exact waits
  · exact (h.dcuReady f).countStoppedFrame

theorem State.Calm.takeHeldNotice (h : s.Calm t) (d : DofferId) (f : FrameId) : s.Calm (t.takeHeldNotice d f) := by
  have holds := (h.dcuReady f).modDoffer d fun r => { r with held := true }
  unfold State.takeHeldNotice
  dsimp only
  split
  · split
    · exact holds.startDoff d f
    · exact holds
  · exact h.dcuReady f

theorem State.Calm.makeFaulted (h : s.Calm t) (d : DofferId) : s.Calm (t.makeFaulted d) := by
  unfold State.makeFaulted
  dsimp only
  split
  · exact (h.modDoffer d _).emit _
  · exact h.modDoffer d _

theorem State.Calm.returnToQueue (h : s.Calm t) (f : FrameId) : s.Calm (t.returnToQueue f) :=
  ((h.modCycle f _).setQueue _).offerFrame f

theorem State.Calm.takeDofferFault (h : s.Calm t) (d : DofferId) : s.Calm (t.takeDofferFault d) := by
  unfold State.takeDofferFault
  dsimp only
  split
  · exact (h.makeFaulted d).alarm _ _ _ _
  · exact (((h.dcuReady _).makeFaulted d).returnToQueue _).alarm _ _ _ _
  · exact (((h.dcuReady _).makeFaulted d).alarm _ _ _ _).enterHeld _ _
  · exact h.countStale

theorem State.Calm.takeHold (h : s.Calm t) (f : FrameId) : s.Calm (t.takeHold f).2 := by
  unfold State.takeHold
  dsimp only
  have held := (h.dcuReady f).enterHeld f .mill
  split <;> dsimp only
  case h_5 | h_6 | h_7 => exact h.dcuReady f
  all_goals exact held

theorem State.Calm.takeResume (h : s.Calm t) (f : FrameId) : s.Calm (t.takeResume f).2 := by
  have resumed := (h.dcuReady f).modCycle f fun r => { r with cause := none }
  unfold State.takeResume
  dsimp only
  split
  · split
    · exact (resumed.trigger f).emit _
    · exact ((resumed.modCycle f _).enterFrameState f _).emit _
  · exact h.dcuReady f

theorem State.Calm.takeDoffNow (h : s.Calm t) (f : FrameId) : s.Calm (t.takeDoffNow f).2 := by
  unfold State.takeDoffNow
  dsimp only
  split <;> dsimp only
  · exact (h.dcuReady f).trigger f
  · exact h.dcuReady f

theorem State.Calm.enableCycle (h : s.Calm t) (f : FrameId) : s.Calm (t.enableCycle f) :=
  (h.modCycle f fun r => { r with cause := none, claim := none, stopTimer := none, startUp := 0 }).enterFrameState f _

theorem State.Calm.disableCycle (h : s.Calm t) (f : FrameId) : s.Calm (t.disableCycle f) :=
  ((h.leaveQueue f).cancelClaim f).modCycle f fun _ =>
    { state := .offline, cause := none, claim := none, stopTimer := none, startUp := 0 }

theorem State.Calm.disableDoffer (h : s.Calm t) (d : DofferId) : s.Calm (t.disableDoffer d) := by
  unfold State.disableDoffer
  dsimp only
  split
  · exact ((((h.dcuReady _).sendFloor _ _ _).modDoffer d _).emit _).returnToQueue _
  · exact h.modDoffer d _

theorem State.Calm.writeReach (h : s.Calm t) (d : DofferId) (reach : BitVec 48) : s.Calm (t.writeReach d reach) := by
  unfold State.writeReach
  split
  · exact (h.modDoffer d _).pick d
  all_goals exact h.modDoffer d _

/-! ### The Roving Supply Unit -/

theorem State.Calm.modGroup (h : s.Calm t) (f : FrameId) (g : GroupId) (upd : Group → Group) : s.Calm (t.modGroup f g upd) := by
  unfold State.modGroup
  split
  · exact h.elsewhere rfl
  · exact h

theorem State.Calm.modCarrier (h : s.Calm t) (c : CarrierId) (upd : Carrier → Carrier) : s.Calm (t.modCarrier c upd) :=
  h.elsewhere rfl

theorem State.Calm.setGroups (h : s.Calm t) (groups : Tab 48 (Tab 32 (Option Group))) :
    s.Calm { t with rsu := { t.rsu with groups } } := h.elsewhere rfl

@[simp] theorem State.modGroup_set (f : FrameId) (g : GroupId) (upd : Group → Group) :
    (t.modGroup f g upd).rsu.set = t.rsu.set := by
  unfold State.modGroup
  split <;> rfl

@[simp] theorem State.modCarrier_set (c : CarrierId) (upd : Carrier → Carrier) : (t.modCarrier c upd).rsu.set = t.rsu.set := rfl

/-- A group joins a set that has room (R156). -/
theorem State.Calm.enqueue (h : s.Calm t) (f : FrameId) (g : GroupId) (room : s.listsBounded → t.rsu.set.length < 64) :
    s.Calm (t.enqueue f g) := by
  refine ((h.modGroup f g _).setSet _ fun b => ?_).elsewhere rfl
  have := room b
  simp
  omega

/-- The least element is one of the list. -/
theorem firstLeast_mem {α : Type} {key : α → Nat} {l : List α} {a : α} (h : firstLeast key l = some a) : a ∈ l := by
  induction l generalizing a with
  | nil => simp [firstLeast] at h
  | cons b rest ih =>
    unfold firstLeast at h
    split at h
    · simp_all
    · rename_i c e
      split at h
      · obtain rfl := Option.some.inj h
        exact List.mem_cons_of_mem _ (ih e)
      · obtain rfl := Option.some.inj h
        exact List.mem_cons_self

theorem State.Calm.dispatch (h : s.Calm t) (fuel : Nat) (c : CarrierId) : s.Calm (t.dispatch fuel c) := by
  induction fuel generalizing t c with
  | zero => exact h
  | succ fuel ih =>
    rw [State.dispatch]
    split
    · exact h
    · rename_i e chosen
      dsimp only
      have shorter : s.listsBounded → (t.rsu.set.erase e).length < 64 := fun b => by
        have mem := firstLeast_mem chosen
        have bound : t.rsu.set.length ≤ 64 := (h.bounds.lists b).2.2
        have pos := List.length_pos_of_mem mem
        rw [List.length_erase_of_mem mem]
        omega
      have called := fun upd upd' => ((h.setSet (t.rsu.set.erase e) fun b => (shorter b).le).modGroup e.frame e.group upd).modCarrier
        c upd'
      split
      · exact (called _ _).sendFloor _ _ _
      · have joined := fun upd upd' f g => (called upd upd').enqueue f g fun b => by simpa using shorter b
        split
        · exact (ih (joined _ _ _ _) _).sendFloor _ _ _
        · exact (joined _ _ _ _).sendFloor _ _ _

theorem State.Calm.dispatchIdle (h : s.Calm t) : s.Calm t.dispatchIdle := by
  unfold State.dispatchIdle
  split
  · exact h.dispatch _ _
  · exact h

theorem State.Calm.unqueue (h : s.Calm t) (f : FrameId) (g : GroupId) : s.Calm (t.unqueue f g) := (h.modGroup f g _).latch _

theorem State.Calm.judgeWith {full : State → State} (h : s.Calm t) (hk : ∀ u, s.Calm u → s.Calm (full u)) (f : FrameId)
    (g : GroupId) : s.Calm (t.judgeWith full f g) := by
  unfold State.judgeWith
  split
  · split
    · split
      · exact (h.enqueue f g fun _ => ‹_›).dispatchIdle
      · exact hk _ (h.unqueue f g)
    · exact h
  · exact h

theorem State.Calm.judge (h : s.Calm t) (f : FrameId) (g : GroupId) : s.Calm (t.judge f g) :=
  h.judgeWith (fun _ k => k.alarm _ _ _ _) f g

theorem State.Calm.judgeSilently (h : s.Calm t) (f : FrameId) (g : GroupId) : s.Calm (t.judgeSilently f g) :=
  h.judgeWith (fun _ k => k) f g

theorem State.Calm.fillPlace (h : s.Calm t) : s.Calm t.fillPlace := by
  unfold State.fillPlace
  split
  · split
    · exact (h.enqueue _ _ fun _ => ‹_›).dispatchIdle
    · exact h
  · exact h

theorem State.Calm.fillPlaces (h : s.Calm t) (n : Nat) : s.Calm (t.fillPlaces n) := by
  induction n generalizing t with
  | zero => exact h
  | succ n ih => exact ih h.fillPlace

theorem State.Calm.lowerGroup (h : s.Calm t) (f : FrameId) (dR : Nat) (g : GroupId) : s.Calm (State.lowerGroup f dR t g) := by
  unfold State.lowerGroup
  split
  · exact h
  · dsimp only
    split
    · exact ((h.setGroups _).emit _).alarm _ _ _ _
    · exact h.setGroups _

theorem State.Calm.takeRoving (h : s.Calm t) (f : FrameId) (dR : Nat) : s.Calm (t.takeRoving f dR) := by
  unfold State.takeRoving
  split
  · exact (h.foldl (fun _ g k => k.lowerGroup f dR g) _).foldl (fun _ g k => k.judge f g) _
  · exact h

theorem State.Calm.rsuTake (h : s.Calm t) (c : Instr) : s.Calm (rsuTake t c) := by
  unfold Machine.rsuTake
  split
  · exact h.takeRoving _ _
  · exact h

theorem State.Calm.startChange (h : s.Calm t) (c : CarrierId) (f : FrameId) (g : GroupId) : s.Calm (t.startChange c f g) := by
  unfold State.startChange
  exact ((h.sendFloor _ _ _).modCarrier c _).modGroup f g _

theorem State.Calm.takeLastAssigned (h : s.Calm t) (f : FrameId) (g : GroupId) : s.Calm (t.takeLastAssigned f g) := by
  unfold State.takeLastAssigned
  split
  · exact h.startChange _ f g
  · exact h

theorem State.Calm.rsuTakeNotice (h : s.Calm t) (c : Instr) : s.Calm (rsuTakeNotice t c) := by
  unfold Machine.rsuTakeNotice
  split
  · exact h.takeLastAssigned _ _
  · exact h

theorem State.Calm.takeArrived (h : s.Calm t) (c : CarrierId) (f : FrameId) (g : GroupId) : s.Calm (t.takeArrived c f g) := by
  have ready : s.Calm ((t.takeMatching (lastAssignedOf f g) fun h s => Machine.rsuTakeNotice s h).smuReady f) :=
    (h.takeMatching fun _ x k => k.rsuTakeNotice x).smuReady f
  unfold State.takeArrived
  dsimp only
  split
  · split
    · exact ready.modCarrier c _
    · exact ready.startChange c f g
  · exact h.countStale

theorem State.Calm.refill (h : s.Calm t) (f : FrameId) (g : GroupId) (length : Nat) : s.Calm (t.refill f g length) :=
  ((((h.modGroup f g _).unstarve f g).modGroup f g _).judge f g).emit _

theorem State.Calm.takeChangeDone (h : s.Calm t) (c : CarrierId) (f : FrameId) (g : GroupId) :
    s.Calm (t.takeChangeDone c f g) := by
  unfold State.takeChangeDone
  dsimp only
  split
  · exact (h.modCarrier c fun r => { r with state := .returning, trip := none, timer := none }).refill f g _
  · exact h.countStale

theorem State.Calm.leaveTrip (h : s.Calm t) (c : CarrierId) (st : CarrierState) (f : FrameId) (g : GroupId) :
    s.Calm (t.leaveTrip c st f g) := (h.modCarrier c _).modGroup f g _

theorem State.Calm.failTrip (h : s.Calm t) (c : CarrierId) (f : FrameId) (g : GroupId) : s.Calm (t.failTrip c f g) :=
  (h.leaveTrip c _ f g).judge f g

theorem State.Calm.takeCarrierFault (h : s.Calm t) (c : CarrierId) : s.Calm (t.takeCarrierFault c) := by
  unfold State.takeCarrierFault
  dsimp only
  split
  case h_1 | h_2 => exact (h.modCarrier c _).alarm _ _ _ _
  case h_6 => exact h.countStale
  all_goals exact (h.failTrip c _ _).alarm _ _ _ _

theorem State.Calm.tripExpires (h : s.Calm t) (c : CarrierId) (st : CarrierState) (detail : Nat) :
    s.Calm (t.tripExpires c st detail) := by
  refine h.whenOn fun v k => ?_
  dsimp only
  split
  · split
    · exact (((k.reach _).sendFloor _ _ _).failTrip c _ _).alarm _ _ _ _
    · exact k
  · exact k

theorem State.Calm.abortTrip (h : s.Calm t) (f : FrameId) (g : GroupId) : s.Calm (t.abortTrip f g) := by
  unfold State.abortTrip
  split
  · split
    · exact (h.sendFloor _ _ _).modCarrier _ _
    · exact h
  · exact h

theorem State.Calm.filterSet (h : s.Calm t) (p : SetEntry → Bool) : s.Calm (t.setSet (t.rsu.set.filter p)) :=
  h.setSet _ fun b => (List.length_filter_le _ _).trans (h.bounds.lists b).2.2

theorem State.Calm.takeGroupLoaded (h : s.Calm t) (f : FrameId) (g : GroupId) (length : Nat) :
    s.Calm (t.takeGroupLoaded f g length).2 := by
  unfold State.takeGroupLoaded
  split
  · exact h
  · exact ((h.filterSet _).fillPlace).refill f g length
  · exact (h.abortTrip f g).refill f g length
  · exact h.refill f g length

theorem State.Calm.enableGroups (h : s.Calm t) (f : FrameId) : s.Calm (t.enableGroups f) :=
  (h.setGroups _).foldl (fun _ g k => k.judge f g) _

theorem State.Calm.disableGroups (h : s.Calm t) (f : FrameId) : s.Calm (t.disableGroups f) := by
  have aborted := (h.filterSet fun e => e.frame != f).foldl (op := fun v g => v.abortTrip f g) (fun _ g k => k.abortTrip f g)
    (List.finRange 32)
  unfold State.disableGroups
  dsimp only
  generalize List.foldl _ _ _ = v at aborted ⊢
  exact (aborted.setGroups _).fillPlaces _

theorem State.Calm.disableCarrier (h : s.Calm t) (c : CarrierId) : s.Calm (t.disableCarrier c) := by
  unfold State.disableCarrier
  dsimp only
  split
  case h_4 => exact h.modCarrier c _
  all_goals exact ((h.sendFloor _ _ _).leaveTrip c _ _ _).judgeSilently _ _

/-! ### The Supply Supervision Unit -/

theorem State.Calm.setSupervision (h : s.Calm t) (r : Supervision) : s.Calm (t.setSupervision r) := h.elsewhere rfl

/-- A change of the retention domain whose images keep the bound of R50. -/
theorem State.Calm.setRetention (h : s.Calm t) (r : Retention)
    (hr : t.residuesBounded → ∀ f, (r.images.get f).massResidue < 1000000) : s.Calm { t with retention := r } :=
  h.trans ⟨⟨⟨id, id, id, id, fun b => ⟨b.1, b.2.1, b.2.2.1, hr b⟩, id⟩, fun _ => id, rfl, rfl, rfl, rfl⟩, rfl, rfl⟩

theorem State.Calm.setValid (h : s.Calm t) (v : Bool) : s.Calm (t.setValid v) := h.setRetention _ fun b => b.2.2.2

theorem State.Calm.warn (h : s.Calm t) : s.Calm t.warn := (h.latch _).alarm _ _ _ _

theorem State.Calm.takeFall (h : s.Calm t) : s.Calm t.takeFall := by
  unfold State.takeFall
  split
  · exact h.setSupervision _
  · exact (h.setSupervision _).warn
  · exact ((h.setSupervision _).warn.setValid _).setSupervision _

theorem State.Calm.takeRise (h : s.Calm t) : s.Calm t.takeRise := by
  unfold State.takeRise
  dsimp only
  split
  · exact ((h.setSupervision _).setValid _).alarm _ _ _ _
  · exact (h.setSupervision _).setValid _

theorem State.Calm.settleSupply (h : s.Calm t) : s.Calm t.settleSupply := by
  unfold State.settleSupply
  split
  · split
    · exact h.takeFall
    · exact h
  · split
    · exact h.takeRise
    · exact h

theorem State.Calm.supplyAt (h : s.Calm t) (mv : Nat) : s.Calm (t.supplyAt mv) :=
  State.Calm.whenOn (h.elsewhere rfl) fun _ k => k.settleSupply

/-- The image of a current record has its mass residue (Table 11-3). -/
theorem State.Calm.copyImage (h : s.Calm t) (f : FrameId) : s.Calm (t.copyImage f) := by
  refine h.setRetention _ fun b g => ?_
  dsimp only
  rw [Tab.get_set]
  split
  · exact b.2.2.1 f
  · exact b.2.2.2 g

theorem State.Calm.copyFrame (h : s.Calm t) : s.Calm t.copyFrame := by
  unfold State.copyFrame
  dsimp only
  split
  · exact (h.copyImage _).setSupervision _
  · exact ((h.copyImage _).setSupervision _).setValid _

/-! ### The reads and the passed requests of the Table Store -/

theorem State.Calm.replyDrawing (h : s.Calm t) (seq n : Nat) (data : List Byte → List Byte) :
    s.Calm (t.replyDrawing seq n data) := State.Calm.replyOk (t := t.drew n) (h.elsewhere rfl) _ _

theorem State.Calm.readTable (h : s.Calm t) (seq table index : Nat) : s.Calm (t.readTable seq table index) := by
  unfold State.readTable
  split
  · exact h.refuse _ _
  · split
    · exact h.replyOk _ _
    · exact h.refuse _ _

theorem State.Calm.readState (h : s.Calm t) (seq cls index : Nat) : s.Calm (t.readState seq cls index) := by
  unfold State.readState
  dsimp only
  split
  case h_7 => exact h.badValue _ _
  all_goals split
  case h_1.isTrue => exact ((h.spuReady _).smuReady _).replyOk _ _
  case h_2.isTrue => exact (h.pcdReadyRobot _).replyDrawing _ _ _
  case h_5.isTrue => exact h.replyDrawing _ _ _
  case h_3.isTrue | h_4.isTrue | h_6.isTrue => exact h.replyOk _ _
  all_goals exact h.refuse _ _

theorem State.Calm.readMap (h : s.Calm t) (seq frame side first count : Nat) : s.Calm (t.readMap seq frame side first count) := by
  unfold State.readMap
  generalize (if side < 0x80 then 64 else 19) = most
  dsimp only
  split
  · exact h.refuse _ _
  split
  · exact h.badValue _ _
  split
  · exact h.badValue _ _
  split
  · exact h.refuse _ _
  · exact (h.smuReady _).replyOk _ _

theorem State.Calm.readList (h : s.Calm t) (seq list first count : Nat) : s.Calm (t.readList seq list first count) := by
  unfold State.readList
  split
  · exact h.badValue _ _
  split
  · exact h.badValue _ _
  · exact h.replyDrawing _ _ _

theorem State.Calm.answer {p : Result × State} (h : s.Calm p.2) (seq : Nat) : s.Calm (State.answer seq p) := h.offerUp _

theorem State.Calm.releaseSpindle (h : s.Calm t) (seq frame side index : Nat) :
    s.Calm (t.releaseSpindle seq frame side index) := by
  unfold State.releaseSpindle
  split
  · exact h.refuse _ _
  split
  · exact h.refuse _ _
  split
  · exact h.badValue _ _
  split
  · exact h.refuse _ _
  · exact (h.release _ _ _).answer _

theorem State.Calm.clearCounters (h : s.Calm t) : s.Calm t.clearCounters :=
  h.trans ⟨⟨⟨id, fun _ _ => by simp [State.counter, State.clearCounters], id, id, id, id⟩, fun _ => id, rfl, rfl, rfl, rfl⟩, rfl, rfl⟩

theorem State.Calm.readCounts (h : s.Calm t) (seq frame record clear : Nat) :
    s.Calm (t.readCounts seq frame record clear) := by
  unfold State.readCounts
  generalize (if frame = 0xFF then t.lineCounts record else t.frameCounts (frameAt frame) record) = data
  dsimp only
  split
  · exact h.refuse _ _
  split
  · exact h.badValue _ _
  split
  · exact h.badValue _ _
  split
  · exact h.clearCounters.replyOk _ _
  · exact h.replyOk _ _

theorem State.Calm.frameCmd {k : FrameId → State → State} (h : s.Calm t) (seq frame command : Nat)
    (hk : ∀ f u, s.Calm u → s.Calm (k f u)) : s.Calm (t.frameCmd seq frame command k) := by
  unfold State.frameCmd
  split
  · exact h.refuse _ _
  split
  · exact h.badValue _ _
  split
  · exact h.refuse _ _
  · exact hk _ _ h

/-! ### The doff completion -/

/-- What a DOFF-DONE keeps: its switch writes the entry of its frame (R130). -/
structure State.KeptButFrames (s t : State) : Prop extends State.Kept s t where
  tables : t.tables = s.tables

theorem State.Calm.butFrames (h : s.Calm t) : s.KeptButFrames t := ⟨h.toKept, h.tables⟩

theorem State.KeptButFrames.calm (h : s.KeptButFrames t) (h' : t.Calm u) : s.KeptButFrames u :=
  ⟨h.toKept.trans h'.toKept, h'.tables.trans h.tables⟩

/-- The bounds of R50 after an entry is written whose frame the DAU works as before (R50, R130). -/
theorem State.residuesBounded.setEntry (h : t.residuesBounded) {f : FrameId} {e : FrameEntry}
    (he : e.enabled ≤ 1 ∧ e.article < 16 ∧ (e.nextArticle = 0xFF ∨ e.nextArticle < 16))
    (hr : e.enabled = 1 → (t.deliveryRecord f).rovingResidue
      < ((t.deliveryRecord f).former.getD (t.store.articles.get (Fin.ofNat 16 e.article))).draft) :
    (t.setEntry f e).residuesBounded := by
  obtain ⟨length, ⟨drafts, formers, entries, roving⟩, rest⟩ := h
  refine ⟨length, ⟨drafts, formers, fun g => ?_, fun g on => ?_⟩, rest⟩
  · by_cases same : f = g
    · subst same
      rw [State.entry_setEntry]
      exact he
    · rw [State.entry_setEntry_ne t same]
      exact entries g
  · by_cases same : f = g
    · subst same
      simp only [State.enabled, State.entry_setEntry, beq_iff_eq] at on
      simpa [State.dauArticle, State.article, State.articleId, State.entry_setEntry, State.deliveryRecord] using hr on
    · simp only [State.enabled, State.entry_setEntry_ne t same] at on
      simpa [State.dauArticle, State.article, State.articleId, State.entry_setEntry_ne t same, State.deliveryRecord]
        using roving g on

theorem State.residuesBounded.entries (h : t.residuesBounded) (f : FrameId) :
    (t.entry f).enabled ≤ 1 ∧ (t.entry f).article < 16 ∧ ((t.entry f).nextArticle = 0xFF ∨ (t.entry f).nextArticle < 16) :=
  h.2.1.2.2.1 f

/-- The article switch with the former article kept for the DAU: the divisor of its residue stays (R51, R130). -/
theorem State.residuesBounded.switch (h : t.residuesBounded) (f : FrameId) (next : (t.entry f).nextArticle ≠ 0xFF) :
    ((t.setEntry f { t.entry f with article := (t.entry f).nextArticle, nextArticle := 0xFF }).keepFormer f
      (t.dauArticle f)).residuesBounded := by
  obtain ⟨length, former, roving⟩ := h.delivery f
  have kept : (t.setDelivery f { t.deliveryRecord f with former := some (t.dauArticle f) }).residuesBounded :=
    h.setDelivery ⟨length, fun a e => Option.some.inj e ▸ h.dauArticle_pos f, roving⟩
  refine kept.setEntry (f := f) ⟨(h.entries f).1, ((h.entries f).2.2).resolve_left next, .inl rfl⟩ fun on => ?_
  rw [State.deliveryRecord_setDelivery]
  exact roving (by simpa [State.enabled] using on)

theorem State.KeptButFrames.completeFrame (h : s.KeptButFrames t) (f : FrameId) : s.KeptButFrames (t.completeFrame f) := by
  have rest : ∀ (v : State) (switched : Bool), s.KeptButFrames v →
      s.KeptButFrames (((((v.emit (.dauDoffCompletion f switched)).emit (.spindleDoffCompletion f)).modCycle f
        fun r => { r with startUp := (v.article f).startUp, claim := none }).enterFrameState f
          (if 0 < (v.article f).startUp then .starting else .running))) := fun v switched k =>
    k.calm (((((State.Calm.refl (s := v)).emit _).emit _).modCycle f _).enterFrameState f _)
  unfold State.completeFrame State.switchArticle
  dsimp only
  by_cases next : (t.entry f).nextArticle = 0xFF
  · simp only [next, if_true]
    exact rest t false h
  · simp only [next, if_false]
    refine rest ((t.setEntry f { t.entry f with article := (t.entry f).nextArticle, nextArticle := 0xFF }).keepFormer f
      (t.dauArticle f)) true ⟨h.toKept.trans ⟨⟨id, id, id, id, fun b => b.switch f next, id⟩, fun _ => id, rfl, rfl, rfl, rfl⟩, h.tables⟩

theorem State.Calm.takeDoffDone (h : s.Calm t) (d : DofferId) (f : FrameId) : s.KeptButFrames (t.takeDoffDone d f) := by
  unfold State.takeDoffDone
  dsimp only
  split
  · exact (((((h.dcuReady f).makeIdle d).emit _).emit _).butFrames.completeFrame f).calm (State.Calm.refl.pick d)
  · exact (h.dcuReady f).countStale.butFrames

end Sys2Proof.Machine
end

section
/-! What the writes of the Table Store do (R18), the commands that keep every table, flag and closed record, and the resets. -/

namespace Sys2Proof.Machine

variable {s t u : State}

/-! ### The masked write (R18) -/

theorem between_iff {lo v hi : Nat} : between lo v hi = true ↔ lo ≤ v ∧ v ≤ hi := by simp [between]

theorem firstFailing_eq_none {conds : List Bool} : firstFailing conds = none ↔ ∀ b ∈ conds, b = true := by
  simp [firstFailing, List.findIdx?_eq_none_iff]

/-- A masked write is refused, or goes on with the entry that results (R18 steps 3, 4 and 6). -/
theorem State.maskedWrite_cases (s : State) (seq : Nat) (widths old : List Nat) (mask : Nat) (values : List Byte)
    (rest : List Nat → State → State) :
    (∃ r n, s.maskedWrite seq widths old mask values rest = s.offerUp (replyTelegram seq r n []))
      ∨ s.maskedWrite seq widths old mask values rest = rest (overlay mask 0 widths old values) s := by
  unfold State.maskedWrite
  split
  · exact .inl ⟨_, _, rfl⟩
  · split
    · exact .inl ⟨_, _, rfl⟩
    · split
      · exact .inl ⟨_, _, rfl⟩
      · exact .inr rfl

/-- A write is refused, or passes every condition and is committed and answered OK (R18 steps 5 to 7). -/
theorem State.judgeWrite_cases (s : State) (seq : Nat) (inUse : Bool) (conds : List Bool) (badState : Bool)
    (commit : State → State) :
    (∃ r n, s.judgeWrite seq inUse conds badState commit = s.offerUp (replyTelegram seq r n []))
      ∨ (inUse = false ∧ (∀ b ∈ conds, b = true)
          ∧ s.judgeWrite seq inUse conds badState commit = (commit s).offerUp (replyTelegram seq .ok 0 [])) := by
  unfold State.judgeWrite
  split
  · exact .inl ⟨_, _, rfl⟩
  · split
    · exact .inl ⟨_, _, rfl⟩
    · rename_i unused _ passed
      split
      · exact .inl ⟨_, _, rfl⟩
      · exact .inr ⟨by simpa using unused, firstFailing_eq_none.1 passed, rfl⟩

/-- A field that the mask does not select stays (R18 step 6). -/
theorem overlay_getD {mask k j : Nat} {widths old : List Nat} (values : List Byte) (hl : widths.length = old.length)
    (h : mask.testBit (k + j) = false) : (overlay mask k widths old values).getD j 0 = old.getD j 0 := by
  induction widths generalizing k j old values with
  | nil =>
    obtain rfl := List.length_eq_zero_iff.1 hl.symm
    rfl
  | cons w ws ih =>
    cases old with
    | nil => simp at hl
    | cons o os =>
      have tail : ws.length = os.length := by simpa using hl
      cases j with
      | zero => simp [overlay, show mask.testBit k = false from h]
      | succ j =>
        have later : mask.testBit (k + 1 + j) = false := by rwa [Nat.add_right_comm, Nat.add_assoc]
        unfold overlay
        split <;> simpa using ih _ tail later

theorem State.Calm.answered (h : s.Calm t) {r : Result} {seq n : Nat} (e : u = t.offerUp (replyTelegram seq r n [])) :
    s.Calm u := e ▸ h.offerUp _

theorem State.Kept.calm (h : s.Kept t) (h' : t.Calm u) : s.Kept u := h.trans h'.toKept

/-- A write whose commit keeps what it must keeps it as a whole. -/
theorem State.kept_judgeWrite {seq : Nat} {inUse : Bool} {conds : List Bool} {badState : Bool} {commit : State → State}
    (h : inUse = false → (∀ b ∈ conds, b = true) → s.Kept (commit s)) :
    s.Kept (s.judgeWrite seq inUse conds badState commit) := by
  rcases s.judgeWrite_cases seq inUse conds badState commit with ⟨r, n, e⟩ | ⟨unused, passed, e⟩
  · exact (State.Calm.refl.answered e).toKept
  · rw [e]
    exact (h unused passed).calm (State.Calm.refl.offerUp _)

theorem State.kept_maskedWrite {seq : Nat} {widths old : List Nat} {mask : Nat} {values : List Byte}
    {rest : List Nat → State → State} (h : s.Kept (rest (overlay mask 0 widths old values) s)) :
    s.Kept (s.maskedWrite seq widths old mask values rest) := by
  rcases s.maskedWrite_cases seq widths old mask values rest with ⟨r, n, e⟩ | e
  · exact (State.Calm.refl.answered e).toKept
  · exact e ▸ h

/-! ### The Frame Table -/

theorem State.Kept.setEntry (h : s.Kept t) {f : FrameId} {e : FrameEntry}
    (he : e.enabled ≤ 1 ∧ e.article < 16 ∧ (e.nextArticle = 0xFF ∨ e.nextArticle < 16))
    (hr : t.residuesBounded → e.enabled = 1 → (t.deliveryRecord f).rovingResidue
      < ((t.deliveryRecord f).former.getD (t.store.articles.get (Fin.ofNat 16 e.article))).draft) :
    s.Kept (t.setEntry f e) :=
  h.trans ⟨⟨id, id, id, id, fun b => b.setEntry he (hr b), id⟩, fun _ => id, rfl, rfl, rfl, rfl⟩

theorem State.Calm.enableMap (h : s.Calm t) (f : FrameId) : s.Calm (t.enableMap f) :=
  h.setMap _ _ fun _ => FrameMap.enabled_counted _

theorem State.Calm.enableDelivery (h : s.Calm t) (f : FrameId) : s.Calm (t.enableDelivery f) :=
  (h.setDelivery f .initial fun b => ⟨by decide, nofun, fun _ => b.article_pos f⟩).setCount f _ fun _ => Nat.zero_lt_succ _

theorem State.Calm.enableSpeed (h : s.Calm t) (f : FrameId) : s.Calm (t.enableSpeed f) := (h.setSpeed f _).computeSpeed f _ _

theorem State.Calm.enableDispatch (h : s.Calm t) (f : FrameId) : s.Calm (t.enableDispatch f) := h.setEnabling f _

/-- The DCU's part of an enable as one update: the frame is RUNNING, and the PCD is told unless it was (R117, R118). -/
theorem State.enableCycle_eq (s : State) (f : FrameId) :
    s.enableCycle f =
      { s with
        dcu := ((s.setCycle f { s.cycle f with cause := none, claim := none, stopTimer := none, startUp := 0 }).modCycle f
          fun r => { r with state := .running }).dcu,
        inFlight := if s.frameState f = .running then s.inFlight else s.inFlight ++ [.frameRunningNotice f] } := by
  have stays : (s.setCycle f { s.cycle f with cause := none, claim := none, stopTimer := none, startUp := 0 }).frameState f
      = s.frameState f := by simp [State.frameState]
  unfold State.enableCycle State.enterFrameState
  dsimp only
  rw [stays, if_neg (fun h => absurd h.2 (by decide))]
  by_cases running : s.frameState f = .running
  · rw [if_neg (fun h => h.2 running), if_pos running]
    rfl
  · rw [if_pos ⟨rfl, running⟩, if_neg running]
    rfl

/-- The delivery record of an enable may begin anew before the entry comes into force. -/
theorem State.enableDelivery_first (s : State) (f : FrameId) (e : FrameEntry) :
    (((s.setEntry f e).enableCycle f).enableMap f).enableDelivery f
      = (((s.enableDelivery f).setEntry f e).enableCycle f).enableMap f := by
  rw [State.enableCycle_eq, State.enableCycle_eq]
  rfl

theorem State.kept_enableFrame {f : FrameId} {e : FrameEntry}
    (he : e.enabled ≤ 1 ∧ e.article < 16 ∧ (e.nextArticle = 0xFF ∨ e.nextArticle < 16)) :
    s.Kept ((s.setEntry f e).enableFrame f) := by
  unfold State.enableFrame
  rw [State.enableDelivery_first]
  have stored : s.Kept ((s.enableDelivery f).setEntry f e) :=
    (State.Calm.refl.enableDelivery f).toKept.setEntry he fun b _ => by
      simpa [State.enableDelivery, State.deliveryRecord, Delivery.initial] using b.2.1.1 _
  exact stored.calm
    ((((((State.Calm.refl.enableCycle f).enableMap f).enableGroups f).enableSpeed f).enableDispatch f).sendFloor _ _ _)

theorem State.Calm.readyToDisable (h : s.Calm t) (f : FrameId) : s.Calm (t.readyToDisable f) :=
  ((h.spuReady f).smuReady f).pcdReadyFor f

theorem State.Calm.disableFrame (h : s.Calm t) (f : FrameId) : s.Calm (t.disableFrame f) := by
  have disabled := (((h.abandonFrame f).disableCycle f).disableGroups f).disableMap f
  unfold State.disableFrame
  dsimp only
  exact (disabled.fly _).reevaluateZones _

/-- A write that leaves the article of an enabled frame leaves the divisor of its residue (R20, R50). -/
theorem State.kept_commitFrame {f : FrameId} {e : FrameEntry}
    (he : e.enabled ≤ 1 ∧ e.article < 16 ∧ (e.nextArticle = 0xFF ∨ e.nextArticle < 16))
    (same : s.enabled f = true → e.article = (s.entry f).article) : s.Kept (s.commitFrame f e) := by
  unfold State.commitFrame
  dsimp only
  split
  · exact State.kept_enableFrame he
  · split
    · rename_i off
      exact ((State.Calm.refl.readyToDisable f).toKept.setEntry he fun _ on => by omega).calm (State.Calm.refl.disableFrame f)
    · rename_i notOn _
      refine State.Kept.refl.setEntry he fun b on => ?_
      have enabled : s.enabled f = true := by
        have := (b.entries f).1
        simp only [State.enabled, beq_iff_eq]
        omega
      rw [same enabled]
      exact (b.delivery f).2.2 enabled

theorem State.kept_writeFrame (seq index mask : Nat) (values : List Byte) : s.Kept (s.writeFrame seq index mask values) := by
  unfold State.writeFrame
  split
  · rename_i hi
    refine State.kept_maskedWrite (State.kept_judgeWrite fun unlocked passed => State.kept_commitFrame ?_ fun on => ?_)
    · simp only [State.frameConds, List.forall_mem_cons, Bool.and_eq_true, Bool.or_eq_true, between_iff, beq_iff_eq] at passed
      omega
    · have free : mask.testBit 10 = false := by
        simp only [on, Bool.true_and, locksFrame, selects, List.any_eq_false, Bool.not_eq_true] at unlocked
        exact unlocked 10 (by simp)
      exact overlay_getD (k := 0) (j := 10) values rfl (by simpa using free)
  · exact (State.Calm.refl.refuse _ _).toKept

end Sys2Proof.Machine
end

section
/-! The writes of the other tables, the commands of the units, the resets, and the two rules of the whole machine. -/

namespace Sys2Proof.Machine

variable {s t u : State}

/-! ### The other tables -/

/-- The bounds of R50 after an article is written that no enabled frame spins (R24, R50). -/
theorem State.residuesBounded.setArticle (h : s.residuesBounded) {a : ArticleId} {e : Article} (draft : 0 < e.draft)
    (unused : s.articleInUse a.val = false) :
    State.residuesBounded { s with store := { s.store with articles := s.store.articles.set a e } } := by
  obtain ⟨length, ⟨drafts, formers, entries, roving⟩, rest⟩ := h
  refine ⟨length, ⟨fun b => ?_, formers, entries, fun f on => ?_⟩, rest⟩
  · dsimp only
    rw [Tab.get_set]
    split
    · exact draft
    · exact drafts b
  · have other : a ≠ s.articleId f := fun same => by
      have used : s.articleInUse a.val = true := by
        have inRange := (entries f).2.1
        simp only [State.articleInUse, List.any_eq_true, Bool.and_eq_true, Bool.or_eq_true, beq_iff_eq]
        refine ⟨f, List.mem_finRange f, on, .inl ?_⟩
        rw [same]
        exact (Nat.mod_eq_of_lt inRange).symm
      rw [unused] at used
      cases used
    have kept : State.article { s with store := { s.store with articles := s.store.articles.set a e } } f = s.article f :=
      Tab.get_set_ne _ other _
    have worked := roving f on
    unfold State.dauArticle at worked ⊢
    rw [kept]
    exact worked

theorem State.kept_writeArticle (seq index mask : Nat) (values : List Byte) :
    s.Kept (s.writeArticle seq index mask values) := by
  unfold State.writeArticle
  split
  · refine State.kept_maskedWrite (State.kept_judgeWrite fun unused passed => ?_)
    refine ⟨⟨id, id, id, id, fun b => b.setArticle ?_ unused, id⟩, fun _ => id, rfl, rfl, rfl, rfl⟩
    simp only [Article.conds, List.forall_mem_cons, Bool.and_eq_true, between_iff] at passed
    omega
  · exact (State.Calm.refl.refuse _ _).toKept

/-- The tables of zones and machines and the Line Settings are read by no bound. -/
theorem State.kept_store (s : State) (zones : Tab 8 ZoneEntry) (robots : Tab 12 RobotEntry) (doffers : Tab 8 DofferEntry)
    (carriers : Tab 8 CarrierEntry) (settings : Settings) :
    s.Kept { s with store := { s.store with zones, robots, doffers, carriers, settings } } :=
  ⟨⟨id, id, id, id, id, id⟩, fun _ => id, rfl, rfl, rfl, rfl⟩

theorem State.kept_writeZone (seq index mask : Nat) (values : List Byte) : s.Kept (s.writeZone seq index mask values) := by
  unfold State.writeZone
  split
  · exact State.kept_maskedWrite (State.kept_judgeWrite fun _ _ => s.kept_store _ _ _ _ _)
  · exact (State.Calm.refl.refuse _ _).toKept

theorem State.kept_commitRobot (k : RobotId) (e : RobotEntry) : s.Kept (s.commitRobot k e) := by
  have stored : s.Kept { s with store := { s.store with robots := s.store.robots.set k e } } := s.kept_store _ _ _ _ _
  unfold State.commitRobot
  dsimp only
  split
  · exact stored.calm (State.Calm.refl.sendFloor _ _ _)
  · split
    · exact stored.calm ((State.Calm.refl.disableRobot k).reevaluate _)
    · exact stored

theorem State.kept_writeRobot (seq index mask : Nat) (values : List Byte) : s.Kept (s.writeRobot seq index mask values) := by
  unfold State.writeRobot
  split
  · refine State.kept_maskedWrite ?_
    dsimp only
    exact (State.Calm.refl.pcdReadyRobot _).toKept.trans (State.kept_judgeWrite fun _ _ => State.kept_commitRobot _ _)
  · exact (State.Calm.refl.refuse _ _).toKept

theorem State.kept_commitDoffer (d : DofferId) (mask : Nat) (e : DofferEntry) : s.Kept (s.commitDoffer d mask e) := by
  have stored : s.Kept { s with store := { s.store with doffers := s.store.doffers.set d e } } := s.kept_store _ _ _ _ _
  unfold State.commitDoffer
  dsimp only
  generalize State.mk s.link _ _ _ _ _ _ _ _ _ _ _ _ _ _ _ _ _ _ _ = v at stored ⊢
  have switched : s.Kept
      (if (s.store.doffers.get d).enabled = 0 ∧ e.enabled = 1 then sendStateRequest (dofferNode d) v
        else if (s.store.doffers.get d).enabled = 1 ∧ e.enabled = 0 then v.disableDoffer d else v) := by
    split
    · exact stored.calm (State.Calm.refl.sendFloor _ _ _)
    · split
      · exact stored.calm (State.Calm.refl.disableDoffer d)
      · exact stored
  split
  · exact switched.calm (State.Calm.refl.writeReach d _)
  · exact switched

theorem State.kept_writeDoffer (seq index mask : Nat) (values : List Byte) : s.Kept (s.writeDoffer seq index mask values) := by
  unfold State.writeDoffer
  split
  · exact State.kept_maskedWrite (State.kept_judgeWrite fun _ _ => State.kept_commitDoffer _ _ _)
  · exact (State.Calm.refl.refuse _ _).toKept

theorem State.kept_commitCarrier (c : CarrierId) (e : CarrierEntry) : s.Kept (s.commitCarrier c e) := by
  have stored : s.Kept { s with store := { s.store with carriers := s.store.carriers.set c e } } := s.kept_store _ _ _ _ _
  unfold State.commitCarrier
  dsimp only
  split
  · exact stored.calm (State.Calm.refl.sendFloor _ _ _)
  · split
    · exact stored.calm (State.Calm.refl.disableCarrier c)
    · exact stored

theorem State.kept_writeCarrier (seq index mask : Nat) (values : List Byte) :
    s.Kept (s.writeCarrier seq index mask values) := by
  unfold State.writeCarrier
  split
  · exact State.kept_maskedWrite (State.kept_judgeWrite fun _ _ => State.kept_commitCarrier _ _)
  · exact (State.Calm.refl.refuse _ _).toKept

theorem State.kept_writeSettings (seq index mask : Nat) (values : List Byte) :
    s.Kept (s.writeSettings seq index mask values) := by
  unfold State.writeSettings
  split
  · exact State.kept_maskedWrite
      (State.kept_judgeWrite fun _ _ => (s.kept_store _ _ _ _ _).calm State.Calm.refl.settleSupply)
  · exact (State.Calm.refl.refuse _ _).toKept

/-- What a write to the Disposition Table keeps (R10). -/
structure State.KeptButDispositions (s t : State) : Prop where
  bounds : s.Bounds t
  flags : ∀ x, s.flagSet x = true → t.flagSet x = true
  closed : t.scu.closed = s.scu.closed

theorem State.Kept.butDispositions (h : s.Kept t) : s.KeptButDispositions t := ⟨h.bounds, h.flags, h.closed⟩

/-- A disposition that passes the check lets no part command down (R10). -/
theorem State.commandsBlocked.set (h : s.commandsBlocked) {k : Fin 256} {e : Disposition}
    (he : 0x20 ≤ k.val → k.val ≤ 0x30 → e.pass = false) :
    State.commandsBlocked { s with link := { s.link with disposition := s.link.disposition.set k e } } := fun j lo hi => by
  dsimp only
  rw [Tab.get_set]
  split
  · rename_i same
    exact he (same ▸ lo) (same ▸ hi)
  · exact h j lo hi

theorem State.keptButDispositions_set {k : Fin 256} {e : Disposition} (he : 0x20 ≤ k.val → k.val ≤ 0x30 → e.pass = false) :
    s.KeptButDispositions { s with link := { s.link with disposition := s.link.disposition.set k e } } :=
  ⟨⟨id, id, id, id, id, fun b => b.set he⟩, fun _ => id, rfl⟩

theorem State.KeptButDispositions.calm (h : s.KeptButDispositions t) (h' : t.Calm u) : s.KeptButDispositions u :=
  ⟨h.bounds.trans h'.bounds, fun x => h'.flags x ∘ h.flags x, h'.closed.trans h.closed⟩

theorem State.kept_writeDisposition (seq index mask : Nat) (values : List Byte) :
    s.KeptButDispositions (s.writeDisposition seq index mask values) := by
  have refused : ∀ {u : State} {r n}, u = s.offerUp (replyTelegram seq r n []) → s.KeptButDispositions u :=
    fun e => (State.Calm.refl.answered e).toKept.butDispositions
  unfold State.writeDisposition
  split
  · rcases s.maskedWrite_cases seq dispositionWidths _ mask values _ with ⟨r, n, e⟩ | e
    · exact refused e
    · rw [e]
      rcases s.judgeWrite_cases seq false _ false _ with ⟨r, n, e⟩ | ⟨-, passed, e⟩
      · exact refused e
      · rw [e]
        refine (State.keptButDispositions_set (e := Disposition.ofFields _) ?_).calm (State.Calm.refl.offerUp _)
        intro lo hi
        simp only [List.forall_mem_cons, Bool.and_eq_true, Bool.not_eq_true', Bool.and_eq_false_iff,
          decide_eq_false_iff_not] at passed
        simpa [lo, hi] using passed.2.1.2
  · exact (State.Calm.refl.refuse _ _).toKept.butDispositions

theorem State.kept_writeTable {table : Nat} (seq index mask : Nat) (values : List Byte) (h : table ≠ 7) :
    s.Kept (s.writeTable seq table index mask values) := by
  unfold State.writeTable
  split
  · exact State.kept_writeFrame _ _ _ _
  · exact State.kept_writeArticle _ _ _ _
  · exact State.kept_writeZone _ _ _ _
  · exact State.kept_writeRobot _ _ _ _
  · exact State.kept_writeDoffer _ _ _ _
  · exact State.kept_writeCarrier _ _ _ _
  · exact State.kept_writeSettings _ _ _ _
  · exact absurd rfl h
  · exact (State.Calm.refl.refuse _ _).toKept

/-- A management telegram is dropped, or the TSM takes it (R35). -/
theorem State.management_cases (s : State) (k : State → State) : s.management k = s ∨ s.management k = k s := by
  unfold State.management State.whenOn
  split
  · dsimp only
    split
    · exact .inr rfl
    · exact .inl rfl
  · exact .inl rfl

theorem State.kept_management_writeTable {table : Nat} (seq index mask : Nat) (values : List Byte) (h : table ≠ 7) :
    s.Kept (s.management (State.writeTable seq table index mask values)) := by
  rcases s.management_cases (State.writeTable seq table index mask values) with e | e <;> rw [e]
  · exact .refl
  · exact State.kept_writeTable _ _ _ _ h

end Sys2Proof.Machine
end

section
/-! Each command of the units keeps what the units keep; the resets; and the two rules of the whole machine. -/

namespace Sys2Proof.Machine

variable {s t u : State}

/-! ### The commands of the units -/

/-- Every command but the writes, the DOFF-DONE, the reads with clear, SHIFT-CLOSE and the resets. -/
def isCalm : Instr → Bool
  | .doffDone .. | .flagsRead .. | .shiftClose .. | .lineReset _ | .pinReset _ | .supplyFail _ | .supplyResetExit ..
  | .rstnRises _ => false
  | c => !writesTable c

theorem State.calm_checkError (port : Port) (bytes : List Byte) : s.Calm (s.after (execCheckError port bytes s)) := by
  refine State.Calm.refl.hears fun v h => ?_
  split
  · exact (h.bump _).latch _
  · exact h

theorem State.calm_malformed (port : Port) (bytes : List Byte) : s.Calm (s.after (execMalformed port bytes s)) := by
  refine State.Calm.refl.hears fun v h => ?_
  split
  · exact h
  · split
    · exact h.discardMalformed _ _
    · split
      · exact h.countMalformed
      · exact h

theorem State.calm_unknownNode (port : Port) (bytes : List Byte) : s.Calm (s.after (execUnknownNode port bytes s)) := by
  refine State.Calm.refl.hears fun v h => ?_
  split
  · exact h
  · split
    all_goals split
    case h_1.isFalse | h_2.isFalse | h_3.isTrue => exact h.countUnknownNode
    all_goals exact h

theorem State.calm_floorMaintenance (bytes : List Byte) : s.Calm (s.after (execFloorMaintenance bytes s)) := by
  refine State.Calm.refl.hears fun v h => ?_
  split
  · exact h
  · split
    · exact h
    · split
      · exact h.copyTelegram _
      · exact h.countUnknownNode

theorem State.calm_downTelegram (bytes : List Byte) : s.Calm (s.after (execDownTelegram bytes s)) := by
  refine State.Calm.refl.hears fun v h => ?_
  split
  · exact h
  · split
    · exact h
    · split
      · exact h.relayDown _
      · exact h.countUnknownNode

theorem State.calm_transmitComplete (port : Port) : s.Calm (s.after (execTransmitComplete port s)) := by
  unfold execTransmitComplete State.after
  refine State.Calm.refl.whenOn fun v h => ?_
  have shorter : ∀ q : List Telegram, q.length ≤ 64 → q.tail.length ≤ 64 := fun q hq => by
    rw [List.length_tail]
    omega
  cases port with
  | floor => exact h.setFloorQueue _ fun b => shorter _ b.2
  | uplink =>
    dsimp only
    split
    · exact h
    · exact (h.setUpQueue _ fun b => shorter _ b.1).replySent

theorem State.calm_dofferReady (node seq : Nat) : s.Calm (s.after (execDofferReady node seq s)) := by
  unfold execDofferReady State.after
  refine State.Calm.refl.report _ fun v h => ?_
  split
  · exact (h.makeIdle _).pick _
  · exact (h.makeIdle _).pick _
  all_goals exact h.countStale

theorem State.calm_carrierReady (node seq load : Nat) : s.Calm (s.after (execCarrierReady node seq load s)) := by
  unfold execCarrierReady State.after
  refine State.Calm.refl.report _ fun v h => ?_
  split
  case h_4 | h_5 | h_6 | h_7 => exact h.countStale
  all_goals exact (h.modCarrier _ fun _ => { state := .idle, trip := none, load, timer := none }).dispatch _ _

theorem State.calm_stopTimerExpiry (f : FrameId) : s.Calm (s.after (execStopTimerExpiry f s)) := by
  unfold execStopTimerExpiry State.after
  refine State.Calm.refl.whenOn fun v h => ?_
  split
  · dsimp only
    split
    · exact ((h.reach _).dcuReady f).enterHeld f _
    · exact (h.reach _).dcuReady f
  · exact h

theorem State.calm_doffTimerExpiry (d : DofferId) : s.Calm (s.after (execDoffTimerExpiry d s)) := by
  unfold execDoffTimerExpiry State.after
  refine State.Calm.refl.whenOn fun v h => ?_
  split
  · split
    · exact (((((h.reach _).dcuReady _).sendFloor _ _ _).makeFaulted d).alarm _ _ _ _).enterHeld _ _
    · exact h
  · exact h

theorem State.calm_verifyDeadlineExpiry : s.Calm (s.after (execVerifyDeadlineExpiry s)) := by
  unfold execVerifyDeadlineExpiry State.after
  refine State.Calm.refl.whenOn fun v h => ?_
  split
  · exact h
  · exact (h.pcdReadyFor _).verifyPasses _

theorem State.calm_snapshotRead : s.Calm (s.after (execSnapshotRead s)) := by
  unfold execSnapshotRead State.after
  refine State.Calm.refl.whenOn fun v h => ?_
  split
  · exact h.copyFrame
  · exact h

theorem State.calm_piecingDeadlineExpiry (k : RobotId) : s.Calm (s.after (execPiecingDeadlineExpiry k s)) := by
  unfold execPiecingDeadlineExpiry State.after
  exact State.Calm.refl.deadlinePasses k _ fun _ h => (h.withdraw k).unresponsive k _ _

theorem State.calm_moveDeadlineExpiry (k : RobotId) : s.Calm (s.after (execMoveDeadlineExpiry k s)) := by
  unfold execMoveDeadlineExpiry State.after
  exact State.Calm.refl.deadlinePasses k _ fun _ h => h.unresponsive k _ _

theorem State.calm_leavingDeadlineExpiry (k : RobotId) : s.Calm (s.after (execLeavingDeadlineExpiry k s)) := by
  unfold execLeavingDeadlineExpiry State.after
  exact State.Calm.refl.deadlinePasses k _ fun _ h => h.unresponsive k _ _

theorem State.calm_secondsTick : s.Calm (s.after (execSecondsTick s)) := by
  unfold execSecondsTick State.after
  refine State.Calm.refl.whenOn fun v h => ?_
  have ticked : s.Calm { v with ticks := v.ticks + 1 } := h.elsewhere rfl
  exact (ticked.reach _).emitAll _

theorem State.calm_groupLoaded (seq frame group length : Nat) : s.Calm (s.after (execGroupLoaded seq frame group length s)) := by
  refine State.Calm.refl.management fun v h => h.frameCmd _ _ _ fun f w k => ?_
  split
  · exact k.badValue _ _
  · split
    · exact k.badValue _ _
    · exact (k.takeGroupLoaded f _ _).answer _

/-- The wait of a PART-RESET is all that it leaves behind its reply (R35). -/
theorem State.calm_partReset (seq : Nat) : s.Calm (s.after (execPartReset seq s)) :=
  State.Calm.refl.management fun _ h => (h.replyOk _ _).setWait _ _ _

/-- Each command of the units keeps the bounds, the tables, the flags and the closed records. -/
theorem State.calm_exec (c : Instr) (hc : isCalm c = true) : s.Calm (s.after (exec c s)) := by
  have refl : s.Calm s := .refl
  cases c with
  | checkError port bytes => exact s.calm_checkError port bytes
  | malformed port bytes => exact s.calm_malformed port bytes
  | unknownNode port bytes => exact s.calm_unknownNode port bytes
  | floorMaintenance bytes => exact s.calm_floorMaintenance bytes
  | downTelegram bytes => exact s.calm_downTelegram bytes
  | transmitComplete port => exact s.calm_transmitComplete port
  | delivery node seq pulse => exact refl.report _ fun _ h => h.deliver _ _
  | breakReport node seq side index => exact refl.report _ fun _ h => h.spindleReport _ _ _ fun _ k => k.takeBreak _ _ _
  | runReport node seq side index => exact refl.report _ fun _ h => h.spindleReport _ _ _ fun _ k => k.takeRun _ _ _
  | sideState node seq side first count bits => exact refl.report _ fun _ h => h.takeSideState _ _ _ _ _
  | stopped node seq => exact refl.report _ fun _ h => h.takeStopped _
  | robotReady node seq aisle position => exact refl.report _ fun _ h => h.takeRobotReady _ _ _
  | robotPos node seq aisle position => exact refl.report _ fun _ h => h.takeRobotPos _ _ _
  | pieced node seq frame side index => exact refl.report _ fun _ h => h.takePieced _ _ _ _
  | notPieced node seq frame side index cause => exact refl.report _ fun _ h => h.takeNotPieced _ _ _ _
  | robotLeft node seq => exact refl.report _ fun _ h => h.takeRobotLeft _
  | dofferReady node seq => exact s.calm_dofferReady node seq
  | dofferFault node seq => exact refl.report _ fun _ h => h.takeDofferFault _
  | carrierReady node seq load => exact s.calm_carrierReady node seq load
  | arrived node seq frame group => exact refl.report _ fun _ h => h.takeArrived _ _ _
  | changeDone node seq frame group => exact refl.report _ fun _ h => h.takeChangeDone _ _ _
  | carrierFault node seq => exact refl.report _ fun _ h => h.takeCarrierFault _
  | tableRead seq table index => exact refl.management fun _ h => h.readTable _ _ _
  | stateRead seq cls index => exact refl.management fun _ h => h.readState _ _ _
  | mapRead seq frame side first count => exact refl.management fun _ h => h.readMap _ _ _ _ _
  | listRead seq list first count => exact refl.management fun _ h => h.readList _ _ _ _
  | releaseSpindle seq frame side index => exact refl.management fun _ h => h.releaseSpindle _ _ _ _
  | countsRead seq frame record clear => exact refl.management fun _ h => h.readCounts _ _ _ _
  | hold seq frame command => exact refl.management fun _ h => h.frameCmd _ _ _ fun _ _ k => (k.takeHold _).answer _
  | resume seq frame => exact refl.management fun _ h => h.frameCmd _ _ _ fun _ _ k => (k.takeResume _).answer _
  | doffNow seq frame => exact refl.management fun _ h => h.frameCmd _ _ _ fun _ _ k => (k.takeDoffNow _).answer _
  | groupLoaded seq frame group length => exact s.calm_groupLoaded seq frame group length
  | partReset seq => exact s.calm_partReset seq
  | vretLoss => exact refl.setRetention _ fun _ f => by simp [Image.empty]
  | supplyFall mv => exact refl.supplyAt mv
  | supplyRise mv => exact refl.supplyAt mv
  | snapshotRead => exact s.calm_snapshotRead
  | secondsTick => exact s.calm_secondsTick
  | piecingDeadlineExpiry k => exact s.calm_piecingDeadlineExpiry k
  | moveDeadlineExpiry k => exact s.calm_moveDeadlineExpiry k
  | leavingDeadlineExpiry k => exact s.calm_leavingDeadlineExpiry k
  | verifyDeadlineExpiry => exact s.calm_verifyDeadlineExpiry
  | stopTimerExpiry f => exact s.calm_stopTimerExpiry f
  | doffTimerExpiry d => exact s.calm_doffTimerExpiry d
  | travelTimerExpiry c => exact refl.tripExpires c _ _
  | changeTimerExpiry c => exact refl.tripExpires c _ _
  | dcuDeliveryHandoff f dL target => exact refl.handoffInOrder fun _ c h => h.dcuTake c
  | spuDeliveryHandoff f dL fill => exact refl.handoffInOrder fun _ c h => h.spuTake c
  | scuDeliveryHandoff f dL r p mtex => exact refl.handoffInOrder fun _ c h => h.scuTake c
  | rsuRovingHandoff f dR => exact refl.handoffInOrder fun _ c h => h.rsuTake c
  | verifyExpiry f side index => exact refl.handoffInOrder fun _ c h => h.smuTake c
  | piecingRequest f side index verify => exact refl.handoffInOrder fun _ c h => h.smuTake c
  | failureRequest f side index => exact refl.handoffInOrder fun _ c h => h.smuTake c
  | withdrawRequest f side index => exact refl.handoffInOrder fun _ c h => h.smuTake c
  | smuPiecingCancel f => exact refl.handoffInOrder fun _ c h => h.smuTakeFirst c
  | spindleDoffCompletion f => exact refl.handoffInOrder fun _ c h => h.smuTakeFirst c
  | starveGroup f g => exact refl.handoff _ fun _ h => h.starve f g
  | pcdPiecingCancel f => exact refl.takeNotices _ _
  | verifyEntryRemove f side index => exact refl.takeNotices _ _
  | satisfiedNotice f side index => exact refl.takeNotices _ _
  | brokenNotice f side index => exact refl.takeNotices _ _
  | frameRunningNotice f => exact refl.takeNotices _ _
  | groupReevaluation f g => exact refl.takeNotices _ _
  | freeAisleNotice a => exact refl.takeNotices _ _
  | robotRelease k a => exact refl.handoffInOrder fun _ c h => h.aouTakeRobot c
  | lastAssignedNotice f g => exact refl.handoff _ fun _ h => h.takeLastAssigned f g
  | robotRecall k a => exact refl.handoffInOrder fun _ c h => h.pcdTakeRecall c
  | dofferReservation d f => exact refl.handoffInOrder fun _ c h => h.aouTakeDoffer c
  | dofferRelease d => exact refl.handoffInOrder fun _ c h => h.aouTakeDoffer c
  | aislesHeldNotice d f => exact refl.handoff _ fun _ h => h.takeHeldNotice d f
  | dauDoffCompletion f switched => exact refl.handoffInOrder fun _ c h => h.dauTake c
  | spuDoffCompletion f switched => exact refl.whenOn fun _ h => (h.dauReady f).takeInOrder fun _ c k => k.spuTakeFirst c
  | spuResumeRequest f restart => exact refl.handoffInOrder fun _ c h => h.spuTakeFirst c
  | monitoredBreak f => exact refl.handoff _ fun _ h => h.takeMonitoredBreak f
  | scuBreak f => exact refl.handoffInOrder fun _ c h => h.scuTake c
  | scuRovingEndBreak f => exact refl.handoffInOrder fun _ c h => h.scuTake c
  | scuRogueEvent f => exact refl.handoffInOrder fun _ c h => h.scuTake c
  | scuSuccessfulPiecing f => exact refl.handoffInOrder fun _ c h => h.scuTake c
  | scuFailedPiecing f => exact refl.handoffInOrder fun _ c h => h.scuTake c
  | scuDoff f => exact refl.handoffInOrder fun _ c h => h.scuTake c
  | scuStoppedSecond f => exact refl.handoffInOrder fun _ c h => h.scuTake c
  | scuDoffWaitSecond f => exact refl.handoffInOrder fun _ c h => h.scuTake c
  | _ => cases hc

/-- A report is counted or ignored, or its owner takes it (R8, R9). -/
theorem State.report_cases (s : State) (c : Instr) (owner : State → State) :
    s.report c owner = owner (s.copyReport c) ∨ s.Calm (s.report c owner) := by
  unfold State.report State.hears State.whenOn
  split
  · dsimp only
    split
    · exact .inr .refl
    · split
      · exact .inr State.Calm.refl.countMalformed
      · exact .inr State.Calm.refl.countUnknownNode
      · exact .inl rfl
  · exact .inr .refl

theorem State.keptButFrames_doffDone (node seq frame : Nat) : s.KeptButFrames (s.after (execDoffDone node seq frame s)) := by
  unfold execDoffDone State.after
  rcases s.report_cases (.doffDone node seq frame) (State.takeDoffDone (dofferAt node) (frameAt frame)) with e | calm
  · rw [e]
    exact (State.Calm.refl.copyReport _).takeDoffDone _ _
  · exact calm.butFrames

/-! ### The hand-offs before a line reset (R188) -/

theorem State.receive_handOff {c : Instr} (h : isHandOff c = true) : s.receive c = s.after (exec c s) := by
  cases c <;> first | (cases h; done) | rfl

theorem State.receive_other {c : Instr} (h : isHandOff c = false) : s.receive c = s.drop c := by
  cases c <;> first | (cases h; done) | rfl

theorem isCalm_of_isHandOff {c : Instr} (h : isHandOff c = true) : isCalm c = true := by
  cases c <;> first | (cases h; done) | rfl

theorem State.Calm.receive (h : s.Calm t) (c : Instr) : s.Calm (t.receive c) := by
  by_cases handOff : isHandOff c = true
  · rw [State.receive_handOff handOff]
    exact h.trans (t.calm_exec c (isCalm_of_isHandOff handOff))
  · rw [State.receive_other (by simpa using handOff)]
    exact h.drop c

theorem State.Calm.drain (h : s.Calm t) (fuel : Nat) : s.Calm (t.drain fuel) := by
  induction fuel generalizing t with
  | zero => exact h
  | succ fuel ih =>
    rw [State.drain]
    split
    · exact h
    · exact ih (h.receive _)

theorem State.Calm.settleHandoffs (h : s.Calm t) : s.Calm t.settleHandoffs := h.drain _

/-! ### The line reset (R188) -/

theorem State.Calm.announce (h : s.Calm t) (outcome : Nat) : s.Calm (t.announce outcome) :=
  (h.sendUp _ _).sendFloor _ _ _

theorem State.Calm.offerHeld (h : s.Calm t) : s.Calm t.offerHeld :=
  (h.setWait t.store.resetWait t.store.lineNumber []).foldl (op := fun v a => sendAlarm a v) (fun _ _ k => k.sendUp _ _) _

theorem State.Calm.readmit (h : s.Calm t) : s.Calm t.readmit :=
  h.foldl (fun _ f k => k.foldl (fun _ g j => j.judge f g) _) _

/-- What a line reset keeps: the Disposition Table but for the part commands that it blocks (R10, R188). -/
structure State.KeptByReset (s t : State) : Prop where
  bounds : s.Bounds t
  flags : ∀ x, s.flagSet x = true → t.flagSet x = true
  closed : t.scu.closed = s.scu.closed
  tables : t.tables = s.tables
  frames : t.store.frames = s.store.frames
  dispositions : ∀ k : Fin 256, t.link.disposition.get k = s.link.disposition.get k
    ∨ (0x20 ≤ k.val ∧ k.val ≤ 0x30 ∧ t.link.disposition.get k = { s.link.disposition.get k with pass := false })
  power : t.power = s.power
  rstnLow : t.rstnLow = s.rstnLow

theorem State.Calm.byReset (h : s.Calm t) : s.KeptByReset t :=
  ⟨h.bounds, h.flags, h.closed, h.tables, h.frames, fun k => .inl (by rw [h.disposition]), h.power, h.rstnLow⟩

theorem State.KeptByReset.trans (h : s.KeptByReset t) (h' : t.KeptByReset u) : s.KeptByReset u := by
  refine ⟨h.bounds.trans h'.bounds, fun x => h'.flags x ∘ h.flags x, h'.closed.trans h.closed, h'.tables.trans h.tables,
    h'.frames.trans h.frames, fun k => ?_, h'.power.trans h.power, h'.rstnLow.trans h.rstnLow⟩
  rcases h.dispositions k with e | ⟨lo, hi, e⟩ <;> rcases h'.dispositions k with e' | ⟨lo', hi', e'⟩
  · exact .inl (e'.trans e)
  · exact .inr ⟨lo', hi', by rw [e', e]⟩
  · exact .inr ⟨lo, hi, e'.trans e⟩
  · exact .inr ⟨lo', hi', by rw [e', e]⟩

/-- No spindle of a map is RUNNING after a line reset (R53). -/
theorem runningIn_lineReset (l : List Spindle) : runningIn (l.map Spindle.lineReset) = 0 := by
  rw [runningIn, List.countP_map, List.countP_eq_zero]
  intro sp _
  cases e : sp.state <;> simp [Spindle.lineReset, e]

theorem Link.lineReset_blocked (l : Link) (k : Fin 256) :
    l.lineReset.disposition.get k = l.disposition.get k
      ∨ (0x20 ≤ k.val ∧ k.val ≤ 0x30 ∧ l.lineReset.disposition.get k = { l.disposition.get k with pass := false }) := by
  simp only [Link.lineReset, Tab.get_build]
  split
  · rename_i range
    exact .inr ⟨range.1, range.2, rfl⟩
  · exact .inl rfl

theorem State.keptByReset_applyLineReset (cause : ResetCause) (pins : Fin 32) :
    s.KeptByReset (s.applyLineReset cause pins) := by
  have residues : s.residuesBounded → (s.applyLineReset cause pins).residuesBounded :=
    fun ⟨length, ⟨drafts, formers, entries, roving⟩, mass, images⟩ => by
      have record : ∀ f, (s.applyLineReset cause pins).deliveryRecord f = { s.deliveryRecord f with baseline := false } :=
        fun f => Tab.get_map _ _ f
      refine ⟨fun f => ?_, ⟨drafts, fun f => ?_, entries, fun f on => ?_⟩, mass, images⟩
      · rw [record]
        exact length f
      · rw [record]
        exact formers f
      · unfold State.dauArticle
        rw [record]
        exact roving f on
  have maps : s.mapsCounted → (s.applyLineReset cause pins).mapsCounted := fun b f => by
    have record : (s.applyLineReset cause pins).map f =
        { s.map f with sideA := (s.map f).sideA.map Spindle.lineReset, sideB := (s.map f).sideB.map Spindle.lineReset,
                       running := 0 } := Tab.get_map _ _ f
    rw [record]
    exact ⟨by simp [runningIn_lineReset], by simpa using (b f).2⟩
  have blocked : s.commandsBlocked → (s.applyLineReset cause pins).commandsBlocked := fun b k lo hi => by
    rcases s.link.lineReset_blocked k with e | ⟨-, -, e⟩
    · exact (congrArg Disposition.pass e).trans (b k lo hi)
    · exact congrArg Disposition.pass e
  exact ⟨⟨fun _ => ⟨Nat.zero_le _, Nat.zero_le _⟩, id, fun b => ⟨b.1, Nat.zero_le _, Nat.zero_le _⟩, maps, residues, blocked⟩, fun _ => id,
    rfl, rfl, rfl, s.link.lineReset_blocked, rfl, rfl⟩

theorem State.keptByReset_lineReset (cause : ResetCause) (pins : Fin 32) : s.KeptByReset (s.lineReset cause pins) := by
  have settled : s.Calm s.beginReset.settleHandoffs :=
    State.Calm.settleHandoffs (State.Calm.refl.setWait (some 0) s.store.lineNumber s.store.heldAlarms)
  exact (settled.byReset.trans (State.keptByReset_applyLineReset cause pins)).trans
    ((State.Calm.refl.announce 0).offerHeld.readmit).byReset

theorem State.keptByReset_takeBegun (pins : Fin 32) : s.KeptByReset (s.takeBegun pins) := by
  unfold State.takeBegun
  split
  · exact State.keptByReset_lineReset _ _
  · exact State.Calm.refl.byReset

theorem State.keptByReset_execLineReset (pins : Fin 32) : s.KeptByReset (s.after (execLineReset pins s)) := by
  unfold execLineReset State.after State.whenOn
  dsimp only
  split
  · exact State.keptByReset_takeBegun pins
  · exact State.Calm.refl.byReset

/-- A PIN_RESET with RSTN low keeps what a line reset keeps of the state with RSTN low. -/
theorem State.keptByReset_execPinReset (pins : Fin 32) :
    State.KeptByReset { s with rstnLow := true } (s.after (execPinReset pins s)) := by
  unfold execPinReset State.after State.whenOn
  dsimp only
  split
  · exact (State.keptByReset_takeBegun pins).trans (State.keptByReset_lineReset _ _)
  · exact State.Calm.refl.byReset

/-! ### The supply resets (R186, R187) -/

theorem Disposition.initial_blocked (k : Fin 256) (lo : 0x20 ≤ k.val) (hi : k.val ≤ 0x30) :
    (Disposition.initial k).pass = false := by simp [Disposition.initial, lo, hi]

/-- The reset values keep every bound, and the images are those of the retention domain (R186). -/
theorem State.bounds_blank (line : Fin 32) (r : Retention) (power : Power) (low : Bool) (mv uses : Nat) (q : List Instr)
    (hr : s.residuesBounded → ∀ f, (r.images.get f).massResidue < 1000000) :
    s.Bounds (State.blank line r power low mv uses q) := by
  have residues : s.residuesBounded → (State.blank line r power low mv uses q).residuesBounded := fun b => by
    refine ⟨fun f => ?_, ⟨fun a => ?_, fun f a e => ?_, fun f => ?_, fun f on => ?_⟩, fun f => ?_, hr b⟩
    · simp [State.deliveryRecord, State.blank, Delivery.initial]
    · simp [State.blank, Article.initial]
    · simp [State.deliveryRecord, State.blank, Delivery.initial] at e
    · simp [State.entry, State.blank, FrameEntry.initial]
    · simp [State.enabled, State.entry, State.blank, FrameEntry.initial] at on
    · simp [State.count, State.blank, CountRecord.lostRecord]
  refine ⟨fun _ => ⟨Nat.zero_le _, Nat.zero_le _⟩, fun _ c => by simp [State.counter, State.blank],
    fun _ => ⟨Nat.zero_le _, Nat.zero_le _, Nat.zero_le _⟩, fun _ f => ?_, residues, fun _ k lo hi => ?_⟩
  · rw [show (State.blank line r power low mv uses q).map f = .empty from Tab.get_fill _ _]
    exact FrameMap.empty_counted
  · rw [show (State.blank line r power low mv uses q).link.disposition.get k = .initial k from Tab.get_build _ _]
    exact Disposition.initial_blocked k lo hi

/-- New current records whose mass residues keep their bound (R50, R187). -/
theorem State.bounds_setCurrent (current : Tab 48 CountRecord)
    (h : s.residuesBounded → ∀ f, (current.get f).massResidue < 1000000) : s.Bounds { s with scu := { s.scu with current } } :=
  ⟨id, id, id, id, fun b => ⟨b.1, b.2.1, h b, b.2.2.2⟩, id⟩

theorem State.bounds_restore (dip : Bool) : s.Bounds (s.restore dip) := by
  unfold State.restore
  split
  · refine (State.bounds_setCurrent _ fun b f => ?_).trans ((State.Calm.refl.setValid _).latch _).bounds
    rw [Tab.get_map]
    exact b.2.2.2 f
  · refine (State.bounds_setCurrent _ fun b f => ?_).trans (State.Calm.refl.latch _).bounds
    simp [CountRecord.lostRecord]

theorem State.bounds_finishSupplyReset (dip : Bool) (pins : Fin 32) : s.Bounds (s.finishSupplyReset dip pins) :=
  ((State.bounds_blank _ _ _ _ _ _ _ fun b => b.2.2.2).trans (State.bounds_restore dip)).trans
    (State.Calm.refl.announce _).settleSupply.bounds

theorem Retention.classed_images (r : Retention) (dip : Bool) : (r.classed dip).images = r.images := by
  cases dip <;> rfl

theorem State.bounds_execSupplyFail (mv : Nat) : s.Bounds (s.after (execSupplyFail mv s)) := by
  unfold execSupplyFail State.after
  dsimp only
  split
  · exact (State.Calm.refl.supplyAt mv).bounds.trans (State.bounds_blank _ _ _ _ _ _ _ fun b => b.2.2.2)
  · exact .refl

theorem State.bounds_execSupplyResetExit (mv : Nat) (pins : Fin 32) : s.Bounds (s.after (execSupplyResetExit mv pins s)) := by
  unfold execSupplyResetExit State.after
  dsimp only
  split
  · have classed : s.Bounds { s with supply := mv, retention := s.retention.classed s.retention.intact } :=
      ⟨id, id, id, id, fun b => ⟨b.1, b.2.1, b.2.2.1, fun f => by
        rw [Retention.classed_images]
        exact b.2.2.2 f⟩, id⟩
    split
    · exact classed.trans ⟨id, id, id, id, id, id⟩
    · exact classed.trans (State.bounds_finishSupplyReset _ pins)
  · exact .refl

theorem State.bounds_execRstnRises (pins : Fin 32) : s.Bounds (s.after (execRstnRises pins s)) := by
  have risen : s.Bounds { s with rstnLow := false } := ⟨id, id, id, id, id, id⟩
  unfold execRstnRises State.after
  dsimp only
  split
  · exact risen.trans (State.bounds_finishSupplyReset _ pins)
  all_goals exact risen

/-! ### The reads with clear and SHIFT-CLOSE -/

/-- A clear of the flags is answered as any read (R37). -/
theorem State.execFlagsRead_cases (seq clear : Nat) :
    s.Calm (s.after (execFlagsRead seq clear s))
      ∨ (clear = 1 ∧ s.clearFlags.Calm (s.after (execFlagsRead seq clear s))) := by
  unfold execFlagsRead State.after
  dsimp only
  rcases s.management_cases _ with e | e <;> rw [e]
  · exact .inl .refl
  · split
    · exact .inl (State.Calm.refl.badValue _ _)
    · split
      · exact .inr ⟨‹_›, State.Calm.refl.replyOk _ _⟩
      · exact .inl (State.Calm.refl.replyOk _ _)

theorem State.bounds_clearFlags : s.Bounds s.clearFlags :=
  ⟨id, fun _ _ => by simp [State.counter, State.clearFlags, State.clearCounters, State.clearSpeedFlags], id, id, id, id⟩

/-- A close of the shift is answered as any other request (R177). -/
theorem State.execShiftClose_cases (seq shift : Nat) :
    s.Calm (s.after (execShiftClose seq shift s)) ∨ (s.closeShift shift).Calm (s.after (execShiftClose seq shift s)) := by
  unfold execShiftClose State.after
  dsimp only
  rcases s.management_cases _ with e | e <;> rw [e]
  · exact .inl .refl
  · split
    · exact .inl (State.Calm.refl.refuse _ _)
    · exact .inr (State.Calm.refl.replyOk _ _)

theorem State.bounds_closeShift (shift : Nat) : s.Bounds (s.closeShift shift) :=
  ⟨id, id, id, id, fun b => ⟨b.1, b.2.1, fun f => by
    have record : (s.closeShift shift).count f = (s.count f).fresh := Tab.get_map _ _ f
    rw [record]
    exact b.2.2.1 f, b.2.2.2⟩, id⟩

/-! ### The writes, by their rows -/

theorem State.kept_execTableWrite (seq table index mask : Nat) (values : List Byte) :
    s.KeptButDispositions (s.after (execTableWrite seq table index mask values s)) := by
  unfold execTableWrite State.after
  dsimp only
  rcases s.management_cases (State.writeTable seq table index mask values) with e | e <;> rw [e]
  · exact State.Kept.refl.butDispositions
  · by_cases h : table = 7
    · subst h
      exact State.kept_writeDisposition _ _ _ _
    · exact (State.kept_writeTable _ _ _ _ h).butDispositions

/-- A write of a row that names no disposition keeps all but the tables. -/
theorem State.kept_exec_write {c : Instr} (hc : writesTable c = true)
    (row : ∀ seq index mask values, c ≠ .dispositionTableWrite seq index mask values)
    (table : ∀ seq index mask values, c ≠ .tableWrite seq 7 index mask values) : s.Kept (s.after (exec c s)) := by
  cases c with
  | tableWrite seq number index mask values =>
    exact State.kept_management_writeTable seq index mask values fun e => table seq index mask values (by rw [e])
  | frameEnable | frameDisable | frameTableWrite => exact State.kept_management_writeTable (table := 0) _ _ _ _ (by decide)
  | articleTableWrite => exact State.kept_management_writeTable (table := 1) _ _ _ _ (by decide)
  | zoneTableWrite => exact State.kept_management_writeTable (table := 2) _ _ _ _ (by decide)
  | robotEnable | robotDisable | robotZoneChange => exact State.kept_management_writeTable (table := 3) _ _ _ _ (by decide)
  | dofferEnable | dofferDisable | dofferReachWrite => exact State.kept_management_writeTable (table := 4) _ _ _ _ (by decide)
  | carrierEnable | carrierDisable => exact State.kept_management_writeTable (table := 5) _ _ _ _ (by decide)
  | lineSettingsWrite => exact State.kept_management_writeTable (table := 6) _ _ _ _ (by decide)
  | dispositionTableWrite seq index mask values => exact absurd rfl (row seq index mask values)
  | _ => cases hc

/-- A write of any row keeps the bounds, the flags and the closed records. -/
theorem State.keptButDispositions_exec_write {c : Instr} (hc : writesTable c = true) :
    s.KeptButDispositions (s.after (exec c s)) := by
  by_cases row : ∃ seq index mask values, c = .dispositionTableWrite seq index mask values
  · obtain ⟨seq, index, mask, values, rfl⟩ := row
    exact State.kept_execTableWrite seq 7 index mask values
  · by_cases table : ∃ seq index mask values, c = .tableWrite seq 7 index mask values
    · obtain ⟨seq, index, mask, values, rfl⟩ := table
      exact State.kept_execTableWrite seq 7 index mask values
    · exact (State.kept_exec_write hc (fun seq index mask values e => row ⟨seq, index, mask, values, e⟩)
        fun seq index mask values e => table ⟨seq, index, mask, values, e⟩).butDispositions

/-! ### The two rules -/

theorem State.after_of_next {o : Host.Outcome State Fault Refusal} (h : o = .next t) : s.after o = t := by rw [h]; rfl

/-- Every command keeps every bound. -/
theorem State.bounds_exec (c : Instr) : s.Bounds (s.after (exec c s)) := by
  by_cases calm : isCalm c = true
  · exact (s.calm_exec c calm).bounds
  · by_cases write : writesTable c = true
    · exact (State.keptButDispositions_exec_write write).bounds
    · cases c with
      | doffDone node seq frame => exact (State.keptButFrames_doffDone node seq frame).bounds
      | flagsRead seq clear =>
        rcases State.execFlagsRead_cases (s := s) seq clear with h | ⟨-, h⟩
        · exact h.bounds
        · exact State.bounds_clearFlags.trans h.bounds
      | shiftClose seq shift =>
        rcases State.execShiftClose_cases (s := s) seq shift with h | h
        · exact h.bounds
        · exact (State.bounds_closeShift shift).trans h.bounds
      | lineReset pins => exact (State.keptByReset_execLineReset pins).bounds
      | pinReset pins =>
        have low : s.Bounds { s with rstnLow := true } := ⟨id, id, id, id, id, id⟩
        exact low.trans (State.keptByReset_execPinReset pins).bounds
      | supplyFail mv => exact State.bounds_execSupplyFail mv
      | supplyResetExit mv pins => exact State.bounds_execSupplyResetExit mv pins
      | rstnRises pins => exact State.bounds_execRstnRises pins
      | _ => simp_all [isCalm]

theorem State.bounds_idle (h : s.idle = .next t) : s.Bounds t := by
  unfold State.idle at h
  split at h
  · split at h
    · have drawn : s.Bounds s.drawPins := by
        unfold State.drawPins
        split
        · exact ⟨id, id, id, id, id, id⟩
        · exact .refl
      rw [← State.after_of_next (s := s.drawPins) h]
      exact drawn.trans (State.bounds_exec _)
    · cases h
      exact ⟨id, id, id, id, id, id⟩
  · cases h
    exact .refl

theorem State.bounds_step (h : step s = .next t) : s.Bounds t := by
  unfold step at h
  split at h
  · rename_i c rest _
    have popped : s.Bounds { s with pending := rest } := ⟨id, id, id, id, id, id⟩
    rw [← State.after_of_next (s := { s with pending := rest }) h]
    exact popped.trans (State.bounds_exec c)
  · exact State.bounds_idle h

/-- Settles O58: each bound is kept by every operation of the units, and so by every command. -/
theorem stepKeepsBounds : Obligations.StepKeepsBounds :=
  ⟨fun _ _ h => ⟨(State.bounds_step h).queues, (State.bounds_step h).counters, (State.bounds_step h).lists⟩,
    fun _ _ h => ⟨(State.bounds_step h).maps, (State.bounds_step h).residues, (State.bounds_step h).blocked⟩⟩

/-- The six tables of `State.tables`, one by one. -/
theorem State.tables_eq (h : t.tables = s.tables) :
    t.store.articles = s.store.articles ∧ t.store.zones = s.store.zones ∧ t.store.robots = s.store.robots
      ∧ t.store.doffers = s.store.doffers ∧ t.store.carriers = s.store.carriers ∧ t.store.settings = s.store.settings := by
  simpa [State.tables] using h

/-- No command but a TABLE-WRITE writes a table, and of the Frame Table but a DOFF-DONE (R18, R130). -/
theorem State.tables_exec {c : Instr} (keeps : losesState c = false) (write : writesTable c = false) :
    (s.after (exec c s)).tables = s.tables
      ∧ ((∀ node seq frame, c ≠ .doffDone node seq frame) → (s.after (exec c s)).store.frames = s.store.frames) := by
  by_cases calm : isCalm c = true
  · exact ⟨(s.calm_exec c calm).tables, fun _ => (s.calm_exec c calm).frames⟩
  · cases c with
    | doffDone node seq frame =>
      exact ⟨(State.keptButFrames_doffDone node seq frame).tables, fun other => absurd rfl (other node seq frame)⟩
    | flagsRead seq clear =>
      rcases State.execFlagsRead_cases (s := s) seq clear with h | ⟨-, h⟩ <;> exact ⟨h.tables, fun _ => h.frames⟩
    | shiftClose seq shift =>
      rcases State.execShiftClose_cases (s := s) seq shift with h | h <;> exact ⟨h.tables, fun _ => h.frames⟩
    | lineReset pins =>
      exact ⟨(State.keptByReset_execLineReset pins).tables, fun _ => (State.keptByReset_execLineReset pins).frames⟩
    | pinReset pins =>
      exact ⟨(State.keptByReset_execPinReset (s := s) pins).tables, fun _ => (State.keptByReset_execPinReset (s := s) pins).frames⟩
    | supplyFail | supplyResetExit | rstnRises => cases keeps
    | _ => simp_all [isCalm]

/-- The dispositions change by their own writes, and by the line resets that block the part commands (R10). -/
theorem State.disposition_exec {c : Instr} (keeps : losesState c = false)
    (row : ∀ seq index mask values, c ≠ .dispositionTableWrite seq index mask values)
    (table : ∀ seq index mask values, c ≠ .tableWrite seq 7 index mask values) (k : Fin 256) :
    (s.after (exec c s)).link.disposition.get k = s.link.disposition.get k
      ∨ ((∃ pins, c = .lineReset pins ∨ c = .pinReset pins) ∧ 0x20 ≤ k.val ∧ k.val ≤ 0x30
          ∧ (s.after (exec c s)).link.disposition.get k = { s.link.disposition.get k with pass := false }) := by
  have same : (s.after (exec c s)).link.disposition = s.link.disposition →
      (s.after (exec c s)).link.disposition.get k = s.link.disposition.get k := fun e => by rw [e]
  by_cases calm : isCalm c = true
  · exact .inl (same (s.calm_exec c calm).disposition)
  · by_cases write : writesTable c = true
    · exact .inl (same (State.kept_exec_write write row table).disposition)
    · cases c with
      | doffDone node seq frame => exact .inl (same (State.keptButFrames_doffDone node seq frame).disposition)
      | flagsRead seq clear =>
        rcases State.execFlagsRead_cases (s := s) seq clear with h | ⟨-, h⟩ <;> exact .inl (same h.disposition)
      | shiftClose seq shift =>
        rcases State.execShiftClose_cases (s := s) seq shift with h | h <;> exact .inl (same h.disposition)
      | lineReset pins =>
        exact ((State.keptByReset_execLineReset pins).dispositions k).imp id fun h => ⟨⟨pins, .inl rfl⟩, h⟩
      | pinReset pins =>
        exact ((State.keptByReset_execPinReset (s := s) pins).dispositions k).imp id fun h => ⟨⟨pins, .inr rfl⟩, h⟩
      | supplyFail | supplyResetExit | rstnRises => cases keeps
      | _ => simp_all [isCalm]

/-- A latched flag is cleared by no command but a FLAGS-READ with clear (R37). -/
theorem State.flags_exec {c : Instr} (keeps : losesState c = false) (read : ∀ seq, c ≠ .flagsRead seq 1) (x : LineFlag)
    (h : s.flagSet x = true) : (s.after (exec c s)).flagSet x = true := by
  by_cases calm : isCalm c = true
  · exact (s.calm_exec c calm).flags x h
  · by_cases write : writesTable c = true
    · exact (State.keptButDispositions_exec_write write).flags x h
    · cases c with
      | doffDone node seq frame => exact (State.keptButFrames_doffDone node seq frame).flags x h
      | flagsRead seq clear =>
        rcases State.execFlagsRead_cases (s := s) seq clear with k | ⟨rfl, -⟩
        · exact k.flags x h
        · exact absurd rfl (read seq)
      | shiftClose seq shift =>
        rcases State.execShiftClose_cases (s := s) seq shift with k | k <;> exact k.flags x h
      | lineReset pins => exact (State.keptByReset_execLineReset pins).flags x h
      | pinReset pins => exact (State.keptByReset_execPinReset (s := s) pins).flags x h
      | supplyFail | supplyResetExit | rstnRises => cases keeps
      | _ => simp_all [isCalm]

/-- The closed records change by SHIFT-CLOSE alone (R172). -/
theorem State.closed_exec {c : Instr} (keeps : losesState c = false) (close : ∀ seq shift, c ≠ .shiftClose seq shift) :
    (s.after (exec c s)).scu.closed = s.scu.closed := by
  by_cases calm : isCalm c = true
  · exact (s.calm_exec c calm).closed
  · by_cases write : writesTable c = true
    · exact (State.keptButDispositions_exec_write write).closed
    · cases c with
      | doffDone node seq frame => exact (State.keptButFrames_doffDone node seq frame).closed
      | flagsRead seq clear =>
        rcases State.execFlagsRead_cases (s := s) seq clear with h | ⟨-, h⟩ <;> exact h.closed
      | shiftClose seq shift => exact absurd rfl (close seq shift)
      | lineReset pins => exact (State.keptByReset_execLineReset pins).closed
      | pinReset pins => exact (State.keptByReset_execPinReset (s := s) pins).closed
      | supplyFail | supplyResetExit | rstnRises => cases keeps
      | _ => simp_all [isCalm]

/-- Settles O60, each clause by what the kinds of commands keep. -/
theorem onlyTheirOwnCommands : Obligations.OnlyTheirOwnCommands := by
  intro c s t next keeps
  obtain rfl := State.after_of_next (s := s) next
  refine ⟨fun write => ?_, State.disposition_exec keeps, State.flags_exec keeps, State.closed_exec keeps⟩
  obtain ⟨tables, frames⟩ := State.tables_exec (s := s) keeps write
  obtain ⟨articles, zones, robots, doffers, carriers, settings⟩ := State.tables_eq tables
  exact ⟨articles, zones, robots, doffers, carriers, settings, frames⟩

end Sys2Proof.Machine
end

section
/-! Telegrams as bytes (R1 to R5): the receive check, the layout, and the command that a telegram spells. -/

namespace Sys2Proof

/-! ### Numbers and bytes -/

theorem beBytes_length (n v : Nat) : (beBytes n v).length = n := Laws.Telegrams.length_beBytes n v

theorem beNat_append_foldl (acc : Nat) (bytes : List Byte) :
    bytes.foldl (fun a b => a * 256 + b.toNat) acc = acc * 256 ^ bytes.length + beNat bytes := by
  induction bytes generalizing acc with
  | nil => simp [beNat]
  | cons b rest ih =>
    rw [beNat, List.foldl_cons, List.foldl_cons, ih, ih (0 * 256 + b.toNat), List.length_cons, pow_succ]
    ring

theorem beNat_cons (b : Byte) (rest : List Byte) : beNat (b :: rest) = b.toNat * 256 ^ rest.length + beNat rest := by
  rw [beNat, List.foldl_cons, beNat_append_foldl]
  simp

/-- A number spells itself again in bytes that hold it (R1). -/
theorem beNat_beBytes (n v : Nat) : beNat (beBytes n v) = v % 256 ^ n := by
  induction n with
  | zero => simp [beBytes, beNat, Nat.mod_one]
  | succ n ih =>
    have digits : v % (256 ^ n * 256) = v % 256 ^ n + 256 ^ n * (v / 256 ^ n % 256) := Nat.mod_mul
    rw [beBytes, beNat_cons, ih, beBytes_length, BitVec.toNat_ofNat, show 2 ^ 8 = 256 from rfl, pow_succ, digits]
    ring

/-- The number that stands first in a payload. -/
theorem field_head {n v : Nat} (rest : List Byte) (h : v < 256 ^ n) : field (beBytes n v ++ rest) 0 n = v := by
  rw [field, List.drop_zero, List.take_append_of_le_length (by rw [beBytes_length]),
    List.take_of_length_le (by rw [beBytes_length]), beNat_beBytes, Nat.mod_eq_of_lt h]

/-- The number that stands alone in a payload. -/
theorem field_whole {n v : Nat} (h : v < 256 ^ n) : field (beBytes n v) 0 n = v := by
  simpa using field_head [] h

/-- A number that stands behind `m` bytes. -/
theorem field_behind (m v off n : Nat) (rest : List Byte) (h : m ≤ off) :
    field (beBytes m v ++ rest) off n = field rest (off - m) n := by
  rw [field, field, List.drop_append, List.drop_eq_nil_of_le (by rw [beBytes_length]; exact h), beBytes_length, List.nil_append]

/-! ### The receive check (R2, R3) -/

theorem Telegram.length_body (t : Telegram) : t.body.length = 4 + t.payload.length := by
  simp [Telegram.body]
  omega

/-- The bytes of a telegram of at most 40 payload bytes are received as that telegram (R2, R3). -/
theorem Telegram.parse_bytes (t : Telegram) (h : t.payload.length ≤ 40) : Telegram.parse t.bytes = some t := by
  have length : (BitVec.ofNat 8 t.payload.length).toNat = t.payload.length := by
    rw [BitVec.toNat_ofNat]
    omega
  have check : beNat (beBytes 2 (crc t.body).toNat) = (crc t.body).toNat :=
    (beNat_beBytes _ _).trans (Nat.mod_eq_of_lt (crc t.body).isLt)
  have bytes : t.bytes = t.kind :: t.node :: t.seq :: BitVec.ofNat 8 t.payload.length
      :: (t.payload ++ beBytes 2 (crc t.body).toNat) := by
    simp [Telegram.bytes, Telegram.body]
  rw [bytes, Telegram.parse, length, if_pos ⟨h, by rw [List.length_append, beBytes_length]⟩, List.take_left, List.drop_left]
  exact if_pos check

/-- What the receive check refuses (R2, R3). -/
theorem Telegram.parse_eq_none (bytes : List Byte) :
    Telegram.parse bytes = none ↔
      (bytes.length < 6 ∨ 40 < (bytes.getD 3 0).toNat ∨ bytes.length ≠ 6 + (bytes.getD 3 0).toNat
        ∨ beNat (bytes.drop (4 + (bytes.getD 3 0).toNat)) ≠ (crc (bytes.take (4 + (bytes.getD 3 0).toNat))).toNat) := by
  match bytes with
  | [] | [_] | [_, _] | [_, _, _] => simp [Telegram.parse]
  | k :: nd :: q :: n :: rest =>
    have behind : (k :: nd :: q :: n :: rest).drop (4 + n.toNat) = rest.drop n.toNat := by
      rw [Nat.add_comm]
      rfl
    have before : (k :: nd :: q :: n :: rest).take (4 + n.toNat) = k :: nd :: q :: n :: rest.take n.toNat := by
      rw [Nat.add_comm]
      rfl
    simp only [Telegram.parse, List.getD_cons_succ, List.getD_cons_zero, List.length_cons, behind, before]
    by_cases sized : n.toNat ≤ 40 ∧ rest.length = n.toNat + 2
    · have length : BitVec.ofNat 8 (min n.toNat rest.length) = n := by
        rw [Nat.min_eq_left (by omega)]
        simp
      have body : Telegram.body { kind := k, node := nd, seq := q, payload := rest.take n.toNat }
          = k :: nd :: q :: n :: rest.take n.toNat := by
        simp [Telegram.body, length]
      rw [if_pos sized, body]
      split
      · simp_all
        omega
      · simp_all
    · rw [if_neg sized]
      simp only [true_iff]
      omega

/-! ### What a telegram decodes to (R4, R5) -/

/-- A report that a telegram spells is one (Table 1-2). -/
theorem isSome_encode_of_decodeReport {t : Telegram} {c : Instr} (h : decodeReport t = some c) :
    (encodeTelegram c).isSome = true := by
  unfold decodeReport at h
  dsimp only at h
  split at h
  case h_18 => cases h
  all_goals
    split at h
    · cases h
      rfl
    · cases h

theorem isSome_encode_decodeTableWrite (q table index mask : Nat) (values : List Byte) :
    (encodeTelegram (decodeTableWrite q table index mask values)).isSome = true := by
  unfold decodeTableWrite
  split
  all_goals first | rfl | (split <;> first | rfl | (split <;> first | rfl | (split <;> rfl)))

theorem isSome_encode_of_decodeFrameCmd {q : Nat} {p : List Byte} {c : Instr} (h : decodeFrameCmd q p = some c) :
    (encodeTelegram c).isSome = true := by
  unfold decodeFrameCmd at h
  split at h
  · cases h
  · split at h
    · split at h
      · cases h
        rfl
      · cases h
    · split at h
      · split at h <;> cases h <;> rfl
      · cases h

theorem isSome_encode_of_decodeManagement {t : Telegram} {c : Instr} (h : decodeManagement t = some c) :
    (encodeTelegram c).isSome = true := by
  unfold decodeManagement at h
  dsimp only at h
  split at h
  case h_9 => exact isSome_encode_of_decodeFrameCmd h
  case h_12 => cases h
  case h_1 =>
    split at h
    · cases h
      exact isSome_encode_decodeTableWrite _ _ _ _ _
    · cases h
  all_goals
    split at h
    · cases h
      rfl
    · cases h

/-- A telegram that passes the receive check spells no check error. -/
theorem decodeTelegram_ne_checkError {port : Port} {bytes : List Byte} {t : Telegram} (h : Telegram.parse bytes = some t) :
    decodeTelegram port bytes ≠ .checkError port bytes := by
  have spelled : ∀ {o : Option Instr}, (∀ c, o = some c → (encodeTelegram c).isSome = true) → ∀ port',
      o.getD (.malformed port' bytes) ≠ .checkError port bytes := fun {o} ho port' e => by
    cases o with
    | none => cases e
    | some c =>
      have := ho c rfl
      rw [show c = .checkError port bytes from e] at this
      cases this
  unfold decodeTelegram
  rw [h]
  dsimp only
  split
  · exact spelled (fun c => isSome_encode_of_decodeReport) _
  · nofun
  · nofun
  · split
    · split
      · exact spelled (fun c => isSome_encode_of_decodeManagement) _
      · nofun
    · split <;> nofun

end Sys2Proof

namespace Sys2Proof.Machine

/-- Settles O5: only what the receive check refuses spells a check error. -/
theorem checkErrorExactly : Obligations.CheckErrorExactly := by
  intro port bytes
  rw [← Telegram.parse_eq_none]
  constructor
  · intro h
    cases e : Telegram.parse bytes with
    | none => rfl
    | some t => exact absurd h (decodeTelegram_ne_checkError e)
  · intro h
    unfold decodeTelegram
    rw [h]

end Sys2Proof.Machine
end

section
/-! A telegram laid out for a command spells that command again (Tables 1-1 and 1-2, R5). -/

namespace Sys2Proof

/-- The layout of a report spells it again (Table 1-2). -/
theorem decodeReport_of_encode {i : Instr} {t : Telegram} (port : i.port = .floor) (wf : i.wf = true)
    (h : encodeTelegram i = some t) : decodeReport t = some i := by
  cases i
  case sideState n q sd first count bits =>
    cases h
    simp only [Instr.wf, headerWf, Bool.and_eq_true, decide_eq_true_eq, beq_iff_eq] at wf
    obtain ⟨⟨⟨⟨⟨⟨hn, hq⟩, hsd⟩, hfirst⟩, low⟩, high⟩, sized⟩ := wf
    have counted : field (beBytes 1 sd ++ (beBytes 2 first ++ (beBytes 2 count ++ bits))) 3 2 = count := by
      rw [field_behind _ _ _ _ _ (by omega), field_behind _ _ _ _ _ (by omega), field_head _ (by omega)]
    have shown : (beBytes 1 sd ++ (beBytes 2 first ++ (beBytes 2 count ++ bits))).drop 5 = bits := by
      rw [← List.append_assoc, ← List.append_assoc]
      exact List.drop_left' (by simp [beBytes_length])
    simp (disch := omega) [decodeReport, telegram, List.append_assoc, counted, shown, low, high, sized, beBytes_length,
      field_head, field_behind]
    omega
  all_goals first | (cases port; done) | skip
  all_goals
    cases h
    simp only [Instr.wf, headerWf, Bool.and_eq_true, decide_eq_true_eq] at wf
    simp (disch := omega) [decodeReport, telegram, List.append_assoc, beBytes_length, field_head, field_whole, field_behind]
    omega

/-! ### Table writes (log 12) -/

/-- The layout of a TABLE-WRITE is read field by field. -/
theorem decodeManagement_tableWriteTelegram {q table index mask : Nat} (values : List Byte) (hq : q < 256) (ht : table < 256)
    (hi : index < 256) (hm : mask < 65536) :
    decodeManagement (tableWriteTelegram q table index mask values) = some (decodeTableWrite q table index mask values) := by
  have rest : (beBytes 1 table ++ (beBytes 1 index ++ (beBytes 2 mask ++ values))).drop 4 = values := by
    rw [← List.append_assoc, ← List.append_assoc]
    exact List.drop_left' (by simp [beBytes_length])
  simp (disch := omega) [decodeManagement, tableWriteTelegram, telegram, List.append_assoc, rest, beBytes_length, field_head,
    field_behind]
  rw [Nat.mod_eq_of_lt hq]
  exact ⟨by omega, rfl⟩

theorem writesFirst_succ {mask : Nat} (even : mask % 2 = 0) (b : Byte) (values : List Byte) (v : Nat) :
    writesFirst (mask + 1) (b :: values) v = (b.toNat == v) := by
  simp [writesFirst, Nat.testBit_zero]
  omega

theorem writesFirst_two (values : List Byte) (v : Nat) : writesFirst 2 values v = false := by
  simp [writesFirst, Nat.testBit_zero]

/-- A write that does not write `enabled` as 0 or 1 has no row of its own. -/
theorem writesFirst_of_not_writesEnabled {mask : Nat} {values : List Byte} (h : writesEnabled mask values = false) :
    writesFirst mask values 0 = false ∧ writesFirst mask values 1 = false := by
  cases values with
  | nil => simp [writesFirst]
  | cons b rest =>
    simp [writesEnabled, writesFirst, Nat.testBit_zero, ← BitVec.toNat_inj] at h ⊢
    exact ⟨fun odd => (h odd).1, fun odd => (h odd).2⟩

/-- The writes of tables 3 to 5 without a row of their own, and those of tables that do not exist. -/
theorem decodeTableWrite_other {q table index mask : Nat} {values : List Byte}
    (h : (table = 3 ∧ ¬(mask = 2 ∧ values.length = 1) ∧ writesEnabled mask values = false)
      ∨ (table = 4 ∧ ¬(mask = 2 ∧ values.length = 6) ∧ writesEnabled mask values = false)
      ∨ (table = 5 ∧ writesEnabled mask values = false) ∨ 8 ≤ table) :
    decodeTableWrite q table index mask values = .tableWrite q table index mask values := by
  obtain ⟨rfl, alone, other⟩ | ⟨rfl, alone, other⟩ | ⟨rfl, other⟩ | large := h
  · simp [decodeTableWrite, alone, writesFirst_of_not_writesEnabled other]
  · simp [decodeTableWrite, alone, writesFirst_of_not_writesEnabled other]
  · simp [decodeTableWrite, writesFirst_of_not_writesEnabled other]
  · obtain ⟨n, rfl⟩ : ∃ n, table = n + 8 := ⟨table - 8, by omega⟩
    rfl

/-- The layout of a management telegram spells it again (Table 1-2, R5). -/
theorem decodeManagement_of_encode {i : Instr} {t : Telegram} (port : i.port = .uplink) (wf : i.wf = true)
    (h : encodeTelegram i = some t) : decodeManagement t = some i := by
  cases i
  all_goals first | (cases port; done) | (cases h; done) | skip
  case frameEnable | robotEnable | dofferEnable | carrierEnable | frameDisable | robotDisable | dofferDisable
      | carrierDisable =>
    cases h
    simp only [Instr.wf, writeRestWf, writeWf, Bool.and_eq_true, decide_eq_true_eq, beq_iff_eq] at wf
    rw [decodeManagement_tableWriteTelegram _ (by omega) (by omega) (by omega) (by omega)]
    simp [decodeTableWrite, writesFirst_succ, wf]
    try omega
  case articleTableWrite | zoneTableWrite | lineSettingsWrite | dispositionTableWrite =>
    cases h
    simp only [Instr.wf, writeWf, Bool.and_eq_true, decide_eq_true_eq] at wf
    rw [decodeManagement_tableWriteTelegram _ (by omega) (by omega) (by omega) (by omega)]
    rfl
  case frameTableWrite =>
    cases h
    simp only [Instr.wf, writeWf, Bool.and_eq_true, decide_eq_true_eq, Bool.not_eq_true'] at wf
    rw [decodeManagement_tableWriteTelegram _ (by omega) (by omega) (by omega) (by omega)]
    simp [decodeTableWrite, writesFirst_of_not_writesEnabled wf.2]
  case robotZoneChange | dofferReachWrite =>
    cases h
    simp only [Instr.wf, Bool.and_eq_true, decide_eq_true_eq] at wf
    rw [decodeManagement_tableWriteTelegram _ (by omega) (by omega) (by omega) (by omega)]
    simp [decodeTableWrite, beBytes_length, beNat_beBytes]
    omega
  case tableWrite =>
    cases h
    simp only [Instr.wf, writeWf, Bool.and_eq_true, decide_eq_true_eq, Bool.or_eq_true, beq_iff_eq] at wf
    rw [decodeManagement_tableWriteTelegram _ (by omega) (by omega) (by omega) (by omega)]
    rw [decodeTableWrite_other (by simpa [← not_and_or, and_assoc, or_assoc] using wf.2)]
  case hold | resume | doffNow | groupLoaded =>
    cases h
    simp only [Instr.wf, Bool.and_eq_true, Bool.or_eq_true, decide_eq_true_eq, beq_iff_eq] at wf
    simp (disch := omega) [decodeManagement, decodeFrameCmd, telegram, List.append_assoc, beBytes_length,
      field_head, field_whole, field_behind]
    try omega
  all_goals
    cases h
    simp only [Instr.wf, Bool.and_eq_true, decide_eq_true_eq] at wf
    simp (disch := omega) [decodeManagement, telegram, List.append_assoc, beBytes_length, field_head, field_whole, field_behind]
    omega

/-! ### What an encoded command's telegram is -/

theorem length_payload_of_encode {i : Instr} {t : Telegram} (wf : i.wf = true) (h : encodeTelegram i = some t) :
    t.payload.length ≤ 40 := by
  cases i
  all_goals first | (cases h; done) | skip
  all_goals
    cases h
    simp [Instr.wf, writeRestWf, writeWf, bitBytes] at wf
    simp [telegram, tableWriteTelegram, beBytes_length]
    try omega

theorem kindDir_of_encode {i : Instr} {t : Telegram} (h : encodeTelegram i = some t) :
    kindDir t.kind.toNat = some (Laws.Telegrams.portDir i.port) := by
  cases i
  all_goals first | (cases h; done) | skip
  all_goals
    cases h
    rfl

theorem node_of_encode {i : Instr} {t : Telegram} (port : i.port = .uplink) (h : encodeTelegram i = some t) :
    t.node.toNat = partNode := by
  cases i
  all_goals first | (cases h; done) | (cases port; done) | skip
  all_goals
    cases h
    rfl

/-- Settles O6: the receive check passes, then the kind's direction and the layout give the command back. -/
theorem Machine.decodeInvertsEncode : Obligations.DecodeInvertsEncode := by
  intro i t wf h
  have dir := kindDir_of_encode h
  rw [decodeTelegram, Telegram.parse_bytes t (length_payload_of_encode wf h)]
  cases port : i.port with
  | floor =>
    rw [port] at dir
    simp only [dir, Laws.Telegrams.portDir, decodeReport_of_encode port wf h]
    rfl
  | uplink =>
    rw [port] at dir
    simp only [dir, Laws.Telegrams.portDir, node_of_encode port h, decodeManagement_of_encode port wf h]
    rfl

end Sys2Proof
end

section
/-! Discards (R15), and the part that waits for its line reset (R35, R189). -/

namespace Sys2Proof.Machine

variable {s : State}

/-- Every report and management telegram is heard by no unit once a line reset has begun (R2, R189; log 45). -/
theorem exec_begun (h : s.store.resetWait = some 0) {c : Instr} (telegram : (encodeTelegram c).isSome = true) :
    exec c s = .next s := by
  have deaf : ¬s.Hears := fun hears => hears.2 h
  have waits : s.store.resetWait.isSome = true := by rw [h]; rfl
  cases c
  all_goals first | (cases telegram; done) | skip
  case delivery | breakReport | runReport | sideState | stopped | robotReady | robotPos | pieced | notPieced | robotLeft
      | dofferReady | doffDone | dofferFault | carrierReady | arrived | changeDone | carrierFault =>
    exact congrArg Host.Outcome.next (State.hears_deaf _ deaf)
  all_goals exact congrArg Host.Outcome.next (State.management_waiting waits)

/-- A check error is counted under its port (R3). -/
theorem exec_checkError {port : Port} {bytes : List Byte} (h : s.Hears) (bad : Telegram.parse bytes = none) :
    exec (.checkError port bytes) s = .next (s.countCheckError port) := by
  show execCheckError port bytes s = _
  rw [execCheckError, State.hears_taken _ h, received, bad]
  rfl

theorem exec_malformed {port : Port} {bytes : List Byte} {t : Telegram} (h : s.Hears) (parsed : Telegram.parse bytes = some t)
    (spelled : decodeTelegram port bytes = .malformed port bytes) :
    exec (.malformed port bytes) s = .next (s.discardMalformed port t) := by
  show execMalformed port bytes s = _
  simp only [execMalformed, State.hears_taken _ h, received, parsed, spelled]

/-- The direction of each kind code (Table 1-2). -/
theorem kindDir_iff (n : Nat) :
    (kindDir n = some .floorUp ↔
        (1 ≤ n ∧ n ≤ 5) ∨ (0x10 ≤ n ∧ n ≤ 0x14) ∨ (0x18 ≤ n ∧ n ≤ 0x1A) ∨ (0x1C ≤ n ∧ n ≤ 0x1F))
      ∧ (kindDir n = some .floorDown ↔ 0x20 ≤ n ∧ n ≤ 0x30 ∧ n ≠ 0x27)
      ∧ (kindDir n = some .millDown ↔ 0x40 ≤ n ∧ n ≤ 0x4A) ∧ (kindDir n = some .millUp ↔ 0x60 ≤ n ∧ n ≤ 0x62) := by
  unfold kindDir
  split_ifs <;> simp <;> omega

theorem kindDir_millDown_iff (n : Nat) : kindDir n = some .millDown ↔ 0x40 ≤ n ∧ n ≤ 0x4A := (kindDir_iff n).2.2.1

/-- A malformed telegram is counted; the length fault of a management telegram is answered (R4, R5). -/
theorem State.discardMalformed_eq (port : Port) (t : Telegram) :
    s.discardMalformed port t =
      if port = .uplink ∧ t.node = 0xFF#8 ∧ 0x40 ≤ t.kind.toNat ∧ t.kind.toNat ≤ 0x4A ∧ s.store.resetWait = none then
        s.countMalformed.offerUp (replyTelegram t.seq.toNat .badLength 0 [])
      else s.countMalformed := by
  have node : t.node.toNat = partNode ↔ t.node = 0xFF#8 := by
    rw [← BitVec.toNat_inj]
    rfl
  have waits : s.countMalformed.takesManagement = true ↔ s.store.resetWait = none := by
    simp [State.takesManagement, State.countMalformed]
  simp only [State.discardMalformed, node, waits, kindDir_millDown_iff, and_assoc]
  rfl

/-- Settles O7: counters and flags by the rule of each, then the discards heard, then those of a part that hears nothing. -/
theorem discardsAreCounted : Obligations.DiscardsAreCounted := by
  refine ⟨fun s => ⟨fun c d => ?_, fun c => rfl, rfl, rfl, rfl, rfl, rfl⟩, fun port bytes s h bad => ?_,
    fun port bytes t s h parsed spelled => ?_, fun port bytes c s begun => ?_⟩
  · exact State.counter_bump s c d
  · refine ⟨_, exec_checkError h bad, fun c => ?_, ?_, rfl⟩
    · cases port
      · exact State.counter_bump s _ c
      · exact State.counter_bump s _ c
    · rfl
  · rw [exec_malformed h parsed spelled, State.discardMalformed_eq]
  · have deaf : ¬s.Hears := fun hears => hears.2 begun
    exact ⟨congrArg _ (State.hears_deaf _ deaf), congrArg _ (State.hears_deaf _ deaf), congrArg _ (State.hears_deaf _ deaf),
      congrArg _ (State.hears_deaf _ deaf), congrArg _ (State.hears_deaf _ deaf), exec_begun begun⟩

end Sys2Proof.Machine
end

section
/-! What the checks of R4 to R8 decide, and the telegrams that no unit takes (R6, R9, R11). -/

namespace Sys2Proof.Machine

variable {s : State}

/-! ### Kinds and nodes (Tables 0-1 and 1-2) -/

theorem isFloorNode_iff (n : Nat) : isFloorNode n = true ↔
    n ≤ 0x2F ∨ (0x40 ≤ n ∧ n ≤ 0x4B) ∨ (0x50 ≤ n ∧ n ≤ 0x57) ∨ (0x58 ≤ n ∧ n ≤ 0x5F) := by
  simp [isFloorNode, or_assoc]

theorem relayNodeOk_floor (n : Nat) : relayNodeOk .floor n = isFloorNode n := by
  simp [relayNodeOk]

theorem relayNodeOk_uplink_iff (node : Byte) :
    relayNodeOk .uplink node.toNat = true ↔ isFloorNode node.toNat = true ∨ node = 0x7F#8 := by
  simp [relayNodeOk, floorBroadcast, ← BitVec.toNat_inj]

/-- A kind that spells a report is a report's kind. -/
theorem kindDir_of_decodeReport {t : Telegram} {c : Instr} (h : decodeReport t = some c) :
    kindDir t.kind.toNat = some .floorUp := by
  unfold decodeReport at h
  dsimp only at h
  split at h
  case h_18 => cases h
  all_goals
    rename_i kind
    rw [kind]
    rfl

/-! ### The checks of a report (R5 to R7) -/

theorem State.frameEnabled_iff (n : Nat) :
    s.frameEnabled n = true ↔ n ≤ 47 ∧ (s.store.frames.get (Fin.ofNat 48 n)).enabled = 1 := by
  unfold State.frameEnabled
  split
  next h =>
    have same : Fin.ofNat 48 n = ⟨n, h⟩ := Fin.ext (Nat.mod_eq_of_lt h)
    simp only [same, State.enabled, State.entry, beq_iff_eq]
    exact ⟨fun e => ⟨by omega, e⟩, And.right⟩
  next h =>
    simp
    omega

theorem FrameEntry.length_sideAt (e : FrameEntry) (sd : Nat) :
    e.length (sideAt sd) = if sd = 0 then e.lengthA else e.lengthB := by
  unfold sideAt
  split <;> rfl

theorem FrameEntry.spindleOk_iff (e : FrameEntry) (sd i : Nat) :
    e.spindleOk sd i = true ↔ sd ≤ 1 ∧ i < if sd = 0 then e.lengthA else e.lengthB := by
  simp [FrameEntry.spindleOk, FrameEntry.length_sideAt]

theorem FrameEntry.hasGroup_iff (e : FrameEntry) (g : Nat) :
    e.hasGroup g = true ↔ (g < 16 ∧ g < e.groupCount .A) ∨ (16 ≤ g ∧ g < 16 + e.groupCount .B) := by
  rw [FrameEntry.hasGroup, Bool.or_eq_true, decide_eq_true_eq, decide_eq_true_eq]

theorem State.frameFieldOk_iff (f sd i : Nat) :
    s.frameFieldOk f sd i = true ↔ s.frameEnabled f = true ∧ (s.entry (frameAt f)).spindleOk sd i = true := by
  simp [State.frameFieldOk]

/-- The verdict of a report is that of the first check that fails (R8). -/
theorem State.verdict_eq {c : Instr} {lengthOk nodeOk fieldsOk : Prop} (hl : reportLengthOk c = true ↔ lengthOk)
    (hn : s.nodeOk c = true ↔ nodeOk) (hf : s.fieldsOk c = true ↔ fieldsOk) :
    (¬lengthOk → s.verdict c = .malformed) ∧ (lengthOk → ¬nodeOk → s.verdict c = .unknownNode)
      ∧ (lengthOk → nodeOk → ¬fieldsOk → s.verdict c = .malformed)
      ∧ (lengthOk → nodeOk → fieldsOk → s.verdict c = .accepted) := by
  rw [← hl, ← hn, ← hf]
  unfold State.verdict
  refine ⟨fun a => ?_, fun a b => ?_, fun a b d => ?_, fun a b d => ?_⟩ <;> simp_all

/-- A report that fails a check is discarded by its own row (R8). -/
theorem exec_report_discard {c : Instr} (port : c.port = .floor) (h : s.Hears) :
    (s.verdict c = .unknownNode → exec c s = .next s.countUnknownNode)
      ∧ (s.verdict c = .malformed → exec c s = .next s.countMalformed) := by
  cases c
  all_goals first | (cases port; done) | skip
  all_goals exact ⟨fun v => congrArg Host.Outcome.next (State.report_unknownNode h v),
    fun v => congrArg Host.Outcome.next (State.report_malformed h v)⟩

/-! ### Bytes that name no unit's command (log 9) -/

theorem exec_unknownNode_relay {port : Port} {bytes : List Byte} {t : Telegram} (h : s.Hears)
    (parsed : Telegram.parse bytes = some t)
    (spelled : (decodeTelegram port bytes = .floorMaintenance bytes ∧ isFloorNode t.node.toNat = false)
      ∨ (decodeTelegram port bytes = .downTelegram bytes ∧ isFloorNode t.node.toNat = false ∧ t.node ≠ 0x7F#8)) :
    exec (.unknownNode port bytes) s = .next s.countUnknownNode := by
  show execUnknownNode port bytes s = _
  rw [execUnknownNode, State.hears_taken _ h, received, parsed]
  obtain ⟨spells, node⟩ | ⟨spells, node, other⟩ := spelled
  · simp [spells, relayNodeOk_floor, node]
  · simp [spells, relayNodeOk_uplink_iff, node, other]

theorem exec_unknownNode_report {bytes : List Byte} {t : Telegram} (h : s.Hears) (parsed : Telegram.parse bytes = some t)
    (report : (decodeReport t).isSome = true) (v : s.verdict (decodeTelegram .floor bytes) = .unknownNode) :
    exec (.unknownNode .floor bytes) s = .next s.countUnknownNode := by
  obtain ⟨c, spelled⟩ := Option.isSome_iff_exists.mp report
  have decoded : decodeTelegram .floor bytes = c := by
    simp only [decodeTelegram, parsed, kindDir_of_decodeReport spelled, spelled]
    rfl
  show execUnknownNode .floor bytes s = _
  rw [execUnknownNode, State.hears_taken _ h, received, parsed]
  rw [decoded] at v ⊢
  have telegram := isSome_encode_of_decodeReport spelled
  dsimp only
  split
  · cases telegram
  · cases telegram
  · exact congrArg _ (if_pos ⟨rfl, report, v⟩)

theorem exec_floorMaintenance {bytes : List Byte} {t : Telegram} (h : s.Hears) (parsed : Telegram.parse bytes = some t)
    (unknown : kindDir t.kind.toNat = none) :
    exec (.floorMaintenance bytes) s =
      .next (if isFloorNode t.node.toNat = true then s.copyTelegram t else s.countUnknownNode) := by
  show execFloorMaintenance bytes s = _
  rw [execFloorMaintenance, State.hears_taken _ h, received, parsed]
  simp only [unknown, relayNodeOk_floor, ne_eq, not_true_eq_false, if_false]

theorem isDown_of_kindDir {t : Telegram} (down : kindDir t.kind.toNat ≠ some .millDown)
    (up : kindDir t.kind.toNat ≠ some .millUp) (node : t.node ≠ 0xFF#8) : isDown t = true := by
  have other : t.node.toNat ≠ partNode := fun e => node (BitVec.eq_of_toNat_eq e)
  unfold isDown
  rw [Bool.and_eq_true, bne_iff_ne]
  refine ⟨other, ?_⟩
  split
  · contradiction
  · contradiction
  · rfl

theorem exec_downTelegram {bytes : List Byte} {t : Telegram} (h : s.Hears) (parsed : Telegram.parse bytes = some t)
    (down : isDown t = true) :
    exec (.downTelegram bytes) s =
      .next (if relayNodeOk .uplink t.node.toNat = true then s.relayDown t else s.countUnknownNode) := by
  show execDownTelegram bytes s = _
  rw [execDownTelegram, State.hears_taken _ h, received, parsed]
  simp only [down, Bool.not_true, Bool.false_eq_true, if_false]

/-- Settles O8. -/
theorem untakenTelegrams : Obligations.UntakenTelegrams := by
  refine ⟨fun n => ?_,
    fun c t s e => ?_, fun c s => ?_, fun c s port h => exec_report_discard port h, fun port bytes t s h parsed spelled => ?_,
    fun bytes t s h parsed => ⟨fun unknown => ?_, fun down up => ⟨fun node => ?_, fun node other own => ?_⟩⟩⟩
  · obtain ⟨floorUp, floorDown, millDown, millUp⟩ := kindDir_iff n
    exact ⟨floorUp, floorDown, millDown, millUp, isFloorNode_iff n⟩
  · rw [State.copyReport, e]
    rfl
  · intro runs has hasGroup lengthOk nodeOk fieldsOk
    have runs_iff : ∀ n, s.frameEnabled n = true ↔ runs n := fun n => State.frameEnabled_iff n
    have has_iff : ∀ n sd i, (s.entry (frameAt n)).spindleOk sd i = true ↔ has n sd i := fun n sd i =>
      FrameEntry.spindleOk_iff _ sd i
    have field_iff : ∀ n sd i, s.frameFieldOk n sd i = true ↔ runs n ∧ has n sd i := fun n sd i => by
      rw [State.frameFieldOk_iff, runs_iff, has_iff]
    have group_iff : ∀ n g, (s.entry (frameAt n)).hasGroup g = true ↔ hasGroup n g := fun n g => FrameEntry.hasGroup_iff _ g
    refine State.verdict_eq ?_ ?_ ?_
    · cases c
      case sideState => simp [reportLengthOk, lengthOk, bitBytes, and_assoc]
      all_goals exact iff_of_true rfl trivial
    · cases c
      case delivery | breakReport | runReport | sideState | stopped => exact runs_iff _
      case robotReady | robotPos | pieced | notPieced | robotLeft => simp [State.nodeOk, State.robotOk, nodeOk, and_assoc]
      case dofferReady | doffDone | dofferFault => simp [State.nodeOk, State.dofferOk, nodeOk, and_assoc]
      case carrierReady | arrived | changeDone | carrierFault => simp [State.nodeOk, State.carrierOk, nodeOk, and_assoc]
      all_goals exact iff_of_false Bool.false_ne_true id
    · cases c
      case breakReport | runReport => exact has_iff _ _ _
      case sideState => simp [State.fieldsOk, fieldsOk, FrameEntry.length_sideAt, State.entry, frameAt]
      case robotReady | robotPos | carrierReady => simp [State.fieldsOk, fieldsOk]
      case pieced => exact field_iff _ _ _
      case notPieced => simp [State.fieldsOk, fieldsOk, field_iff, and_assoc]
      case doffDone => exact runs_iff _
      case arrived | changeDone => simp [State.fieldsOk, fieldsOk, runs_iff, group_iff]
      all_goals exact iff_of_true rfl trivial
  · obtain relay | relay | ⟨rfl, report, v⟩ := spelled
    · exact exec_unknownNode_relay h parsed (.inl relay)
    · exact exec_unknownNode_relay h parsed (.inr relay)
    · exact exec_unknownNode_report h parsed report v
  · rw [exec_floorMaintenance h parsed unknown]
    exact ⟨fun node => by rw [if_pos node]; rfl, fun node => by rw [node]; rfl⟩
  · have own : t.node ≠ 0xFF#8 := by
      rintro own
      rw [own] at node
      revert node
      decide
    rw [exec_downTelegram h parsed (isDown_of_kindDir down up own), if_pos ((relayNodeOk_uplink_iff _).mpr node)]
    rfl
  · rw [exec_downTelegram h parsed (isDown_of_kindDir down up own), if_neg]
    rw [relayNodeOk_uplink_iff]
    simp [node, other]

end Sys2Proof.Machine
end

section
/-! The transmit queues and what the part sends (R12 to R14, R36). -/

namespace Sys2Proof

theorem beBytes_one (v : Nat) : beBytes 1 v = [BitVec.ofNat 8 v] := by
  simp [beBytes]

/-- The byte at place `j` is the digit of its weight (R1). -/
theorem getD_beBytes {n j : Nat} (v : Nat) (h : j < n) : (beBytes n v).getD j 0 = BitVec.ofNat 8 (v / 256 ^ (n - 1 - j)) := by
  induction n generalizing j with
  | zero => omega
  | succ n ih =>
    cases j with
    | zero => rfl
    | succ j =>
      rw [beBytes, List.getD_cons_succ, ih (by omega)]
      congr 3
      omega

end Sys2Proof

namespace Sys2Proof.Machine

variable {s : State}

theorem replyTelegram_eq (seq fieldNo : Nat) (data : List Byte) (result : Result) :
    replyTelegram seq result fieldNo data =
      { kind := 0x60#8, node := 0xFF#8, seq := BitVec.ofNat 8 seq,
        payload := BitVec.ofNat 8 result.code :: BitVec.ofNat 8 fieldNo :: data } := by
  simp only [replyTelegram, beBytes_one]
  rfl

theorem Side.code_eq (side : Side) : side.code = if side = .A then 0 else 1 := by
  cases side <;> rfl

/-- A part command that finds the floor queue full is counted and flagged, and nothing of it is kept (R13). -/
theorem State.sendFloor_full {node kind : Nat} {payload : List Byte} (h : 64 ≤ s.link.floorQueue.length) :
    s.sendFloor node kind payload =
      (State.bump .partLossFloor { s with link := { s.link with floorSeq := s.link.floorSeq + 1 } }).latch .partLoss :=
  if_neg (Nat.not_lt.mpr h)

theorem State.sendFloor_room {node kind : Nat} {payload : List Byte} (h : s.link.floorQueue.length < 64) :
    s.sendFloor node kind payload =
      { s with link := { s.link with
          floorSeq := s.link.floorSeq + 1
          floorQueue := s.link.floorQueue ++
            [{ kind := BitVec.ofNat 8 kind, node := BitVec.ofNat 8 node, seq := s.link.floorSeq, payload }] } } :=
  if_pos h

/-- The sequence counter of the floor port advances with every part command (R12). -/
theorem State.floorSeq_sendFloor (node kind : Nat) (payload : List Byte) :
    (s.sendFloor node kind payload).link.floorSeq = s.link.floorSeq + 1 := by
  obtain room | full := Nat.lt_or_ge s.link.floorQueue.length 64
  · rw [State.sendFloor_room room]
  · rw [State.sendFloor_full full]
    rfl

theorem sendAlarm_eq (a : Alarm) :
    sendAlarm a s = s.sendUp 0x61
      ([BitVec.ofNat 8 a.kind.code, BitVec.ofNat 8 a.cls] ++ beBytes 2 a.index ++ beBytes 2 a.detail) := by
  simp only [sendAlarm, beBytes_one]
  rfl

/-- The end of a transmission, while the part runs (R14). -/
theorem exec_transmitComplete_uplink (h : s.power = .on) :
    exec (.transmitComplete .uplink) s =
      .next (if s.link.upQueue.isEmpty then s else (s.setUpQueue s.link.upQueue.tail).replySent) :=
  congrArg Host.Outcome.next (if_pos h)

theorem State.replySent_idle (h : s.store.resetWait = none ∨ s.store.resetWait = some 0) : s.replySent = s := by
  obtain h | h := h <;> simp [State.replySent, h]

theorem State.setUpQueue_tail_nil (h : s.link.upQueue = []) : s.setUpQueue s.link.upQueue.tail = s := by
  rw [State.setUpQueue, h, List.tail_nil, ← h]

/-- Settles O9: each clause is the definition of its operation, at both sides of each bound. -/
theorem transmitQueues : Obligations.TransmitQueues := by
  refine ⟨fun n v => ⟨beBytes_length n v, fun j => getD_beBytes v⟩, replyTelegram_eq, rfl,
    fun f side i rpm position k a d c g node s => ?_, fun t s => ⟨rfl, rfl, rfl, rfl, fun x => ⟨rfl, Iff.rfl, rfl⟩⟩,
    fun node kind payload s => ⟨State.floorSeq_sendFloor node kind payload, fun room => ?_, fun full => ?_⟩,
    fun kind payload s => ⟨fun room => if_pos room, fun full => if_neg (Nat.not_lt.mpr full)⟩, rfl, rfl,
    fun kind cls index detail s => ?_, fun s on => ⟨?_, fun empty => ?_, fun idle => ?_, fun n tel rest waits queue => ?_⟩⟩
  · simp only [sendSpeed, sendStopDoff, sendRestart, sendHoldFrame, sendRovingStop, sendRovingFree, sendStateRequest,
      sendAssign, sendAbandon, sendMove, sendLeave, sendDoffGo, sendDoffCancel, sendCarrierGo, sendChangeGo, sendCarrierAbort,
      robotNode, dofferNode, carrierNode, beBytes_one, Side.code_eq, List.cons_append, List.nil_append, Option.map_some, Option.map_none,
      Option.getD_some, Option.getD_none, and_self]
  · rw [State.sendFloor_room room]
  · rw [State.sendFloor_full full]
    refine ⟨rfl, ?_, State.flagSet_latch _ _⟩
    rw [State.counter_latch, State.counter_bump, if_pos rfl]
    rfl
  · unfold State.alarm
    simp only [sendAlarm_eq]
    rfl
  · exact congrArg Host.Outcome.next (if_pos on)
  · rw [exec_transmitComplete_uplink on, empty]
    rfl
  · rw [exec_transmitComplete_uplink on]
    cases queue : s.link.upQueue with
    | nil =>
      have same := State.setUpQueue_tail_nil queue
      rw [queue] at same
      exact congrArg Host.Outcome.next same.symm
    | cons tel rest => exact congrArg Host.Outcome.next (State.replySent_idle idle)
  · rw [exec_transmitComplete_uplink on, queue]
    simp only [State.replySent, State.setUpQueue, waits]
    rfl

end Sys2Proof.Machine
end

section
/-! Masked writes that pass the checks of form: stored, or answered with what they break (R18, R20 to R29, R10). -/

namespace Sys2Proof.Machine

variable {s : State}

/-! ### The checks of a write (R18) -/

/-- A mask below the first bit that the table has no field for selects fields alone (R18 step 3). -/
theorem badMaskField_eq_none {n mask : Nat} (h : mask < 2 ^ n) : badMaskField n mask = none := by
  simp only [badMaskField, Option.map_eq_none_iff, List.find?_eq_none, Bool.and_eq_true, decide_eq_true_eq, not_and,
    Bool.not_eq_true]
  intro k _ above
  exact Nat.testBit_lt_two_pow (h.trans_le (Nat.pow_le_pow_right (by omega) above))

/-- A write without a fault of form goes on with the entry that results (R18 step 6). -/
theorem State.maskedWrite_formed {seq mask : Nat} {widths old : List Nat} {values : List Byte} {rest : List Nat → State → State}
    (h : mask ≠ 0 ∧ mask < 2 ^ widths.length ∧ values.length = selectedWidth mask 0 widths) :
    s.maskedWrite seq widths old mask values rest = rest (overlay mask 0 widths old values) s := by
  obtain ⟨some, fits, sized⟩ := h
  simp only [State.maskedWrite, badMaskField_eq_none fits, sized, ne_eq, not_true_eq_false, if_false, some]

/-- The lowest condition that fails is the one that the reply names (R18 step 6). -/
theorem firstFailing_of_lowest {conds : List Bool} {n : Nat}
    (h : n < conds.length ∧ conds.getD n true = false ∧ ∀ j, j < n → conds.getD j true = true) :
    firstFailing conds = some (n + 1) := by
  obtain ⟨small, fails, before⟩ := h
  have found : conds.findIdx? (fun ok => !ok) = some n := by
    rw [List.findIdx?_eq_some_iff_getElem]
    refine ⟨small, ?_, fun j lower => ?_⟩
    · rw [← List.getD_eq_getElem _ true, fails]
      rfl
    · rw [← List.getD_eq_getElem _ true, before j lower]
      decide
  rw [firstFailing, found]
  rfl

theorem State.judgeWrite_inUse (seq : Nat) (conds : List Bool) (badState : Bool) (commit : State → State) :
    s.judgeWrite seq true conds badState commit = s.offerUp (replyTelegram seq .inUse 0 []) := rfl

theorem State.judgeWrite_passes {seq : Nat} {conds : List Bool} {commit : State → State} (h : ∀ b ∈ conds, b = true) :
    s.judgeWrite seq false conds false commit = (commit s).offerUp (replyTelegram seq .ok 0 []) := by
  simp only [State.judgeWrite, firstFailing_eq_none.mpr h, Bool.false_eq_true, if_false]
  rfl

theorem State.judgeWrite_fails {seq n : Nat} {conds : List Bool} {badState : Bool} {commit : State → State}
    (h : n < conds.length ∧ conds.getD n true = false ∧ ∀ j, j < n → conds.getD j true = true) :
    s.judgeWrite seq false conds badState commit = s.offerUp (replyTelegram seq .badValue (n + 1) []) := by
  simp only [State.judgeWrite, firstFailing_of_lowest h, Bool.false_eq_true, if_false]
  rfl

/-! ### The write of each table, past its checks of form -/

theorem exec_frameTableWrite_formed {seq mask : Nat} {values : List Byte} {f : FrameId} (h : s.Manages)
    (form : mask ≠ 0 ∧ mask < 2 ^ frameWidths.length ∧ values.length = selectedWidth mask 0 frameWidths) :
    let e := FrameEntry.ofFields (overlay mask 0 frameWidths (s.entry f).fields values)
    exec (.frameTableWrite seq f.val mask values) s = .next
      (s.judgeWrite seq (s.enabled f && locksFrame mask) (s.frameConds e)
        ((s.entry f).enabled == 1 && e.enabled == 0 && s.frameState f == .doffing) (State.commitFrame f e)) := by
  refine congrArg Host.Outcome.next ((State.management_taken h).trans ?_)
  exact (dif_pos f.isLt).trans (State.maskedWrite_formed form)

theorem exec_articleTableWrite_formed {seq mask : Nat} {values : List Byte} {a : ArticleId} (h : s.Manages)
    (form : mask ≠ 0 ∧ mask < 2 ^ articleWidths.length ∧ values.length = selectedWidth mask 0 articleWidths) :
    let e := Article.ofFields (overlay mask 0 articleWidths (s.store.articles.get a).fields values)
    exec (.articleTableWrite seq a.val mask values) s = .next
      (s.judgeWrite seq (s.articleInUse a.val) e.conds false fun s =>
        { s with store := { s.store with articles := s.store.articles.set a e } }) := by
  refine congrArg Host.Outcome.next ((State.management_taken h).trans ?_)
  exact (dif_pos a.isLt).trans (State.maskedWrite_formed form)

theorem exec_zoneTableWrite_formed {seq mask : Nat} {values : List Byte} {z : ZoneId} (h : s.Manages)
    (form : mask ≠ 0 ∧ mask < 2 ^ zoneWidths.length ∧ values.length = selectedWidth mask 0 zoneWidths) :
    let vals := overlay mask 0 zoneWidths (s.store.zones.get z).fields values
    let count := vals.getD 0 0 / 256 ^ 16
    let listed := (patrolSlots (vals.getD 0 0)).take count
    exec (.zoneTableWrite seq z.val mask values) s = .next
      (s.judgeWrite seq
        (listed.any (s.inOtherZone z)
          || (count == 0 && (List.finRange 12).any fun k => (s.store.robots.get k).enabled == 1 && s.robotZone k == z))
        [decide (count ≤ 16) && listed.all (fun a => decide (a < 64)) && !repeats listed, between 5 (vals.getD 1 0) 255,
          between 1 (vals.getD 2 0) 30]
        false
        fun s => { s with store := { s.store with zones := s.store.zones.set z (ZoneEntry.ofFields vals) } }) := by
  refine congrArg Host.Outcome.next ((State.management_taken h).trans ?_)
  exact (dif_pos z.isLt).trans (State.maskedWrite_formed form)

theorem exec_lineSettingsWrite_formed {seq mask : Nat} {values : List Byte} (h : s.Manages)
    (form : mask ≠ 0 ∧ mask < 2 ^ settingsWidths.length ∧ values.length = selectedWidth mask 0 settingsWidths) :
    let vals := overlay mask 0 settingsWidths s.store.settings.fields values
    let e := Settings.ofFields vals
    exec (.lineSettingsWrite seq 0 mask values) s = .next
      (s.judgeWrite seq false
        [decide (vals.getD 0 0 < 2048), between 1 e.stopTimeout 60, between 0 e.warnLevel 7, between 0 e.warnMode 2] false
        (State.commitSettings e)) := by
  refine congrArg Host.Outcome.next ((State.management_taken h).trans ?_)
  simp only [State.writeTable, State.writeSettings, if_true]
  exact State.maskedWrite_formed form

theorem exec_dispositionTableWrite_formed {seq mask : Nat} {values : List Byte} {k : Fin 256} (h : s.Manages)
    (form : mask ≠ 0 ∧ mask < 2 ^ dispositionWidths.length ∧ values.length = selectedWidth mask 0 dispositionWidths) :
    let vals := overlay mask 0 dispositionWidths (s.link.disposition.get k).fields values
    let e := Disposition.ofFields vals
    exec (.dispositionTableWrite seq k.val mask values) s = .next
      (s.judgeWrite seq false
        [between 0 (vals.getD 0 0) 1,
          between 0 (vals.getD 1 0) 1 && !(e.pass && decide (0x20 ≤ k.val) && decide (k.val ≤ 0x30))]
        false
        fun s => { s with link := { s.link with disposition := s.link.disposition.set k e } }) := by
  refine congrArg Host.Outcome.next ((State.management_taken h).trans ?_)
  exact (dif_pos k.isLt).trans (State.maskedWrite_formed form)

/-! ### The conditions in words (Tables 2-3 to 2-6) -/

theorem eq_decide_iff {b : Bool} {p : Prop} [Decidable p] : b = decide p ↔ (b = true ↔ p) := by
  rw [Bool.eq_iff_iff, decide_eq_true_eq]

theorem repeats_iff (l : List Nat) : repeats l = true ↔ ¬l.Nodup := by
  induction l with
  | nil => simp [repeats]
  | cons a rest ih =>
    rw [repeats, Bool.or_eq_true, ih, List.contains_iff_mem, List.nodup_cons]
    tauto

theorem State.frameConds_eq (e : FrameEntry) : s.frameConds e =
      [decide (e.enabled ≤ 1 ∧ (e.enabled = 1 → e.lengthA ≠ 0 ∨ e.lengthB ≠ 0)), decide (e.lengthA ≤ 1024),
       decide (e.lengthB ≤ 1024), decide (e.aisleA ≤ 63), decide (e.offsetA ≤ 2047 ∧ e.offsetA + e.lengthA ≤ 2048),
       decide (e.aisleB ≤ 63 ∧ (e.lengthA ≠ 0 → e.lengthB ≠ 0 → e.aisleB ≠ e.aisleA)),
       decide (e.offsetB ≤ 2047 ∧ e.offsetB + e.lengthB ≤ 2048), decide (1 ≤ e.pulseLength ∧ e.pulseLength ≤ 16777215),
       decide (16 ≤ e.groupA ∧ e.groupA ≤ 128 ∧ (e.lengthA + e.groupA - 1) / e.groupA ≤ 16),
       decide (16 ≤ e.groupB ∧ e.groupB ≤ 128 ∧ (e.lengthB + e.groupB - 1) / e.groupB ≤ 16),
       decide (e.article ≤ 15 ∧ (e.enabled = 1 → (s.store.articles.get (Fin.ofNat 16 e.article)).defined = 1)),
       decide (e.nextArticle = 0xFF
        ∨ (e.nextArticle ≤ 15 ∧ (s.store.articles.get (Fin.ofNat 16 e.nextArticle)).defined = 1))] := by
  simp only [State.frameConds, List.cons.injEq, eq_decide_iff, between_iff, Bool.and_eq_true, Bool.or_eq_true,
    decide_eq_true_eq, beq_iff_eq, bne_iff_ne, State.articleDefined, Nat.zero_le, and_true, true_and, and_assoc]
  exact ⟨by omega, by omega, Iff.rfl, Iff.rfl, by tauto⟩

theorem locksFrame_iff (mask : Nat) : locksFrame mask = true ↔
    mask.testBit 1 ∨ mask.testBit 2 ∨ mask.testBit 3 ∨ mask.testBit 4 ∨ mask.testBit 5 ∨ mask.testBit 6 ∨ mask.testBit 8
      ∨ mask.testBit 9 ∨ mask.testBit 10 := by
  simp [locksFrame, selects]

theorem State.inOtherZone_eq (z : ZoneId) :
    s.inOtherZone z = fun n => decide (∃ y, y ≠ z ∧ ∃ b ∈ s.patrol y, b.val = n) := by
  funext n
  simp [eq_decide_iff, State.inOtherZone]

theorem State.articleInUse_iff (a : Nat) : s.articleInUse a = true ↔
    ∃ f, s.enabled f = true ∧ ((s.entry f).article = a ∨ (s.entry f).nextArticle = a) := by
  simp [State.articleInUse]

theorem State.commitFrame_same {f : FrameId} {e : FrameEntry} (h : e.enabled = (s.entry f).enabled) :
    s.commitFrame f e = s.setEntry f e := by
  unfold State.commitFrame
  dsimp only
  rw [if_neg (by omega), if_neg (by omega)]

/-- Settles O46: past the checks of form each table's write is judged, and the judgement has the three outcomes. -/
theorem acceptedWritesAreStored : Obligations.AcceptedWritesAreStored := by
  intro seq mask values f a z k s ok bad form passes fails frame article fields listed settings written entry disposition count
    busy ceil defined frameConds articleConds inUse locked zoneConds settingsConds dispositionConds
  refine ⟨fun e => State.frameConds_eq e, locksFrame_iff mask, State.inOtherZone_eq z, fun manages =>
    ⟨fun formed same free => ?_, fun formed on hlocked => ?_, fun formed => ?_,
      fun formed => ?_, fun formed => ?_, fun formed => ?_⟩⟩
  · have unlocked : (s.enabled f && locksFrame mask) = false := by
      rw [← Bool.not_eq_true, Bool.and_eq_true, locksFrame_iff]
      rintro ⟨on, hlocked⟩
      obtain off | unlocked := free
      · rw [off] at on
        exact Bool.false_ne_true on
      · exact unlocked hlocked
    have noDisable : ((s.entry f).enabled == 1 && frame.enabled == 0 && s.frameState f == .doffing) = false := by
      rw [same]
      by_cases h : (s.entry f).enabled = 1 <;> simp [h]
    have conds : s.frameConds frame = frameConds frame := State.frameConds_eq frame
    rw [exec_frameTableWrite_formed manages formed, unlocked]
    refine ⟨fun passed => ?_, fun n failed => ?_⟩
    · rw [noDisable, State.judgeWrite_passes (by rwa [conds]), State.commitFrame_same same]
    · rw [State.judgeWrite_fails (by rwa [conds])]
  · rw [exec_frameTableWrite_formed manages formed, on, (locksFrame_iff mask).mpr hlocked]
    rfl
  · rw [exec_articleTableWrite_formed manages formed]
    have conds : article.conds = articleConds article := by
      simp only [Article.conds, articleConds, List.cons.injEq, eq_decide_iff, between_iff, Bool.and_eq_true, decide_eq_true_eq,
        Nat.zero_le, and_true, true_and, and_assoc]
    have unused : ¬inUse → s.articleInUse a.val = false := fun h =>
      Bool.eq_false_of_not_eq_true fun e => h ((State.articleInUse_iff _).mp e)
    refine ⟨fun used => ?_, fun free passed => ?_, fun n free failed => ?_⟩
    · rw [(State.articleInUse_iff _).mpr used]
      rfl
    · rw [unused free, State.judgeWrite_passes (by rwa [conds])]
    · rw [unused free, State.judgeWrite_fails (by rwa [conds])]
  · rw [exec_zoneTableWrite_formed manages formed]
    dsimp only
    have conds : [decide (count ≤ 16) && listed.all (fun a => decide (a < 64)) && !repeats listed,
        between 5 (fields.getD 1 0) 255, between 1 (fields.getD 2 0) 30] = zoneConds := by
      have once : repeats listed = false ↔ listed.Nodup := by
        rw [← Bool.not_eq_true, repeats_iff, not_not]
      simp only [zoneConds, List.cons.injEq, eq_decide_iff, between_iff, Bool.and_eq_true, decide_eq_true_eq, List.all_eq_true,
        Bool.not_eq_true', once, and_true, and_assoc]
    have busy_iff : (listed.any (s.inOtherZone z)
        || (count == 0 && (List.finRange 12).any fun k => (s.store.robots.get k).enabled == 1 && s.robotZone k == z)) = true
        ↔ busy := by
      simp [busy]
    rw [conds]
    refine ⟨fun hbusy => ?_, fun free passed => ?_, fun n free failed => ?_⟩
    · rw [busy_iff.mpr hbusy]
      rfl
    · rw [Bool.eq_false_of_not_eq_true fun e => free (busy_iff.mp e), State.judgeWrite_passes passed]
    · rw [Bool.eq_false_of_not_eq_true fun e => free (busy_iff.mp e), State.judgeWrite_fails failed]
  · rw [exec_lineSettingsWrite_formed manages formed]
    have conds : [decide (written.getD 0 0 < 2048), between 1 settings.stopTimeout 60, between 0 settings.warnLevel 7,
        between 0 settings.warnMode 2] = settingsConds := by
      simp only [settingsConds, List.cons.injEq, eq_decide_iff, between_iff, Nat.zero_le, and_true, true_and]
    dsimp only
    rw [conds]
    exact ⟨fun passed => congrArg _ (State.judgeWrite_passes passed),
      fun n failed => congrArg _ (State.judgeWrite_fails failed)⟩
  · rw [exec_dispositionTableWrite_formed manages formed]
    have conds : [between 0 (entry.getD 0 0) 1,
        between 0 (entry.getD 1 0) 1 && !(disposition.pass && decide (0x20 ≤ k.val) && decide (k.val ≤ 0x30))]
          = dispositionConds := by
      simp only [dispositionConds, List.cons.injEq, eq_decide_iff, between_iff, Nat.zero_le, and_true, true_and,
        Bool.and_eq_true, Bool.not_eq_true', Bool.and_eq_false_iff, decide_eq_false_iff_not, not_le, or_assoc]
    dsimp only
    rw [conds]
    exact ⟨fun passed => congrArg _ (State.judgeWrite_passes passed),
      fun n failed => congrArg _ (State.judgeWrite_fails failed)⟩

end Sys2Proof.Machine
end

section
/-! FLAGS-READ (R37) and PART-RESET (R35). -/

namespace Sys2Proof

/-- The records of a table in their order. -/
theorem Tab.items_eq {n : Nat} {α : Type} (t : Tab n α) : t.items = (List.finRange n).map t.get := by
  refine List.ext_getElem (by simp [t.size]) fun i h _ => ?_
  simp [Tab.get]

end Sys2Proof

namespace Sys2Proof.Machine

variable {s : State}

/-- The twelve counters in the order of R15. -/
theorem counters_items : s.link.counters.items =
    [LinkCounter.checkFloor, .checkUplink, .malformed, .unknownNode, .downBlocked, .upCopyLoss, .downPassLoss, .partLossUp,
      .partLossFloor, .stale, .duplicate, .stoppedFrame].map fun c => s.counter c :=
  s.link.counters.items_eq

/-- The data of a FLAGS-READ, field by field (R37). -/
theorem State.flagsData_eq : s.flagsData =
    beBytes 2 s.store.flags.toNat ++ beBytes 1 s.retention.cause.code ++ beBytes 1 s.retention.count
      ++ (match s.spu.firstFault with
          | some x => [BitVec.ofNat 8 x.frame.val, BitVec.ofNat 8 x.article.val, BitVec.ofNat 8 x.stage]
          | none => [0xFF#8, 0xFF#8, 0xFF#8])
      ++ [LinkCounter.checkFloor, .checkUplink, .malformed, .unknownNode, .downBlocked, .upCopyLoss, .downPassLoss, .partLossUp,
          .partLossFloor, .stale, .duplicate, .stoppedFrame].flatMap fun c => beBytes 2 (s.counter c) := by
  rw [State.flagsData, counters_items, List.flatMap_map]
  congr 2
  cases s.spu.firstFault with
  | none => rfl
  | some x => simp [beBytes_one]

theorem State.length_flagsData : s.flagsData.length = 31 := by
  rw [State.flagsData_eq]
  cases s.spu.firstFault <;> simp [beBytes_length]

theorem exec_flagsRead (h : s.Manages) {seq clear : Nat} (valid : clear ≤ 1) :
    exec (.flagsRead seq clear) s =
      .next ((if clear = 1 then s.clearFlags else s).offerUp (replyTelegram seq .ok 0 s.flagsData)) :=
  congrArg Host.Outcome.next ((State.management_taken h).trans (if_neg (Nat.not_lt.mpr valid)))

theorem exec_partReset (h : s.Manages) (seq : Nat) :
    exec (.partReset seq) s = .next
      (let t := s.offerUp (replyTelegram seq .ok 0 [])
       { t with store := { t.store with
          resetWait := some (if s.link.upQueue.length < 64 then t.link.upQueue.length else 0) } }) := by
  refine congrArg Host.Outcome.next ((State.management_taken h).trans ?_)
  dsimp only
  simp only [decide_eq_true_eq]
  rfl

/-- The commands of the mill station change nothing while a PART-RESET waits (R35). -/
theorem exec_waiting {c : Instr} (port : c.port = .uplink) (telegram : (encodeTelegram c).isSome = true)
    (h : s.store.resetWait.isSome = true) : exec c s = .next s := by
  cases c
  all_goals first | (cases telegram; done) | (cases port; done) | skip
  all_goals exact congrArg Host.Outcome.next (State.management_waiting h)

/-- Settles O53. -/
theorem flagsAndPartReset : Obligations.FlagsAndPartReset := by
  refine ⟨rfl, rfl, fun seq s h => ?_, fun seq s => ⟨fun h room => ?_, fun h full => ?_, fun c t waits port telegram => ?_⟩⟩
  · intro first data
    have spelled : s.flagsData = data := State.flagsData_eq
    refine ⟨spelled ▸ State.length_flagsData, spelled ▸ exec_flagsRead h (Nat.zero_le 1), fun clear high => ?_,
      s.clearFlags, spelled ▸ exec_flagsRead h (le_refl 1), rfl, fun c => ?_, rfl, fun f => ?_, rfl⟩
    · exact congrArg Host.Outcome.next ((State.management_taken h).trans (if_pos high))
    · exact Tab.get_fill 0 c.place
    · exact Tab.get_map _ s.spu.records f
  · rw [exec_partReset h]
    simp [State.offerUp, State.setUpQueue, room]
  · rw [exec_partReset h]
    simp only [State.offerUp, Nat.not_lt.mpr full, if_false]
    rfl
  · exact exec_waiting port (by rw [telegram]; rfl) (Option.isSome_iff_ne_none.mpr waits)

end Sys2Proof.Machine
end

section
/-! The data of records, entries, lists and counts, byte for byte (Tables 2-3 to 2-9 and 10-3). -/

namespace Sys2Proof

/-! ### Numbers in rows of fields -/

/-- A number spells only its low bytes. -/
theorem beBytes_mul_add (n a b : Nat) : beBytes n (a * 256 ^ n + b) = beBytes n b := by
  induction n generalizing a with
  | zero => rfl
  | succ n ih =>
    have pos : 0 < 256 ^ n := by positivity
    have shifted : a * 256 ^ (n + 1) + b = a * 256 * 256 ^ n + b := by ring
    have top : (a * 256 * 256 ^ n + b) / 256 ^ n = a * 256 + b / 256 ^ n := by
      rw [Nat.add_comm, Nat.add_mul_div_right _ _ pos, Nat.add_comm]
    rw [shifted, beBytes, beBytes, ih, top]
    congr 1
    apply BitVec.eq_of_toNat_eq
    simp

/-- Two numbers one behind the other (R1). -/
theorem beBytes_append {n b : Nat} (m a : Nat) (h : b < 256 ^ n) :
    beBytes (m + n) (a * 256 ^ n + b) = beBytes m a ++ beBytes n b := by
  induction m with
  | zero =>
    rw [Nat.zero_add]
    exact beBytes_mul_add n a b
  | succ m ih =>
    have pos : 0 < 256 ^ n := by positivity
    have top : (a * 256 ^ n + b) / 256 ^ (m + n) = a / 256 ^ m := by
      rw [Nat.add_comm m n, pow_add, ← Nat.div_div_eq_div_mul, Nat.add_comm, Nat.add_mul_div_right _ _ pos, Nat.div_eq_of_lt h,
        Nat.zero_add]
    rw [Nat.succ_add, beBytes, top, ih]
    rfl

/-- A number formed of digits of `k` bytes each spells its digits. -/
theorem beBytes_foldl {k : Nat} {digits : List Nat} (m acc : Nat) (h : ∀ d ∈ digits, d < 256 ^ k) :
    beBytes (m + k * digits.length) (digits.foldl (fun acc d => acc * 256 ^ k + d) acc)
      = beBytes m acc ++ digits.flatMap (beBytes k) := by
  induction digits generalizing m acc with
  | nil => simp
  | cons d rest ih =>
    rw [List.foldl_cons, List.length_cons, List.flatMap_cons, ← List.append_assoc,
      ← beBytes_append m acc (h d List.mem_cons_self), ← ih _ _ fun d hd => h d (List.mem_cons_of_mem _ hd)]
    congr 1
    ring

namespace Machine

/-- Fields at their widths, one behind the other. -/
def rowBytes (rows : List (Nat × Nat)) : List Byte := rows.flatMap fun p => beBytes p.1 p.2

@[simp] theorem rowBytes_nil : rowBytes [] = [] := rfl

@[simp] theorem rowBytes_cons (p : Nat × Nat) (rows : List (Nat × Nat)) :
    rowBytes (p :: rows) = beBytes p.1 p.2 ++ rowBytes rows := rfl

theorem fieldBytes_eq (widths vals : List Nat) : fieldBytes widths vals = rowBytes (widths.zip vals) := rfl

theorem length_rowBytes (rows : List (Nat × Nat)) : (rowBytes rows).length = (rows.map Prod.fst).sum := by
  induction rows with
  | nil => rfl
  | cons p rows ih => simp [ih, beBytes_length]

theorem flagByte_eq (b : Bool) : flagByte b = beBytes 1 (if b = true then 1 else 0) := rfl

theorem optByte_eq (v : Option Nat) : optByte v = beBytes 1 (v.getD 0xFF) := rfl

variable {s : State}

theorem State.leftBytes_eq (deadline : Option Nat) :
    s.leftBytes deadline = beBytes 4 ((deadline.map fun t => t - s.timer).getD 0xFFFFFFFF) := by
  cases deadline <;> rfl

end Machine
end Sys2Proof
end

section
/-! The data of records, entries and lists, field by field (Tables 2-3 to 2-9). -/

namespace Sys2Proof.Machine

variable {s : State}

/-! ### Records (Table 2-7) -/

theorem State.frameData_eq (f : FrameId) : s.frameData f = rowBytes
    [(1, (s.cycle f).state.code), (1, ((s.cycle f).cause.map HoldCause.code).getD 0xFF),
      (1, ((s.cycle f).claim.map Fin.val).getD 0xFF), (1, (s.entry f).article), (1, (s.entry f).nextArticle),
      (4, (s.deliveryRecord f).cop), (2, (s.deliveryRecord f).fill), (4, (s.cycle f).startUp),
      (1, if (s.deliveryRecord f).baseline = true then 1 else 0), (1, (s.speed f).level),
      (2, (s.speed f).lastRpm.getD 0xFFFF), (2, (s.map f).running), (2, (s.map f).populated),
      (1, (if (s.speed f).sat = true then 1 else 0) + (if (s.speed f).clampLow = true then 2 else 0)
        + (if (s.speed f).clampHigh = true then 4 else 0) + (if (s.speed f).levelChanged = true then 8 else 0))] := by
  simp only [State.frameData, optByte_eq, flagByte_eq, SpeedRecord.flagByte, arithBits, rowBytes_cons, rowBytes_nil,
    List.append_assoc, List.append_nil]

theorem State.dofferData_eq (d : DofferId) : s.dofferData d = rowBytes
    [(1, (s.doffer d).state.code), (1, ((s.doffer d).frame.map Fin.val).getD 0xFF), (6, (s.doffer d).reach.toNat),
      (1, if (s.doffer d).reachPending = none then 0 else 1),
      (4, ((s.doffer d).timer.map fun t => t - s.timer).getD 0xFFFFFFFF)] := by
  simp only [State.dofferData, optByte_eq, flagByte_eq, State.leftBytes_eq, rowBytes_cons, rowBytes_nil, List.append_assoc,
    List.append_nil]
  cases (s.doffer d).reachPending <;> rfl

theorem State.carrierData_eq (c : CarrierId) : s.carrierData c = rowBytes
    [(1, (s.carrier c).state.code), (1, ((s.carrier c).trip.map fun p => p.1.val).getD 0xFF),
      (1, ((s.carrier c).trip.map fun p => p.2.val).getD 0xFF), (4, (s.carrier c).load),
      (4, ((s.carrier c).timer.map fun t => t - s.timer).getD 0xFFFFFFFF)] := by
  simp only [State.carrierData, optByte_eq, State.leftBytes_eq, rowBytes_cons, rowBytes_nil, List.append_assoc, List.append_nil]

theorem Level.code_levelOf (remaining lowMark : Nat) :
    (levelOf remaining lowMark).code = if remaining = 0 then 0 else if remaining ≤ lowMark then 1 else 2 := by
  unfold levelOf
  split
  · rfl
  · split <;> rfl

theorem State.level_code {f : FrameId} {g : GroupId} {r : Group} (h : s.groupRecord f g = some r) :
    (s.level f g).code = if r.remaining = 0 then 0 else if r.remaining ≤ (s.article f).lowMark then 1 else 2 := by
  rw [State.level, Level.code_levelOf, State.remaining, h]

theorem State.groupData_sequence {f : FrameId} {g : GroupId} {r : Group} {q : BitVec 16} (free : List Byte)
    (h : s.groupRecord f g = some r) (hq : r.sequence = some q) : s.groupData f g free = rowBytes
      [(4, r.remaining), (1, r.state.code),
        (1, if r.remaining = 0 then 0 else if r.remaining ≤ (s.article f).lowMark then 1 else 2), (1, 1), (2, q.toNat),
        (1, (r.carrier.map Fin.val).getD 0xFF)] := by
  simp only [State.groupData, h, hq, State.level_code h, optByte_eq, flagByte_eq, Option.isSome_some, if_true, rowBytes_cons,
    rowBytes_nil, List.append_assoc, List.append_nil]

theorem State.groupData_noSequence {f : FrameId} {g : GroupId} {r : Group} (free : List Byte)
    (h : s.groupRecord f g = some r) (hq : r.sequence = none) : s.groupData f g free = rowBytes
      [(4, r.remaining), (1, r.state.code),
        (1, if r.remaining = 0 then 0 else if r.remaining ≤ (s.article f).lowMark then 1 else 2), (1, 0)]
      ++ free ++ rowBytes [(1, (r.carrier.map Fin.val).getD 0xFF)] := by
  simp only [State.groupData, h, hq, State.level_code h, optByte_eq, flagByte_eq, Option.isSome_none, Bool.false_eq_true,
    if_false, rowBytes_cons, rowBytes_nil, List.append_assoc, List.append_nil]

theorem State.aisleData_eq (a : AisleId) : s.aisleData a = rowBytes
    [(1, match (s.aisleRecord a).holder with | .none => 0 | .robot _ => 1 | .doffer _ => 2),
      (1, match (s.aisleRecord a).holder with | .none => 0xFF | .robot k => k.val | .doffer d => d.val),
      (1, ((s.aisleRecord a).reservedBy.map Fin.val).getD 0xFF), (1, ((s.zoneOf a).map Fin.val).getD 0xFF)] := by
  simp only [State.aisleData, optByte_eq, rowBytes_cons, rowBytes_nil, List.append_nil]
  cases (s.aisleRecord a).holder <;> simp only [List.append_assoc]

/-- The work bytes of a robot's data; of an absent assignment they are free, the satisfied byte 0 or 1 (log 13). -/
def workBytes (assignment : Option Assignment) (free : List Byte) : List Byte :=
  match assignment with
  | some x => rowBytes [(1, x.frame.val), (1, x.side.code), (2, x.index), (1, if x.satisfied = true then 1 else 0)]
  | none => 0xFF#8 :: (free.take 3 ++ [free.getD 3 0 &&& 1#8])

/-- The fault bytes of a robot's data, behind those of its work. -/
def faultBytes (fault : FaultRecord) (free : List Byte) : List Byte :=
  match fault with
  | .none => 0#8 :: free
  | .assignment f side i => rowBytes [(1, 1), (1, f.val), (1, side.code), (2, i)]
  | .move a => rowBytes [(1, 2), (1, (a.map Fin.val).getD 0xFF)] ++ free

/-- The free bytes that a robot's assignment leaves to its fault record. -/
def freeRest (assignment : Option Assignment) (free : List Byte) : List Byte := if assignment = none then free.drop 4 else free

theorem State.robotData_eq (k : RobotId) (free : List Byte) : s.robotData k free =
    rowBytes [(1, (s.robot k).state.code), (1, (s.robotZone k).val), (1, ((s.robot k).aisle.map Fin.val).getD 0xFF),
        (2, (s.robot k).position), (1, if (s.robot k).sweep = .down then 1 else 0)]
      ++ workBytes (s.robot k).assignment free
      ++ rowBytes [(4, ((s.robot k).deadline.map fun t => t - s.timer).getD 0xFFFFFFFF)]
      ++ faultBytes (s.robot k).faultRecord (freeRest (s.robot k).assignment free) := by
  have rest : (if (s.robot k).assignment.isSome then free else free.drop 4) = freeRest (s.robot k).assignment free := by
    cases (s.robot k).assignment <;> rfl
  simp only [State.robotData, rest, optByte_eq, flagByte_eq, State.leftBytes_eq, beq_iff_eq, rowBytes_cons, rowBytes_nil,
    List.append_assoc, List.append_nil]
  rfl

/-! ### Entries (Tables 2-3 to 2-6) -/

theorem State.entryBytes_frame (f : FrameId) : s.entryBytes 0 f.val = some (rowBytes
    [(1, (s.entry f).enabled), (2, (s.entry f).lengthA), (2, (s.entry f).lengthB), (1, (s.entry f).aisleA),
      (2, (s.entry f).offsetA), (1, (s.entry f).aisleB), (2, (s.entry f).offsetB), (3, (s.entry f).pulseLength),
      (1, (s.entry f).groupA), (1, (s.entry f).groupB), (1, (s.entry f).article), (1, (s.entry f).nextArticle)]) :=
  dif_pos f.isLt

/-- The two speed limits stand in one field of four bytes (Table 2-4). -/
theorem State.entryBytes_article {n : ArticleId} (h : (s.store.articles.get n).maxRpm < 65536) :
    let a := s.store.articles.get n
    s.entryBytes 1 n.val = some (rowBytes
      [(1, a.defined), (3, a.density), (2, a.draft), (4, a.doffTarget), (3, a.startUp), (1, a.degree), (2, a.minRpm),
        (2, a.maxRpm), (1, a.speedStep), (3, a.interval), (1, a.highThreshold), (1, a.lowThreshold), (1, a.quietIntervals),
        (1, a.attemptLimit), (1, a.repeatLimit), (3, a.lowMark)]) := by
  intro a
  have place : Fin.ofNat 16 n.val = n := Fin.ext (Nat.mod_eq_of_lt n.isLt)
  have limits : beBytes 4 (a.minRpm * 65536 + a.maxRpm) = beBytes 2 a.minRpm ++ beBytes 2 a.maxRpm :=
    beBytes_append (n := 2) 2 a.minRpm h
  have small : n.val < 32 := by omega
  simp only [State.entryBytes, small, n.isLt, if_true, place, fieldBytes_eq]
  simp only [articleWidths, Article.fields, List.take_succ_cons, List.take_zero, List.drop_succ_cons, List.drop_zero,
    List.cons_append, List.nil_append, List.zip_cons_cons, List.zip_nil_right, rowBytes_cons, rowBytes_nil, List.append_nil]
  simp only [a, limits, List.append_assoc]

theorem State.entryBytes_curve (n : ArticleId) :
    let a := s.store.articles.get n
    s.entryBytes 1 (16 + n.val) = some (rowBytes ((1, a.degree) :: a.coeffs.items.map fun c => (4, c.toNat))) := by
  intro a
  have place : Fin.ofNat 16 (16 + n.val) = n := Fin.ext (by simp [Nat.mod_eq_of_lt n.isLt])
  have spelled : beBytes 24 (coeffsNat a.coeffs) = rowBytes (a.coeffs.items.map fun c => (4, c.toNat)) := by
    have digits := beBytes_foldl (k := 4) (digits := a.coeffs.items.map BitVec.toNat) 0 0 (by
      simp only [List.mem_map]
      rintro d ⟨c, -, rfl⟩
      exact c.isLt)
    rw [List.length_map, a.coeffs.size, List.foldl_map, List.flatMap_map] at digits
    rw [rowBytes, List.flatMap_map]
    exact digits
  have small : 16 + n.val < 32 := by omega
  have later : ¬16 + n.val < 16 := by omega
  simp only [State.entryBytes, small, later, if_true, if_false, place, fieldBytes_eq]
  rw [rowBytes_cons, ← spelled]
  simp [rowBytes_cons, Article.fields, a]

theorem State.entryBytes_zone {n : ZoneId} (length : (s.store.zones.get n).slots.length = 16)
    (bytes : ∀ b ∈ (s.store.zones.get n).slots, b < 256) :
    let z := s.store.zones.get n
    s.entryBytes 2 n.val = some (rowBytes
      ((1, z.count) :: z.slots.map (fun b => (1, b)) ++ [(1, z.piecingTimeout), (1, z.verifyWindow)])) := by
  intro z
  have digits := beBytes_foldl (k := 1) (digits := z.slots) 1 z.count bytes
  rw [length] at digits
  have listed : rowBytes (z.slots.map (fun b => (1, b)) ++ [(1, z.piecingTimeout), (1, z.verifyWindow)])
      = z.slots.flatMap (beBytes 1) ++ rowBytes [(1, z.piecingTimeout), (1, z.verifyWindow)] := by
    rw [rowBytes, List.flatMap_append, List.flatMap_map]
    rfl
  refine (dif_pos n.isLt).trans (congrArg some ?_)
  rw [List.cons_append, rowBytes_cons, listed, ← List.append_assoc]
  exact congrArg (· ++ rowBytes [(1, z.piecingTimeout), (1, z.verifyWindow)]) digits

theorem State.entryBytes_disposition (n : Fin 256) : s.entryBytes 7 n.val = some (rowBytes
    [(1, if (!(s.link.disposition.get n).copy) = true then 1 else 0),
      (1, if (!(s.link.disposition.get n).pass) = true then 1 else 0)]) := by
  refine (dif_pos n.isLt).trans ?_
  simp only [fieldBytes_eq, Disposition.fields, dispositionWidths]
  cases (s.link.disposition.get n).copy <;> cases (s.link.disposition.get n).pass <;> rfl

end Sys2Proof.Machine
end

section
/-! The data of lists, maps and counts (R31 to R33, Tables 2-9 and 10-3). -/

namespace Sys2Proof.Machine

variable {s : State}

/-! ### Lists (Table 2-9) -/

theorem flatMap_zipIdx {α : Type} {f : α × Nat → List Byte} {g : α → List Byte} {l : List α} {k : Nat}
    (h : ∀ a ∈ l, ∀ j, f (a, j) = g a) : (l.zipIdx k).flatMap f = l.flatMap g := by
  induction l generalizing k with
  | nil => rfl
  | cons a rest ih =>
    rw [List.zipIdx_cons, List.flatMap_cons, List.flatMap_cons, h a List.mem_cons_self,
      ih fun b hb => h b (List.mem_cons_of_mem a hb)]

theorem State.listEntries_rogues {first count : Nat} (free : List Byte)
    (h : ∀ e ∈ (s.smu.rogues.drop first).take count, e.seconds < 2 ^ 32) :
    s.listEntries 0 first count free = ((s.smu.rogues.drop first).take count).flatMap fun e =>
      rowBytes [(1, e.frame.val), (1, e.side.code), (2, e.index), (1, e.cause.code), (4, e.seconds)] := by
  refine flatMap_zipIdx fun e he j => ?_
  simp only [rogueBytes, h e he, if_true, rowBytes_cons, rowBytes_nil, List.append_assoc, List.append_nil]

theorem State.listEntries_queue (first count : Nat) (free : List Byte) : s.listEntries 1 first count free =
    ((s.dcu.queue.drop first).take count).map fun f => BitVec.ofNat 8 f.val := by
  simp only [State.listEntries, beBytes_one]
  exact (List.map_eq_flatMap ..).symm

theorem State.listEntries_set (first count : Nat) (free : List Byte) : s.listEntries 2 first count free =
    ((s.rsu.set.drop first).take count).flatMap fun e =>
      rowBytes [(1, e.frame.val), (1, e.group.val), (2, e.sequence.toNat), (3, s.remaining e.frame e.group)] := by
  simp only [State.listEntries, rowBytes_cons, rowBytes_nil, List.append_assoc, List.append_nil]

theorem State.listEntries_verify (first count : Nat) (free : List Byte) : s.listEntries 3 first count free =
    ((s.pcd.verify.drop first).take count).flatMap fun e =>
      rowBytes [(1, e.frame.val), (1, e.side.code), (2, e.index), (4, e.deadline - s.timer)] := by
  simp only [State.listEntries, rowBytes_cons, rowBytes_nil, List.append_assoc, List.append_nil]
  rfl

theorem State.listOpen_held {list first count : Nat}
    (h : list ≠ 0 ∨ ∀ e ∈ (s.smu.rogues.drop first).take count, e.seconds < 2 ^ 32) : s.listOpen list first count = 0 := by
  refine if_neg ?_
  rintro ⟨rogues, some⟩
  obtain ⟨e, he, large⟩ := List.any_eq_true.mp some
  obtain other | held := h
  · exact other rogues
  · exact absurd (held e he) (Nat.not_lt.mpr (of_decide_eq_true large))

theorem State.listOpen_over {list first count : Nat}
    (h : list = 0 ∧ ∃ e ∈ (s.smu.rogues.drop first).take count, 2 ^ 32 ≤ e.seconds) :
    s.listOpen list first count = 4 * count := by
  obtain ⟨rogues, e, he, large⟩ := h
  exact if_pos ⟨rogues, List.any_eq_true.mpr ⟨e, he, decide_eq_true large⟩⟩

theorem length_flatMap_le {α : Type} {f : α → List Byte} {n : Nat} {l : List α} (h : ∀ a ∈ l, (f a).length ≤ n) :
    (l.flatMap f).length ≤ n * l.length := by
  induction l with
  | nil => simp
  | cons a rest ih =>
    have head := h a List.mem_cons_self
    have tail := ih fun b hb => h b (List.mem_cons_of_mem a hb)
    rw [List.flatMap_cons, List.length_append, List.length_cons, Nat.mul_succ]
    omega

/-! ### Maps (R31) -/

theorem length_packCodes (codes : List Nat) : (packCodes codes).length = (codes.length + 1) / 2 := by
  induction codes using packCodes.induct with
  | case1 => rfl
  | case2 a => simp [packCodes, beBytes_length]
  | case3 a b rest ih =>
    simp only [packCodes, List.length_append, beBytes_length, List.length_cons, ih]
    omega

/-- The state codes stand two to a byte, the first in the high half. -/
theorem packCodes_half {codes : List Nat} (small : ∀ c ∈ codes, c < 16) {j : Nat} (h : j < codes.length) :
    ((packCodes codes).getD (j / 2) 0).toNat / (if j % 2 = 0 then 16 else 1) % 16 = codes.getD j 0 := by
  induction codes using packCodes.induct generalizing j with
  | case1 => cases h
  | case2 a =>
    have first : a < 16 := small a (by simp)
    obtain rfl : j = 0 := by simpa using h
    simp [packCodes, beBytes_one]
    omega
  | case3 a b rest ih =>
    have first : a < 16 := small a (by simp)
    have second : b < 16 := small b (by simp)
    match j with
    | 0 =>
      simp [packCodes, beBytes_one]
      omega
    | 1 =>
      simp [packCodes, beBytes_one]
      omega
    | j + 2 =>
      have next : (j + 2) / 2 = j / 2 + 1 := by omega
      rw [packCodes, beBytes_one, List.singleton_append, next, List.getD_cons_succ, List.getD_cons_succ, List.getD_cons_succ,
        Nat.add_mod_right]
      exact ih (fun c hc => small c (by simp [hc])) (by simpa using h)

theorem packCodes_last {codes : List Nat} (odd : codes.length % 2 = 1) :
    ((packCodes codes).getD (codes.length / 2) 0).toNat % 16 = 0 := by
  induction codes using packCodes.induct with
  | case1 => cases odd
  | case2 a => simp [packCodes, beBytes_one]
  | case3 a b rest ih =>
    have next : (rest.length + 1 + 1) / 2 = rest.length / 2 + 1 := by omega
    rw [packCodes, beBytes_one, List.singleton_append, List.length_cons, List.length_cons, next, List.getD_cons_succ]
    refine ih ?_
    simp only [List.length_cons] at odd
    omega

theorem getD_pairs {α : Type} (f g : α → Byte) (l : List α) (j : Nat) (h : j < l.length) :
    (l.flatMap fun a => [f a, g a]).getD (2 * j) 0 = f l[j] ∧ (l.flatMap fun a => [f a, g a]).getD (2 * j + 1) 0 = g l[j] := by
  induction l generalizing j with
  | nil => cases h
  | cons a rest ih =>
    cases j with
    | zero => exact ⟨rfl, rfl⟩
    | succ j => exact ih j (Nat.lt_of_succ_lt_succ h)

theorem SpindleState.code_lt (x : SpindleState) : x.code < 16 := by
  cases x <;> decide

theorem State.mapData_short (f : FrameId) (side : Side) (first count : Nat) : s.mapData f side first count false =
    packCodes ((List.range count).map fun j => (s.spindle f side (first + j)).state.code) := by
  simp [State.mapData, Function.comp_def]

theorem State.mapData_long (f : FrameId) (side : Side) (first count : Nat) : s.mapData f side first count true =
    ((List.range count).map fun j => s.spindle f side (first + j)).flatMap fun sp =>
      [BitVec.ofNat 8 sp.state.code, BitVec.ofNat 8 (sp.attempts * 16 + sp.repeats)] := by
  simp [State.mapData, beBytes_one]

theorem State.length_mapData (f : FrameId) (side : Side) (first count : Nat) :
    (s.mapData f side first count false).length = (count + 1) / 2 ∧ (s.mapData f side first count true).length = 2 * count := by
  rw [State.mapData_short, State.mapData_long, length_packCodes]
  simp [Function.comp_def, Nat.mul_comm]

/-- Each spindle's half of a byte, or its two bytes (R31). -/
theorem State.mapData_spindle (f : FrameId) (side : Side) (first : Nat) {count j : Nat} (h : j < count) :
    ((s.mapData f side first count false).getD (j / 2) 0).toNat / (if j % 2 = 0 then 16 else 1) % 16
        = (s.spindle f side (first + j)).state.code
      ∧ (s.mapData f side first count true).getD (2 * j) 0 = BitVec.ofNat 8 (s.spindle f side (first + j)).state.code
      ∧ (s.mapData f side first count true).getD (2 * j + 1) 0
        = BitVec.ofNat 8 ((s.spindle f side (first + j)).attempts * 16 + (s.spindle f side (first + j)).repeats) := by
  rw [State.mapData_short, State.mapData_long]
  have pairs := getD_pairs (fun sp : Spindle => BitVec.ofNat 8 sp.state.code)
    (fun sp : Spindle => BitVec.ofNat 8 (sp.attempts * 16 + sp.repeats))
    ((List.range count).map fun j => s.spindle f side (first + j)) j (by simpa using h)
  rw [List.getElem_map, List.getElem_range] at pairs
  refine ⟨?_, pairs⟩
  rw [packCodes_half (by simp [SpindleState.code_lt]) (by simpa using h)]
  simp [h]

end Sys2Proof.Machine
end

section
/-! The data of a COUNTS-READ (R180, R181, Table 10-3). -/

namespace Sys2Proof.Machine

variable {s : State}

/-- The record flags byte of a read, from what a read of the flags and of the widths says (Table 10-3). -/
def countFlags (flag : (CountView → Bool) → Bool) (pegged : Bool) : Nat :=
  (if flag CountView.restored = true then 1 else 0) + (if flag CountView.lost = true then 2 else 0)
    + (if flag CountView.saturated = true then 4 else 0) + (if pegged = true then 8 else 0)

/-- Records 0 and 2, from a reading of the fields and the flags of one record or of all (Table 10-3). -/
def amountBytes (frame : Nat) (sum : (Counts → Nat) → Nat) (flag : (CountView → Bool) → Bool) (eff : Nat) : List Byte :=
  rowBytes
    [(1, frame),
      (1, countFlags flag (decide (2 ^ 40 ≤ sum Counts.delivered ∨ 2 ^ 48 ≤ sum Counts.possible
        ∨ 2 ^ 48 ≤ sum Counts.produced ∨ 2 ^ 40 ≤ sum Counts.mass))),
      (5, min (sum Counts.delivered) (2 ^ 40 - 1)), (6, min (sum Counts.possible) (2 ^ 48 - 1)),
      (6, min (sum Counts.produced) (2 ^ 48 - 1)), (5, min (sum Counts.mass) (2 ^ 40 - 1)), (2, eff)]

/-- Records 1 and 3, likewise. -/
def eventBytes (frame : Nat) (sum : (Counts → Nat) → Nat) (flag : (CountView → Bool) → Bool) : List Byte :=
  rowBytes
    [(1, frame),
      (1, countFlags flag (decide (2 ^ 24 ≤ sum Counts.breaks ∨ 2 ^ 24 ≤ sum Counts.rovingEnds ∨ 2 ^ 24 ≤ sum Counts.piecedOk
        ∨ 2 ^ 24 ≤ sum Counts.piecedFailed ∨ 2 ^ 16 ≤ sum Counts.rogues ∨ 2 ^ 16 ≤ sum Counts.doffs
        ∨ 2 ^ 24 ≤ sum Counts.stoppedSeconds ∨ 2 ^ 24 ≤ sum Counts.doffWaitSeconds))),
      (3, min (sum Counts.breaks) (2 ^ 24 - 1)), (3, min (sum Counts.rovingEnds) (2 ^ 24 - 1)),
      (3, min (sum Counts.piecedOk) (2 ^ 24 - 1)), (3, min (sum Counts.piecedFailed) (2 ^ 24 - 1)),
      (2, min (sum Counts.rogues) (2 ^ 16 - 1)), (2, min (sum Counts.doffs) (2 ^ 16 - 1)),
      (3, min (sum Counts.stoppedSeconds) (2 ^ 24 - 1)), (3, min (sum Counts.doffWaitSeconds) (2 ^ 24 - 1))]

theorem length_amountBytes (frame : Nat) (sum : (Counts → Nat) → Nat) (flag : (CountView → Bool) → Bool) (eff : Nat) :
    (amountBytes frame sum flag eff).length = 26 := length_rowBytes _

theorem length_eventBytes (frame : Nat) (sum : (Counts → Nat) → Nat) (flag : (CountView → Bool) → Bool) :
    (eventBytes frame sum flag).length = 24 := length_rowBytes _

/-! ### One record -/

theorem exceeds_iff (bits v : Nat) : exceeds bits v = true ↔ 2 ^ bits ≤ v := by
  have pos : 0 < 2 ^ bits := by positivity
  rw [exceeds, largest, decide_eq_true_eq]
  omega

theorem CountView.amounts_eq (v : CountView) (frame eff : Nat) :
    v.amounts frame eff = amountBytes frame (fun p => p v.counts) (fun p => p v) eff := by
  have pegged : v.amountsPegged = decide (2 ^ 40 ≤ v.counts.delivered ∨ 2 ^ 48 ≤ v.counts.possible
      ∨ 2 ^ 48 ≤ v.counts.produced ∨ 2 ^ 40 ≤ v.counts.mass) := by
    simp only [CountView.amountsPegged, eq_decide_iff, Bool.or_eq_true, exceeds_iff, or_assoc]
  simp only [CountView.amounts, pegged, recordFlagByte, peggedBytes, amountBytes, countFlags, largest, rowBytes_cons,
    rowBytes_nil, List.append_assoc, List.append_nil]

theorem CountView.events_eq (v : CountView) (frame : Nat) :
    v.events frame = eventBytes frame (fun p => p v.counts) fun p => p v := by
  have pegged : v.eventsPegged = decide (2 ^ 24 ≤ v.counts.breaks ∨ 2 ^ 24 ≤ v.counts.rovingEnds ∨ 2 ^ 24 ≤ v.counts.piecedOk
      ∨ 2 ^ 24 ≤ v.counts.piecedFailed ∨ 2 ^ 16 ≤ v.counts.rogues ∨ 2 ^ 16 ≤ v.counts.doffs
      ∨ 2 ^ 24 ≤ v.counts.stoppedSeconds ∨ 2 ^ 24 ≤ v.counts.doffWaitSeconds) := by
    simp only [CountView.eventsPegged, eq_decide_iff, Bool.or_eq_true, exceeds_iff, or_assoc]
  simp only [CountView.events, pegged, recordFlagByte, peggedBytes, eventBytes, countFlags, largest, rowBytes_cons,
    rowBytes_nil, List.append_assoc, List.append_nil]

/-! ### The line total (R181) -/

/-- A field of the total is the sum of that field. -/
theorem total_field (p : Counts → Nat) (zero : p .zero = 0) (plus : ∀ a b, p (Counts.plus a b) = p a + p b)
    (views : List CountView) : p (total views).counts = (views.map fun v => p v.counts).sum := by
  have from_acc : ∀ acc : Counts, p (views.foldl (fun acc v => acc.plus v.counts) acc) =
      p acc + (views.map fun v => p v.counts).sum := by
    induction views with
    | nil => simp
    | cons v rest ih =>
      intro acc
      rw [List.foldl_cons, ih, plus, List.map_cons, List.sum_cons, Nat.add_assoc]
  rw [total, from_acc, zero, Nat.zero_add]

theorem amounts_total (views : List CountView) (frame eff : Nat) : (total views).amounts frame eff =
    amountBytes frame (fun p => (views.map fun v => p v.counts).sum) (fun p => views.any p) eff := by
  rw [CountView.amounts_eq]
  simp only [amountBytes, total_field Counts.delivered rfl fun _ _ => rfl, total_field Counts.possible rfl fun _ _ => rfl,
    total_field Counts.produced rfl fun _ _ => rfl, total_field Counts.mass rfl fun _ _ => rfl]
  rfl

theorem events_total (views : List CountView) (frame : Nat) : (total views).events frame =
    eventBytes frame (fun p => (views.map fun v => p v.counts).sum) fun p => views.any p := by
  rw [CountView.events_eq]
  simp only [eventBytes, total_field Counts.breaks rfl fun _ _ => rfl, total_field Counts.rovingEnds rfl fun _ _ => rfl,
    total_field Counts.piecedOk rfl fun _ _ => rfl, total_field Counts.piecedFailed rfl fun _ _ => rfl,
    total_field Counts.rogues rfl fun _ _ => rfl, total_field Counts.doffs rfl fun _ _ => rfl,
    total_field Counts.stoppedSeconds rfl fun _ _ => rfl, total_field Counts.doffWaitSeconds rfl fun _ _ => rfl]
  rfl

/-- What a read of one record reads, of the sums and flags of all frames. -/
def sumOver (v : FrameId → CountView) (p : Counts → Nat) : Nat := ((List.finRange 48).map fun f => p (v f).counts).sum

def anyOf (v : FrameId → CountView) (p : CountView → Bool) : Bool := (List.finRange 48).any fun f => p (v f)

theorem map_views (v : FrameId → CountView) (p : Counts → Nat) :
    (((List.finRange 48).map v).map fun v => p v.counts).sum = sumOver v p := by
  rw [List.map_map]
  rfl

theorem any_views (v : FrameId → CountView) (p : CountView → Bool) : ((List.finRange 48).map v).any p = anyOf v p := by
  rw [List.any_map]
  rfl

/-- The view of a frame's current record. -/
def State.currentView (s : State) (f : FrameId) : CountView := (s.scu.current.get f).view

/-- The view of a frame's closed record. -/
def State.closedView (s : State) (f : FrameId) : CountView := (s.scu.closed.get f).view

theorem current_items : s.scu.current.items.map CountRecord.view = (List.finRange 48).map s.currentView := by
  rw [Tab.items_eq, List.map_map]
  rfl

theorem closed_items : s.scu.closed.items.map ClosedRecord.view = (List.finRange 48).map s.closedView := by
  rw [Tab.items_eq, List.map_map]
  rfl

theorem efficiency_total (v : FrameId → CountView) :
    efficiency (total ((List.finRange 48).map v)).counts.produced (total ((List.finRange 48).map v)).counts.possible
      = efficiency (sumOver v Counts.produced) (sumOver v Counts.possible) := by
  rw [total_field Counts.produced rfl fun _ _ => rfl, total_field Counts.possible rfl fun _ _ => rfl, map_views, map_views]

/-- The data of a frame's COUNTS-READ (R180). -/
theorem State.frameCounts_eq (f : FrameId) :
    let label := rowBytes [(2, (s.scu.closed.get f).shift), (1, (s.scu.closed.get f).lineNumber.val)]
    s.frameCounts f 0 = amountBytes f.val (fun p => p (s.currentView f).counts) (fun p => p (s.currentView f))
        (efficiency (s.currentView f).counts.produced (s.currentView f).counts.possible)
      ∧ s.frameCounts f 1 = eventBytes f.val (fun p => p (s.currentView f).counts) (fun p => p (s.currentView f))
      ∧ s.frameCounts f 2 = amountBytes f.val (fun p => p (s.closedView f).counts) (fun p => p (s.closedView f))
          (s.scu.closed.get f).efficiency ++ label
      ∧ s.frameCounts f 3 = eventBytes f.val (fun p => p (s.closedView f).counts) (fun p => p (s.closedView f)) ++ label := by
  simp only [State.frameCounts, CountView.amounts_eq, CountView.events_eq]
  exact ⟨rfl, rfl, rfl, rfl⟩

/-- The data of the line's COUNTS-READ (R181). -/
theorem State.lineCounts_eq :
    let label := rowBytes [(2, (s.scu.closed.get 0).shift), (1, (s.scu.closed.get 0).lineNumber.val)]
    s.lineCounts 0 = amountBytes 0xFF (sumOver s.currentView) (anyOf s.currentView)
        (efficiency (sumOver s.currentView Counts.produced) (sumOver s.currentView Counts.possible))
      ∧ s.lineCounts 1 = eventBytes 0xFF (sumOver s.currentView) (anyOf s.currentView)
      ∧ s.lineCounts 2 = amountBytes 0xFF (sumOver s.closedView) (anyOf s.closedView)
          (efficiency (sumOver s.closedView Counts.produced) (sumOver s.closedView Counts.possible)) ++ label
      ∧ s.lineCounts 3 = eventBytes 0xFF (sumOver s.closedView) (anyOf s.closedView) ++ label := by
  simp only [State.lineCounts, current_items, closed_items, efficiency_total, amounts_total, events_total, map_views, any_views]
  exact ⟨trivial, trivial, rfl, rfl⟩

end Sys2Proof.Machine
end

section
/-! The answers of the reads (R19, R30 to R33). -/

namespace Sys2Proof.Machine

variable {s : State}

/-! ### Lengths of the data: at most 38 bytes (R16) -/

theorem length_fieldBytes_le (widths vals : List Nat) : (fieldBytes widths vals).length ≤ widths.sum := by
  induction widths generalizing vals with
  | nil => simp [fieldBytes]
  | cons w ws ih =>
    cases vals with
    | nil => simp [fieldBytes]
    | cons v vs =>
      have tail := ih vs
      rw [fieldBytes_eq] at tail ⊢
      rw [List.zip_cons_cons, rowBytes_cons, List.length_append, beBytes_length, List.sum_cons]
      dsimp only
      omega

theorem State.length_entryBytes {table index : Nat} {data : List Byte} (h : s.entryBytes table index = some data) :
    data.length ≤ 38 := by
  have short : ∀ {widths vals : List Nat}, widths.sum ≤ 38 → fieldBytes widths vals = data → data.length ≤ 38 :=
    fun fits e => e ▸ (length_fieldBytes_le _ _).trans fits
  unfold State.entryBytes at h
  split at h
  case h_2 =>
    split at h
    · dsimp only at h
      split at h
      · exact short (by decide) (Option.some.inj h)
      · exact short (by decide) (Option.some.inj h)
    · cases h
  all_goals
    split at h
    · exact short (by decide) (Option.some.inj h)
    · cases h

theorem State.entryBytes_none {table index : Nat} (valid : table ≤ 7)
    (h : [48, 32, 8, 12, 8, 8, 1, 256].getD table 0 ≤ index) : s.entryBytes table index = none := by
  match table with
  | 0 | 2 | 3 | 4 | 5 | 7 => exact dif_neg (Nat.not_lt.mpr h)
  | 1 => exact if_neg (Nat.not_lt.mpr h)
  | 6 => exact if_neg (Nat.one_le_iff_ne_zero.mp h)
  | n + 8 => omega

theorem State.length_frameData (f : FrameId) : (s.frameData f).length = 24 := by
  rw [State.frameData_eq, length_rowBytes]
  rfl

theorem State.length_dofferData (d : DofferId) : (s.dofferData d).length = 13 := by
  rw [State.dofferData_eq, length_rowBytes]
  rfl

theorem State.length_carrierData (c : CarrierId) : (s.carrierData c).length = 11 := by
  rw [State.carrierData_eq, length_rowBytes]
  rfl

theorem State.length_aisleData (a : AisleId) : (s.aisleData a).length = 4 := by
  rw [State.aisleData_eq, length_rowBytes]
  rfl

theorem State.length_freeBytes (n : Nat) : (s.freeBytes n).length = n := by
  simp [State.freeBytes]

theorem length_workBytes (assignment : Option Assignment) (free : List Byte) : (workBytes assignment free).length ≤ 5 := by
  cases assignment with
  | none =>
    simp [workBytes]
    omega
  | some x => exact (length_rowBytes _).le

theorem length_faultBytes (fault : FaultRecord) (free : List Byte) : (faultBytes fault free).length ≤ 5 + free.length := by
  cases fault with
  | none =>
    simp [faultBytes]
  | assignment f side i => simp [faultBytes, beBytes_length]
  | move a =>
    simp [faultBytes, beBytes_length]
    omega

theorem State.length_robotData (k : RobotId) {free : List Byte} (h : free.length ≤ 8) : (s.robotData k free).length ≤ 38 := by
  have work := length_workBytes (s.robot k).assignment free
  have fault := length_faultBytes (s.robot k).faultRecord (freeRest (s.robot k).assignment free)
  have rest : (freeRest (s.robot k).assignment free).length ≤ free.length := by
    unfold freeRest
    split
    · simp
    · exact le_refl _
  rw [State.robotData_eq]
  simp only [List.length_append, length_rowBytes, List.map_cons, List.map_nil, List.sum_cons, List.sum_nil]
  omega

theorem Robot.openBytes_le (r : Robot) : r.openBytes ≤ 8 := by
  unfold Robot.openBytes
  cases r.assignment <;> cases r.faultRecord <;> simp

theorem State.length_listEntries {list count : Nat} (first : Nat) (free : List Byte) (valid : list ≤ 3)
    (h : count ≤ listLimit list) : (s.listEntries list first count free).length ≤ 37 := by
  have most : ∀ {α : Type} {f : α → List Byte} {n : Nat} (l : List α), (∀ a, (f a).length ≤ n) → n * count ≤ 37 →
      (((l.drop first).take count).flatMap f).length ≤ 37 := fun {α f n} l each fits => by
    have all := length_flatMap_le (l := (l.drop first).take count) fun a _ => each a
    have taken : ((l.drop first).take count).length ≤ count := by simp
    exact (all.trans (Nat.mul_le_mul_left n taken)).trans fits
  match list with
  | 0 =>
    have entries := length_flatMap_le (n := 9) (l := ((s.smu.rogues.drop first).take count).zipIdx)
      (f := fun p => rogueBytes p.1 ((free.drop (4 * p.2)).take 4)) fun p _ => by
        simp only [rogueBytes, List.length_append, beBytes_length]
        split
        · simp [beBytes_length]
        · simp
          omega
    have taken : ((s.smu.rogues.drop first).take count).zipIdx.length ≤ count := by simp
    have fits : count ≤ 4 := h
    exact entries.trans (by omega)
  | 1 =>
    have fits : count ≤ 37 := h
    exact most (n := 1) _ (fun f => by simp [beBytes_length]) (by omega)
  | 2 =>
    have fits : count ≤ 5 := h
    exact most (n := 7) _ (fun e => by simp [beBytes_length]) (by omega)
  | 3 =>
    have fits : count ≤ 4 := h
    exact most (n := 8) _ (fun e => by simp [beBytes_length]) (by omega)
  | n + 4 => omega

theorem State.length_frameCounts (f : FrameId) {record : Nat} (h : record ≤ 3) : (s.frameCounts f record).length ≤ 38 := by
  obtain ⟨h0, h1, h2, h3⟩ := s.frameCounts_eq f
  match record with
  | 0 => simp [h0, length_amountBytes]
  | 1 => simp [h1, length_eventBytes]
  | 2 => simp [h2, length_amountBytes, beBytes_length]
  | 3 => simp [h3, length_eventBytes, beBytes_length]
  | n + 4 => omega

theorem State.length_lineCounts {record : Nat} (h : record ≤ 3) : (s.lineCounts record).length ≤ 38 := by
  obtain ⟨h0, h1, h2, h3⟩ := s.lineCounts_eq
  match record with
  | 0 => simp [h0, length_amountBytes]
  | 1 => simp [h1, length_eventBytes]
  | 2 => simp [h2, length_amountBytes, beBytes_length]
  | 3 => simp [h3, length_eventBytes, beBytes_length]
  | n + 4 => omega

end Sys2Proof.Machine
end

section
/-! What each read answers, and the statement of the reads (R19, R30 to R33). -/

namespace Sys2Proof.Machine

variable {s : State} {seq : Nat}

/-- A read of the state that the TSM takes. -/
theorem exec_taken {c : Instr} {k : State → State} {t : State} (h : s.Manages) (row : exec c s = .next (s.management k))
    (answer : k s = t) : exec c s = .next t :=
  row.trans (congrArg Host.Outcome.next ((State.management_taken h).trans answer))

/-! ### TABLE-READ -/

theorem State.readTable_badTable {table index : Nat} (h : 7 < table) :
    s.readTable seq table index = s.offerUp (replyTelegram seq .badTable 0 []) := if_pos h

theorem State.readTable_badIndex {table index : Nat} (valid : table ≤ 7)
    (h : [48, 32, 8, 12, 8, 8, 1, 256].getD table 0 ≤ index) :
    s.readTable seq table index = s.offerUp (replyTelegram seq .badIndex 0 []) := by
  rw [State.readTable, if_neg (Nat.not_lt.mpr valid), State.entryBytes_none valid h]
  rfl

theorem State.readTable_ok {table index : Nat} {data : List Byte} (valid : table ≤ 7)
    (h : s.entryBytes table index = some data) :
    s.readTable seq table index = s.offerUp (replyTelegram seq .ok 0 data) := by
  rw [State.readTable, if_neg (Nat.not_lt.mpr valid), h]
  rfl

/-! ### STATE-READ -/

theorem State.readState_badClass {cls index : Nat} (h : 5 < cls) :
    s.readState seq cls index = s.offerUp (replyTelegram seq .badValue 1 []) := by
  obtain ⟨n, rfl⟩ : ∃ n, cls = n + 6 := ⟨cls - 6, by omega⟩
  rfl

theorem State.readState_badIndex {cls index : Nat} (valid : cls ≤ 5) (h : [48, 12, 8, 8, 1536, 64].getD cls 0 ≤ index) :
    s.readState seq cls index = s.offerUp (replyTelegram seq .badIndex 0 []) := by
  match cls with
  | 0 | 1 | 2 | 3 | 5 => exact dif_neg (Nat.not_lt.mpr h)
  | 4 =>
    have large : 1536 ≤ index := h
    refine if_neg ?_
    rw [State.frameEnabled_iff]
    omega
  | n + 6 => omega

theorem State.readState_frame {f : FrameId} (dau : s.NoneFlying (dauFirst f)) (spu : s.NoneFlying (spuFirst f))
    (smu : s.NoneFlying (smuFirst f)) :
    s.readState seq 0 f.val = s.offerUp (replyTelegram seq .ok 0 (s.frameData f)) := by
  refine (dif_pos f.isLt).trans ?_
  dsimp only
  rw [State.spuReady_none dau spu, State.smuReady_none smu]
  rfl

theorem State.readState_robot {k : RobotId} (pcd : s.NoneFlying pcdBefore) :
    s.readState seq 1 k.val = (s.drew (s.robot k).openBytes).offerUp
      (replyTelegram seq .ok 0 (s.robotData k (s.freeBytes (s.robot k).openBytes))) := by
  refine (dif_pos k.isLt).trans ?_
  dsimp only
  rw [State.pcdReadyRobot_none pcd]
  rfl

theorem State.frameEnabled_val (f : FrameId) : s.frameEnabled f.val = s.enabled f := dif_pos f.isLt

/-- A group is named by its object index (spec/09 section 9.1). -/
theorem State.readState_groupIndex (f : FrameId) (g : GroupId) : s.readState seq 4 (f.val * 32 + g.val) =
    if s.enabled f = true ∧ (s.entry f).hasGroup g.val = true then
      s.replyDrawing seq (match (s.groupRecord f g).bind Group.sequence with | some _ => 0 | none => 2) (s.groupData f g)
    else s.offerUp (replyTelegram seq .badIndex 0 []) := by
  have frame : (f.val * 32 + g.val) / 32 = f.val := by omega
  have group : (f.val * 32 + g.val) % 32 = g.val := by omega
  have frameId : frameAt f.val = f := Fin.ext (Nat.mod_eq_of_lt f.isLt)
  have groupId : Fin.ofNat 32 g.val = g := Fin.ext (Nat.mod_eq_of_lt g.isLt)
  simp only [State.readState, frame, group, frameId, groupId, State.frameEnabled_val]
  rfl

theorem State.readState_noGroup {f : FrameId} {g : GroupId} (h : s.enabled f = false ∨ (s.entry f).hasGroup g.val = false) :
    s.readState seq 4 (f.val * 32 + g.val) = s.offerUp (replyTelegram seq .badIndex 0 []) := by
  rw [State.readState_groupIndex, if_neg]
  rintro ⟨on, has⟩
  obtain off | hasNot := h
  · exact Bool.false_ne_true (off.symm.trans on)
  · exact Bool.false_ne_true (hasNot.symm.trans has)

theorem State.readState_group {f : FrameId} {g : GroupId} {r : Group} (on : s.enabled f = true)
    (has : (s.entry f).hasGroup g.val = true) (record : s.groupRecord f g = some r) :
    let n := if r.sequence = none then 2 else 0
    s.readState seq 4 (f.val * 32 + g.val) =
      (s.drew n).offerUp (replyTelegram seq .ok 0 (s.groupData f g (s.freeBytes n))) := by
  refine (State.readState_groupIndex f g).trans ((if_pos ⟨on, has⟩).trans ?_)
  rw [record, Option.bind_some]
  cases r.sequence <;> rfl

/-! ### MAP-READ -/

theorem State.readMap_badFrame {frame side first count : Nat} (h : 47 < frame) :
    s.readMap seq frame side first count = s.offerUp (replyTelegram seq .badIndex 0 []) := if_pos h

theorem State.readMap_badSide {frame side first count : Nat} (valid : frame ≤ 47)
    (h : side ≠ 0 ∧ side ≠ 1 ∧ side ≠ 0x80 ∧ side ≠ 0x81) :
    s.readMap seq frame side first count = s.offerUp (replyTelegram seq .badValue 2 []) :=
  (if_neg (Nat.not_lt.mpr valid)).trans (if_pos h)

/-- Past its frame and its side, a MAP-READ is judged by its count and its range (R31). -/
theorem State.readMap_side (f : FrameId) (side : Side) (first count : Nat) (detail : Bool) (smu : s.NoneFlying (smuFirst f)) :
    s.readMap seq f.val (side.code + if detail = true then 0x80 else 0) first count =
      if count = 0 ∨ (if detail = true then 19 else 64) < count then s.offerUp (replyTelegram seq .badValue 4 [])
      else if (s.entry f).length side < first + count then s.offerUp (replyTelegram seq .badIndex 0 [])
      else s.offerUp (replyTelegram seq .ok 0 (s.mapData f side first count detail)) := by
  have place : frameAt f.val = f := Fin.ext (Nat.mod_eq_of_lt f.isLt)
  have valid : ¬47 < f.val := by omega
  cases side <;> cases detail <;>
    simp [State.readMap, valid, place, Side.code, sideAt, State.smuReady_none smu, State.replyOk, State.badValue, State.refuse,
      State.reply]

/-- The half byte behind an odd number of spindles is 0 (R31). -/
theorem State.mapData_last (f : FrameId) (side : Side) (first : Nat) {count : Nat} (odd : count % 2 = 1) :
    ((s.mapData f side first count false).getD (count / 2) 0).toNat % 16 = 0 := by
  rw [State.mapData_short]
  simpa using packCodes_last (codes := (List.range count).map fun j => (s.spindle f side (first + j)).state.code)
    (by simpa using odd)

theorem State.length_mapData_le (f : FrameId) (side : Side) (first : Nat) {count : Nat} {detail : Bool}
    (fits : count ≤ if detail = true then 19 else 64) : (s.mapData f side first count detail).length ≤ 38 := by
  obtain ⟨short, long⟩ := State.length_mapData (s := s) f side first count
  cases detail with
  | false =>
    rw [short]
    simp at fits
    omega
  | true =>
    rw [long]
    simp at fits
    omega

/-! ### LIST-READ -/

theorem State.readList_badList {list first count : Nat} (h : 3 < list) :
    s.readList seq list first count = s.offerUp (replyTelegram seq .badValue 1 []) := if_pos h

theorem State.readList_badCount {list first count : Nat} (valid : list ≤ 3) (h : count = 0 ∨ listLimit list < count) :
    s.readList seq list first count = s.offerUp (replyTelegram seq .badValue 3 []) :=
  (if_neg (Nat.not_lt.mpr valid)).trans (if_pos h)

theorem State.readList_ok {list first count : Nat} (valid : list ≤ 3) (some : 0 < count) (fits : count ≤ listLimit list) :
    s.readList seq list first count = (s.drew (s.listOpen list first count)).offerUp (replyTelegram seq .ok 0
      (beBytes 1 (s.listLength list) ++ s.listEntries list first count (s.freeBytes (s.listOpen list first count)))) :=
  (if_neg (Nat.not_lt.mpr valid)).trans (if_neg (by omega))

/-! ### COUNTS-READ -/

theorem State.readCounts_badFrame {frame record clear : Nat} (h : 47 < frame) (line : frame ≠ 0xFF) :
    s.readCounts seq frame record clear = s.offerUp (replyTelegram seq .badIndex 0 []) := if_pos ⟨h, line⟩

theorem State.readCounts_badRecord {frame record clear : Nat} (valid : frame ≤ 47 ∨ frame = 0xFF) (h : 3 < record) :
    s.readCounts seq frame record clear = s.offerUp (replyTelegram seq .badValue 2 []) :=
  (if_neg (by omega)).trans (if_pos h)

theorem State.readCounts_badClear {frame record clear : Nat} (valid : frame ≤ 47 ∨ frame = 0xFF) (hr : record ≤ 3)
    (h : 1 < clear) : s.readCounts seq frame record clear = s.offerUp (replyTelegram seq .badValue 3 []) :=
  (if_neg (by omega)).trans ((if_neg (by omega)).trans (if_pos h))

theorem State.readCounts_ok {frame record clear : Nat} (valid : frame ≤ 47 ∨ frame = 0xFF) (hr : record ≤ 3) (hc : clear ≤ 1) :
    s.readCounts seq frame record clear = (if clear = 1 then s.clearCounters else s).offerUp (replyTelegram seq .ok 0
      (if frame = 0xFF then s.lineCounts record else s.frameCounts (frameAt frame) record)) :=
  (if_neg (by omega)).trans ((if_neg (by omega)).trans (if_neg (by omega)))

/-- Settles O51: the codes, the data of everything that a read can name, then each read's answers in the order of its checks. -/
theorem readsReply : Obligations.ReadsReply := by
  refine ⟨⟨⟨rfl, rfl, rfl, rfl, rfl, rfl, rfl, rfl⟩, fun s => ?_⟩, fun seq s h => ?_⟩
  · intro bytes bit left
    refine ⟨State.frameData_eq, fun k free => ?_, State.dofferData_eq, State.carrierData_eq, fun f g r free record =>
      ⟨fun q hq => State.groupData_sequence free record hq, fun hq => State.groupData_noSequence free record hq⟩,
      ⟨State.entryBytes_frame, fun n => ⟨fun fits => State.entryBytes_article fits, State.entryBytes_curve n⟩,
        fun n length small => State.entryBytes_zone length small, fun n => dif_pos n.isLt, fun n => dif_pos n.isLt,
        fun n => dif_pos n.isLt, rfl, State.entryBytes_disposition⟩,
      ⟨rfl, rfl, fun list first count => ⟨State.listOpen_held, State.listOpen_over⟩⟩, State.aisleData_eq,
      fun f side first count => ?_, fun first count free =>
        ⟨State.listEntries_rogues free, State.listEntries_queue first count free,
          State.listEntries_set first count free, State.listEntries_verify first count free⟩, ?_⟩
    · refine ⟨workBytes (s.robot k).assignment free,
        faultBytes (s.robot k).faultRecord (freeRest (s.robot k).assignment free), State.robotData_eq k free, fun x hx => ?_,
        fun hx => ?_, fun hx => ?_, fun f side i hx => ?_, fun a hx => ?_⟩
      all_goals
        rw [hx]
        rfl
    · obtain ⟨short, long⟩ := State.length_mapData (s := s) f side first count
      refine ⟨short, long, fun j hj => State.mapData_spindle f side first hj, fun odd => ?_⟩
      exact State.mapData_last f side first odd
    · exact ⟨fun f => State.frameCounts_eq f, State.lineCounts_eq⟩
  · intro answers gives
    refine ⟨fun table index => ⟨fun bad => exec_taken h rfl (State.readTable_badTable bad),
        fun valid bad => exec_taken h rfl (State.readTable_badIndex valid bad),
        fun data valid entry => ⟨State.length_entryBytes entry, exec_taken h rfl (State.readTable_ok valid entry)⟩⟩,
      fun cls index bad => exec_taken h rfl (State.readState_badClass bad),
      fun cls index valid bad => exec_taken h rfl (State.readState_badIndex valid bad),
      fun f dau spu smu => ⟨by rw [State.length_frameData]; decide, exec_taken h rfl (State.readState_frame dau spu smu)⟩,
      fun k pcd => ⟨State.length_robotData k (by rw [State.length_freeBytes]; exact Robot.openBytes_le _),
        exec_taken h rfl (State.readState_robot pcd)⟩,
      fun d => ⟨by rw [State.length_dofferData]; decide, exec_taken h rfl (dif_pos d.isLt)⟩,
      fun c => ⟨by rw [State.length_carrierData]; decide, exec_taken h rfl (dif_pos c.isLt)⟩,
      fun f g => ⟨fun bad => exec_taken h rfl (State.readState_noGroup bad), fun r record on has => ?_⟩,
      fun a => ⟨by rw [State.length_aisleData]; decide, exec_taken h rfl (dif_pos a.isLt)⟩,
      fun frame side first count bad => exec_taken h rfl (State.readMap_badFrame bad),
      fun frame side first count valid h0 h1 h2 h3 => exec_taken h rfl (State.readMap_badSide valid ⟨h0, h1, h2, h3⟩),
      fun f side first count detail => ?_, fun list first count => ?_, fun frame record clear => ?_⟩
    · have read := State.readState_group (seq := seq) on has record
      refine ⟨fun q hq => ?_, fun hq => ?_⟩
      · rw [hq, if_neg (by nofun)] at read
        exact ⟨by rw [State.groupData_sequence [] record hq, length_rowBytes]; simp, exec_taken h rfl read⟩
      · rw [hq, if_pos rfl] at read
        refine ⟨?_, exec_taken h rfl read⟩
        rw [State.groupData_noSequence _ record hq]
        simp [beBytes_length, State.length_freeBytes]
    · intro c most smu
      have read := State.readMap_side (seq := seq) f side first count detail smu
      refine ⟨fun bad => ?_, fun some fits bad => ?_, fun some fits within => ?_⟩
      · exact exec_taken h rfl (read.trans (if_pos bad))
      · exact exec_taken h rfl (read.trans ((if_neg (by omega)).trans (if_pos bad)))
      · refine ⟨State.length_mapData_le f side first fits, ?_⟩
        exact exec_taken h rfl (read.trans ((if_neg (by omega)).trans (if_neg (by omega))))
    · intro c n
      refine ⟨fun bad => exec_taken h rfl (State.readList_badList bad),
        fun valid bad => exec_taken h rfl (State.readList_badCount valid bad),
        fun valid some fits => ⟨?_, exec_taken h rfl (State.readList_ok valid some fits)⟩⟩
      have entries := State.length_listEntries (s := s) first (s.freeBytes n) valid fits
      rw [List.length_append, beBytes_length]
      omega
    · intro c t
      refine ⟨fun bad line => exec_taken h rfl (State.readCounts_badFrame bad line),
        fun valid bad => exec_taken h rfl (State.readCounts_badRecord valid bad),
        fun valid hr bad => exec_taken h rfl (State.readCounts_badClear valid hr bad), fun valid hr hc => ?_,
        fun line hr hc => ?_⟩
      · refine ⟨State.length_frameCounts _ hr, exec_taken h rfl ((State.readCounts_ok (.inl valid) hr hc).trans ?_)⟩
        rw [if_neg (by omega)]
        rfl
      · refine ⟨State.length_lineCounts hr, exec_taken h rfl ((State.readCounts_ok (.inr line) hr hc).trans ?_)⟩
        rw [if_pos line]
        rfl

end Sys2Proof.Machine
end

section
/-! The state after a power-on reset (R186, R187). -/

namespace Sys2Proof.Machine

variable (f : FrameId)

/-! ### Records of the state after a power-on reset -/

theorem reset_counter (c : LinkCounter) : State.reset.counter c = 0 := Tab.get_fill _ _

theorem reset_entry : State.reset.entry f = .initial := Tab.get_fill _ _

theorem reset_article (a : ArticleId) : State.reset.store.articles.get a = .initial := Tab.get_fill _ _

theorem reset_zone (z : ZoneId) : State.reset.store.zones.get z = .initial := Tab.get_fill _ _

theorem reset_patrol (z : ZoneId) : State.reset.patrol z = [] := by
  rw [State.patrol, reset_zone]
  rfl

theorem reset_deliveryRecord : State.reset.deliveryRecord f = .initial := Tab.get_fill _ _

theorem reset_map : State.reset.map f = .empty := Tab.get_fill _ _

theorem reset_spindle (side : Side) (i : Nat) : State.reset.spindle f side i =
    { state := .vacant, attempts := 0, repeats := 0 } := by
  rw [State.spindle, reset_map]
  cases side <;> rfl

theorem reset_groupRecord (g : GroupId) : State.reset.groupRecord f g = none := by
  have groups : State.reset.rsu.groups.get f = .fill 32 none := Tab.get_fill _ _
  rw [State.groupRecord, groups, Tab.get_fill]

theorem reset_count : State.reset.count f = .lostRecord := Tab.get_fill _ _

theorem reset_closed : State.reset.scu.closed.get f = .initial 0 := Tab.get_fill _ _

theorem reset_image : State.reset.retention.images.get f = .empty := Tab.get_fill _ _

theorem reset_flagSet (x : LineFlag) : State.reset.flagSet x = true ↔ x = .lost := by
  cases x <;> decide

theorem Disposition.initial_copy (k : Fin 256) : (Disposition.initial k).copy = false ↔ k = 0x01 ∨ k = 0x04 ∨ k = 0x11 := by
  simp [Disposition.initial, Fin.ext_iff]
  omega

theorem Disposition.initial_pass (k : Fin 256) : (Disposition.initial k).pass = false ↔ 0x20 ≤ k.val ∧ k.val ≤ 0x30 := by
  simp [Disposition.initial]

theorem reset_disposition (k : Fin 256) : State.reset.link.disposition.get k = .initial k := Tab.get_build _ _

/-! ### It is sound -/

theorem reset_mapsCounted : State.reset.mapsCounted := fun f => by
  rw [reset_map]
  exact FrameMap.empty_counted

theorem reset_residuesBounded : State.reset.residuesBounded := by
  refine ⟨fun f => ?_, ⟨fun a => ?_, fun f a former => ?_, fun f => ?_, fun f on => ?_⟩, fun f => ?_, fun f => ?_⟩
  · rw [reset_deliveryRecord]
    decide
  · rw [reset_article]
    decide
  · rw [reset_deliveryRecord] at former
    cases former
  · rw [reset_entry]
    decide
  · rw [State.enabled, reset_entry] at on
    cases on
  · rw [reset_count]
    decide
  · rw [reset_image]
    decide

theorem reset_commandsBlocked : State.reset.commandsBlocked := fun k lo hi => by
  rw [reset_disposition]
  exact Disposition.initial_blocked k lo hi

theorem reset_productionLawful : State.reset.productionLawful := by
  refine ⟨reset_mapsCounted, fun f => ?_, fun f => ?_, fun f => ?_, fun c h => ?_, fun c h => ?_⟩
  · rw [reset_count]
    exact le_refl 0
  · rw [reset_closed]
    exact le_refl 0
  · rw [reset_image]
    exact le_refl 0
  · cases h
  · cases h

/-- Settles O57: the values table by table, then each bound of them. -/
theorem resetIsSound : Obligations.ResetIsSound := by
  refine ⟨?_, ⟨by decide, by decide⟩, fun c => (reset_counter c).le.trans (Nat.zero_le _),
    ⟨Nat.zero_le _, Nat.zero_le _, Nat.zero_le _⟩, reset_mapsCounted, reset_residuesBounded, reset_commandsBlocked,
    reset_productionLawful⟩
  intro s zero
  refine ⟨fun k => ?_, rfl, rfl, rfl, rfl, reset_counter, reset_entry, reset_article, fun z => ?_, fun k => Tab.get_fill _ _,
    fun d => Tab.get_fill _ _, fun c => Tab.get_fill _ _, rfl, reset_flagSet, rfl, rfl, rfl, rfl, rfl, reset_deliveryRecord,
    reset_spindle, rfl, reset_map, rfl, rfl, fun k => Tab.get_fill _ _, rfl, fun f => Tab.get_fill _ _, rfl,
    fun a => Tab.get_fill _ _, rfl, fun d => Tab.get_fill _ _, rfl, fun f => Tab.get_fill _ _, fun reach => rfl,
    fun d => Tab.get_fill _ _, rfl, fun f => Tab.get_fill _ _, rfl, reset_groupRecord, rfl, rfl, rfl, fun c => Tab.get_fill _ _,
    reset_count, reset_closed, rfl, rfl, rfl, rfl, rfl, reset_image, rfl, rfl, rfl, rfl, rfl, rfl, rfl, rfl,
    fun line r p low mv uses q => ⟨fun f => ?_, rfl⟩⟩
  · rw [reset_disposition]
    exact ⟨Disposition.initial_copy k, Disposition.initial_pass k⟩
  · rw [reset_zone]
    exact ⟨rfl, rfl, rfl, reset_patrol z⟩
  · rw [reset_closed]
    exact Tab.get_fill _ _

end Sys2Proof.Machine
end

section
/-! What goes out with a line reset: the hand-offs before it, STARTUP and the STATE-REQUEST, and the alarms behind them (R188,
R189). -/

namespace Sys2Proof.Machine

variable {s t u v : State}

/-! ### The hand-offs before it -/

theorem State.drain_idle (n : Nat) (h : s.inFlight = []) : s.drain n = s := by
  cases n with
  | zero => rfl
  | succ n => simp only [State.drain, h]

/-- The oldest hand-off is taken by its own command (R188). -/
theorem State.drain_handOff {n : Nat} {c : Instr} {rest : List Instr} (h : s.inFlight = c :: rest)
    (handOff : isHandOff c = true) (taken : exec c s = .next t) : s.drain (n + 1) = t.drain n := by
  have received : s.receive c = t := (State.receive_handOff handOff).trans (State.after_of_next taken)
  simp only [State.drain, h, received]

/-! ### Operations of the link and the store -/

/-- Two states whose link and store are the same. -/
structure State.SameTalk (s t : State) : Prop where
  link : s.link = t.link
  store : s.store = t.store

theorem State.SameTalk.latch (h : s.SameTalk t) (x : LineFlag) : (s.latch x).SameTalk (t.latch x) :=
  ⟨h.link, by rw [State.latch_store, State.latch_store, h.store]⟩

theorem State.SameTalk.offerUp (h : s.SameTalk t) (tel : Telegram) : (s.offerUp tel).SameTalk (t.offerUp tel) := by
  unfold State.offerUp
  rw [h.link]
  split
  · exact ⟨by rw [State.setUpQueue_link, State.setUpQueue_link, h.link], h.store⟩
  · refine State.SameTalk.latch (s := s.bump _) (t := t.bump _) ⟨?_, h.store⟩ _
    rw [State.bump_link, State.bump_link, h.link]

theorem State.SameTalk.sendUp (h : s.SameTalk t) (kind : Nat) (payload : List Byte) :
    (s.sendUp kind payload).SameTalk (t.sendUp kind payload) := by
  unfold State.sendUp
  rw [h.link]
  refine State.SameTalk.offerUp ?_ _
  exact ⟨rfl, h.store⟩

theorem State.SameTalk.alarm (h : s.SameTalk t) (kind : AlarmKind) (cls index detail : Nat) :
    (s.alarm kind cls index detail).SameTalk (t.alarm kind cls index detail) := by
  unfold State.alarm
  rw [h.store]
  split
  · split
    · exact ⟨h.link, by rw [State.holdAlarm, State.holdAlarm, h.store]⟩
    · exact h.sendUp _ _
  · exact h

theorem State.SameTalk.foldl {α : Type} {op : State → α → State}
    (each : ∀ {s t : State} a, s.SameTalk t → (op s a).SameTalk (op t a)) (h : s.SameTalk t) (l : List α) :
    (l.foldl op s).SameTalk (l.foldl op t) := by
  induction l generalizing s t with
  | nil => exact h
  | cons a rest ih => exact ih (each a h)

/-- `t` is `s` but for its link, its line flags and its held alarms. -/
def State.Spoken (s t : State) : Prop :=
  t = { s with link := t.link, store := { s.store with flags := t.store.flags, heldAlarms := t.store.heldAlarms } }

theorem State.Spoken.refl : s.Spoken s := rfl

theorem State.Spoken.trans (h : s.Spoken t) (h' : t.Spoken u) : s.Spoken u := by
  refine Eq.trans h' ?_
  conv_lhs => rw [h]

theorem State.spoken_setLink (link : Link) : s.Spoken { s with link } := rfl

theorem State.spoken_offerUp (tel : Telegram) : s.Spoken (s.offerUp tel) := by
  unfold State.offerUp
  split <;> rfl

theorem State.spoken_sendUp (kind : Nat) (payload : List Byte) : s.Spoken (s.sendUp kind payload) :=
  (State.spoken_setLink _).trans (State.spoken_offerUp _)

theorem State.spoken_sendFloor (node kind : Nat) (payload : List Byte) : s.Spoken (s.sendFloor node kind payload) := by
  unfold State.sendFloor State.offerFloor
  dsimp only
  split <;> rfl

theorem State.spoken_alarm (kind : AlarmKind) (cls index detail : Nat) : s.Spoken (s.alarm kind cls index detail) := by
  unfold State.alarm
  split
  · split
    · rfl
    · exact State.spoken_sendUp _ _
  · rfl

theorem State.spoken_foldl {α : Type} {op : State → α → State} (each : ∀ (s : State) a, s.Spoken (op s a)) (l : List α) :
    s.Spoken (l.foldl op s) := by
  induction l generalizing s with
  | nil => exact .refl
  | cons a rest ih => exact (each s a).trans ih

theorem State.spoken_announce (outcome : Nat) : s.Spoken (s.announce outcome) :=
  (State.spoken_sendUp _ _).trans (State.spoken_sendFloor _ _ _)

theorem State.spoken_offerHeld : s.Spoken s.offerHeld := by
  have emptied : s.Spoken { s with store := { s.store with heldAlarms := [] } } := rfl
  exact emptied.trans (State.spoken_foldl (fun _ _ => State.spoken_sendUp _ _) _)

/-- `t` is `s` but for its link, its store and its RSU. -/
def State.SameApart (s t : State) : Prop := t = { s with link := t.link, store := t.store, rsu := t.rsu }

theorem State.SameApart.refl : s.SameApart s := rfl

theorem State.SameApart.trans (h : s.SameApart t) (h' : t.SameApart u) : s.SameApart u := by
  refine Eq.trans h' ?_
  conv_lhs => rw [h]

theorem State.Spoken.apart (h : s.Spoken t) : s.SameApart t := by
  have store := congrArg State.store h
  have rsu := congrArg State.rsu h
  refine Eq.trans h ?_
  conv_rhs => rw [store, rsu]

/-! ### STARTUP and the STATE-REQUEST -/

/-- Into queues that the reset has emptied, STARTUP and the broadcast STATE-REQUEST are admitted (R53, R189). -/
theorem State.announce_emptied (h : s.link.upQueue = []) (h' : s.link.floorQueue = []) (outcome : Nat) : s.announce outcome =
    { s with link := { s.link with
        upQueue := [{ kind := 0x62#8, node := 0xFF#8, seq := s.link.upSeq,
                      payload := [BitVec.ofNat 8 s.store.lineNumber.val, BitVec.ofNat 8 s.retention.cause.code,
                                  BitVec.ofNat 8 outcome, BitVec.ofNat 8 s.retention.count] }]
        floorQueue := [{ kind := 0x26#8, node := 0x7F#8, seq := s.link.floorSeq, payload := [] }]
        upSeq := s.link.upSeq + 1
        floorSeq := s.link.floorSeq + 1 } } := by
  simp [State.announce, State.sendUp, State.offerUp, sendStateRequest, State.sendFloor, State.offerFloor, State.setUpQueue,
    State.setFloorQueue, h, h', beBytes_one, partNode, floorBroadcast]

end Sys2Proof.Machine
end

section
/-! The re-admissions of a line reset (R152, R156). -/

namespace Sys2Proof.Machine

variable {s t u v : State}

/-! ### Groups changed, admitted and refused -/

theorem State.groupRecord_setGroup (f f' : FrameId) (g g' : GroupId) (r : Option Group) :
    (s.setGroup f g r).groupRecord f' g' = if f = f' ∧ g = g' then r else s.groupRecord f' g' := by
  unfold State.setGroup State.groupRecord
  rw [Tab.get_modify]
  by_cases frame : f = f'
  · simp [frame, Tab.get_set]
  · simp [frame]

theorem State.groupRecord_modGroup (f f' : FrameId) (g g' : GroupId) (upd : Group → Group) :
    (s.modGroup f g upd).groupRecord f' g' =
      if f = f' ∧ g = g' then (s.groupRecord f g).map upd else s.groupRecord f' g' := by
  unfold State.modGroup
  cases record : s.groupRecord f g with
  | none =>
    dsimp only
    split
    next same => rw [← same.1, ← same.2, record, Option.map_none]
    next => rfl
  | some r => exact State.groupRecord_setGroup f f' g g' (some (upd r))

theorem State.enqueue_eq (f : FrameId) (g : GroupId) : s.enqueue f g =
    { s with rsu := {
        groups := (s.modGroup f g fun r => { r with state := .queued, sequence := some s.rsu.nextSequence }).rsu.groups
        set := s.rsu.set ++ [{ frame := f, group := g, sequence := s.rsu.nextSequence }]
        nextSequence := s.rsu.nextSequence + 1
        carriers := s.rsu.carriers } } := by
  unfold State.enqueue State.modGroup
  cases s.groupRecord f g <;> rfl

theorem State.unqueue_eq (f : FrameId) (g : GroupId) : s.unqueue f g =
    { s.latch .replSetFull with
      rsu := { s.rsu with
        groups := (s.modGroup f g fun r => { r with state := .unqueued, sequence := none }).rsu.groups } } := by
  unfold State.unqueue State.modGroup
  cases s.groupRecord f g <;> rfl

theorem State.lowestIdle_none (h : ∀ c, (s.carrier c).state ≠ .idle) : s.lowestIdle = none := by
  simp [State.lowestIdle, h]

/-- The groups at or below their low mark (R153). -/
def State.lowGroup (s : State) (p : FrameId × GroupId) : Bool :=
  match s.groupRecord p.1 p.2 with
  | some r => decide (r.remaining ≤ (s.article p.1).lowMark)
  | none => false

theorem State.lowGroup_iff {p : FrameId × GroupId} {r : Group} (h : s.groupRecord p.1 p.2 = some r) :
    s.lowGroup p = true ↔ r.remaining ≤ (s.article p.1).lowMark := by
  rw [State.lowGroup, h]
  exact decide_eq_true_iff

theorem State.level_ne_ok_iff {f : FrameId} {g : GroupId} {r : Group} (h : s.groupRecord f g = some r) :
    s.level f g ≠ .ok ↔ r.remaining ≤ (s.article f).lowMark := by
  rw [State.level, State.remaining, h]
  unfold levelOf
  dsimp only
  split
  next empty => simp [empty]
  next => split <;> simp_all

/-! ### A state whose groups wait for their admission -/

/-- A group admitted at a place of the order, or refused where the set is full. -/
def Group.admittedAt (r : Group) (lowMark place : Nat) : Group :=
  if r.remaining ≤ lowMark then
    if place < 64 then { r with state := .queued, sequence := some (BitVec.ofNat 16 place) }
    else { r with state := .unqueued, sequence := none }
  else r

/-- The set's entry of the group at a place of the order. -/
def entryAt (x : (FrameId × GroupId) × Nat) : SetEntry := { frame := x.1.1, group := x.1.2, sequence := BitVec.ofNat 16 x.2 }

/-- A group that the full set refuses latches its flag and raises its alarm (R37, R156). -/
def State.refuseGroup (s : State) (p : FrameId × GroupId) : State :=
  State.alarm .replSetFull 4 (groupIndex p.1 p.2) 0 (s.latch .replSetFull)

/-- No group is admitted yet and no carrier can be dispatched (R152, R159). -/
structure State.Unadmitted (u : State) : Prop where
  set : u.rsu.set = []
  next : u.rsu.nextSequence = 0
  carriers : ∀ c, (u.carrier c).state ≠ .idle
  groups : ∀ {f g r}, u.groupRecord f g = some r → r.state = .supplied

/-- What the groups judged so far have made of the state, in their order. -/
structure State.Readmitted (u : State) (done : List (FrameId × GroupId)) (v : State) : Prop where
  apart : u.SameApart v
  frames : v.store.frames = u.store.frames
  articles : v.store.articles = u.store.articles
  carriers : v.rsu.carriers = u.rsu.carriers
  set : v.rsu.set = ((done.filter u.lowGroup).take 64).zipIdx.map entryAt
  next : v.rsu.nextSequence = BitVec.ofNat 16 (min (done.filter u.lowGroup).length 64)
  talk : State.SameTalk (((done.filter u.lowGroup).drop 64).foldl State.refuseGroup u) v
  groups : ∀ f g, v.groupRecord f g = (u.groupRecord f g).map fun r =>
    if (f, g) ∈ done then r.admittedAt (u.article f).lowMark ((done.filter u.lowGroup).idxOf (f, g)) else r

theorem State.Unadmitted.readmitted (h : u.Unadmitted) : u.Readmitted [] u where
  apart := .refl
  frames := rfl
  articles := rfl
  carriers := rfl
  set := h.set
  next := h.next
  talk := ⟨rfl, rfl⟩
  groups f g := by simp

theorem State.Readmitted.article {done : List (FrameId × GroupId)} (h : u.Readmitted done v) (f : FrameId) :
    v.article f = u.article f := by
  simp only [State.article, State.articleId, State.entry, h.frames, h.articles]

theorem State.Readmitted.groupRecord_new {done : List (FrameId × GroupId)} {p : FrameId × GroupId} (h : u.Readmitted done v)
    (new : p ∉ done) : v.groupRecord p.1 p.2 = u.groupRecord p.1 p.2 := by
  rw [h.groups]
  simp [new]

/-- The group that is judged next changes nothing unless it is at or below its low mark (R156). -/
theorem State.Readmitted.judge_other {done : List (FrameId × GroupId)} {p : FrameId × GroupId} (h : u.Readmitted done v)
    (new : p ∉ done) (high : u.lowGroup p = false) : v.judge p.1 p.2 = v := by
  unfold State.judge State.judgeWith
  rw [h.groupRecord_new new]
  split
  next r record =>
    refine if_neg ?_
    rintro ⟨-, low⟩
    have record' : v.groupRecord p.1 p.2 = some r := (h.groupRecord_new new).trans record
    rw [State.level_ne_ok_iff record', h.article] at low
    rw [(State.lowGroup_iff record).mpr low] at high
    cases high
  next => rfl

theorem State.Readmitted.judge_low {done : List (FrameId × GroupId)} {p : FrameId × GroupId} (hu : u.Unadmitted)
    (h : u.Readmitted done v) (new : p ∉ done) (low : u.lowGroup p = true) : v.judge p.1 p.2 =
      if v.rsu.set.length < 64 then v.enqueue p.1 p.2
      else State.alarm .replSetFull 4 (groupIndex p.1 p.2) 0 (v.unqueue p.1 p.2) := by
  have same := h.groupRecord_new new
  cases record : u.groupRecord p.1 p.2 with
  | none => simp [State.lowGroup, record] at low
  | some r =>
    have record' : v.groupRecord p.1 p.2 = some r := same.trans record
    have level : v.level p.1 p.2 ≠ .ok := by
      rw [State.level_ne_ok_iff record', h.article]
      exact (State.lowGroup_iff record).mp low
    have idle : (v.enqueue p.1 p.2).lowestIdle = none := by
      refine State.lowestIdle_none fun c => ?_
      have carrier : (v.enqueue p.1 p.2).carrier c = u.carrier c := by
        rw [State.enqueue_eq]
        exact congrArg (Tab.get · c) h.carriers
      rw [carrier]
      exact hu.carriers c
    have dispatched : (v.enqueue p.1 p.2).dispatchIdle = v.enqueue p.1 p.2 := by
      simp only [State.dispatchIdle, idle]
    unfold State.judge State.judgeWith
    simp only [record', hu.groups record, level, ne_eq, not_false_eq_true, and_self, if_true, dispatched]

theorem groupRecord_enqueue (f f' : FrameId) (g g' : GroupId) : (s.enqueue f g).groupRecord f' g' =
    if f = f' ∧ g = g' then
      (s.groupRecord f g).map fun r => { r with state := .queued, sequence := some s.rsu.nextSequence }
    else s.groupRecord f' g' := by
  rw [← State.groupRecord_modGroup, State.enqueue_eq]
  rfl

theorem groupRecord_unqueue (f f' : FrameId) (g g' : GroupId) : (s.unqueue f g).groupRecord f' g' =
    if f = f' ∧ g = g' then (s.groupRecord f g).map fun r => { r with state := .unqueued, sequence := none }
    else s.groupRecord f' g' := by
  rw [← State.groupRecord_modGroup, State.unqueue_eq]
  rfl

theorem groupRecord_alarm (f : FrameId) (g : GroupId) (kind : AlarmKind) (cls index detail : Nat) :
    (s.alarm kind cls index detail).groupRecord f g = s.groupRecord f g := by
  simp only [State.groupRecord, State.alarm_rsu]

theorem Group.admittedAt_high {r : Group} {lowMark : Nat} (h : ¬r.remaining ≤ lowMark) (place : Nat) :
    r.admittedAt lowMark place = r := if_neg h

/-- The places of the groups judged before do not move (R152). -/
theorem admittedAt_append {done : List (FrameId × GroupId)} {p q : FrameId × GroupId} {r : Group}
    (record : u.groupRecord q.1 q.2 = some r) (old : q ∈ done) :
    r.admittedAt (u.article q.1).lowMark (((done ++ [p]).filter u.lowGroup).idxOf q)
      = r.admittedAt (u.article q.1).lowMark ((done.filter u.lowGroup).idxOf q) := by
  by_cases high : r.remaining ≤ (u.article q.1).lowMark
  · have member : q ∈ done.filter u.lowGroup := List.mem_filter.mpr ⟨old, (State.lowGroup_iff record).mpr high⟩
    rw [List.filter_append, List.idxOf_append_of_mem member]
  · rw [Group.admittedAt_high high, Group.admittedAt_high high]

theorem filter_append_low {done : List (FrameId × GroupId)} {p : FrameId × GroupId} (low : u.lowGroup p = true) :
    (done ++ [p]).filter u.lowGroup = done.filter u.lowGroup ++ [p] := by
  simp [List.filter_append, low]

theorem filter_append_high {done : List (FrameId × GroupId)} {p : FrameId × GroupId} (high : u.lowGroup p = false) :
    (done ++ [p]).filter u.lowGroup = done.filter u.lowGroup := by
  simp [List.filter_append, high]

theorem idxOf_new {done : List (FrameId × GroupId)} {p : FrameId × GroupId} (new : p ∉ done) (low : u.lowGroup p = true) :
    ((done ++ [p]).filter u.lowGroup).idxOf p = (done.filter u.lowGroup).length := by
  rw [filter_append_low low, List.idxOf_append_of_notMem fun h => new (List.mem_filter.mp h).1]
  simp

/-- The groups once one more has been judged: that one as its place says, the others as before. -/
theorem State.Readmitted.groups_append {done : List (FrameId × GroupId)} {p : FrameId × GroupId} (h : u.Readmitted done v)
    (new : p ∉ done) (low : u.lowGroup p = true)
    (changed : ∀ f g, t.groupRecord f g =
      if p.1 = f ∧ p.2 = g then
        (v.groupRecord p.1 p.2).map fun r => r.admittedAt (u.article p.1).lowMark (done.filter u.lowGroup).length
      else v.groupRecord f g) (f : FrameId) (g : GroupId) :
    t.groupRecord f g = (u.groupRecord f g).map fun r =>
      if (f, g) ∈ done ++ [p] then r.admittedAt (u.article f).lowMark (((done ++ [p]).filter u.lowGroup).idxOf (f, g))
      else r := by
  rw [changed]
  split
  next same =>
    obtain ⟨rfl, rfl⟩ := same
    rw [h.groupRecord_new new]
    simp only [Prod.mk.eta, List.mem_append, List.mem_singleton, or_true, if_true, idxOf_new new low]
  next other =>
    rw [h.groups]
    cases record : u.groupRecord f g with
    | none => rfl
    | some r =>
      have different : (f, g) ≠ p := fun e => other ⟨by rw [← e], by rw [← e]⟩
      by_cases old : (f, g) ∈ done
      · simp only [Option.map_some, List.mem_append, old, true_or, if_true]
        rw [admittedAt_append (q := (f, g)) record old]
      · simp [old, different]

/-- Of the group judged next the record is at or below the low mark. -/
theorem State.Readmitted.map_low {done : List (FrameId × GroupId)} {p : FrameId × GroupId} (h : u.Readmitted done v)
    (new : p ∉ done) (low : u.lowGroup p = true) {a b : Group → Group}
    (same : ∀ r, r.remaining ≤ (u.article p.1).lowMark → a r = b r) :
    (v.groupRecord p.1 p.2).map a = (v.groupRecord p.1 p.2).map b := by
  rw [h.groupRecord_new new]
  cases record : u.groupRecord p.1 p.2 with
  | none => rfl
  | some r => exact congrArg some (same r ((State.lowGroup_iff record).mp low))

theorem State.Readmitted.judge {done : List (FrameId × GroupId)} {p : FrameId × GroupId} (hu : u.Unadmitted)
    (h : u.Readmitted done v) (new : p ∉ done) : u.Readmitted (done ++ [p]) (v.judge p.1 p.2) := by
  by_cases low : u.lowGroup p = true
  · have judged := h.judge_low hu new low
    have length : v.rsu.set.length = min 64 (done.filter u.lowGroup).length := by simp [h.set]
    by_cases room : v.rsu.set.length < 64
    · rw [judged, if_pos room]
      have few : (done.filter u.lowGroup).length < 64 := by omega
      have sequence : v.rsu.nextSequence = BitVec.ofNat 16 (done.filter u.lowGroup).length := by
        rw [h.next, Nat.min_eq_left (by omega)]
      have changed := fun f g => groupRecord_enqueue (s := v) p.1 f p.2 g
      rw [State.enqueue_eq] at changed ⊢
      refine ⟨h.apart.trans rfl, h.frames, h.articles, h.carriers, ?_, ?_, ?_, h.groups_append new low fun f g => ?_⟩
      · rw [filter_append_low low, List.take_of_length_le (by simp; omega), List.zipIdx_append, List.map_append]
        dsimp only
        rw [h.set, List.take_of_length_le (by omega), sequence]
        simp [entryAt]
      · dsimp only
        rw [filter_append_low low, List.length_append, List.length_singleton, Nat.min_eq_left (by omega), sequence]
        exact (BitVec.ofNat_add _ _).symm
      · have talk := h.talk
        rw [List.drop_eq_nil_of_le (by omega)] at talk
        rw [filter_append_low low, List.drop_eq_nil_of_le (by simp; omega)]
        exact ⟨talk.link, talk.store⟩
      · rw [changed, sequence]
        split
        · refine h.map_low new low fun r small => ?_
          rw [Group.admittedAt, if_pos small, if_pos few]
        · rfl
    · rw [judged, if_neg room]
      have full : 64 ≤ (done.filter u.lowGroup).length := by omega
      have kept := State.unqueue_eq (s := v) p.1 p.2
      have apart : v.SameApart (v.unqueue p.1 p.2) := by
        rw [kept]
        rfl
      refine ⟨(h.apart.trans apart).trans (State.spoken_alarm _ _ _ _).apart, ?_, ?_, ?_, ?_, ?_, ?_,
        h.groups_append new low fun f g => ?_⟩
      · rw [State.alarm_store_frames, kept]
        exact h.frames
      · rw [State.alarm_store_articles, kept]
        exact h.articles
      · rw [State.alarm_rsu, kept]
        exact h.carriers
      · rw [State.alarm_rsu, kept, filter_append_low low, List.take_append_of_le_length full]
        exact h.set
      · rw [State.alarm_rsu, kept, filter_append_low low, List.length_append, List.length_singleton,
          Nat.min_eq_right (by omega)]
        exact h.next.trans (by rw [Nat.min_eq_right full])
      · rw [filter_append_low low, List.drop_append_of_le_length full, List.foldl_append]
        refine State.SameTalk.alarm ?_ _ _ _ _
        rw [kept]
        exact ⟨(h.talk.latch .replSetFull).link, (h.talk.latch .replSetFull).store⟩
      · rw [groupRecord_alarm, groupRecord_unqueue]
        split
        · refine h.map_low new low fun r small => ?_
          rw [Group.admittedAt, if_pos small, if_neg (by omega)]
        · rfl
  · have high : u.lowGroup p = false := by simpa using low
    rw [h.judge_other new high]
    refine ⟨h.apart, h.frames, h.articles, h.carriers, ?_, ?_, ?_, fun f g => ?_⟩
    · rw [filter_append_high high, h.set]
    · rw [filter_append_high high, h.next]
    · rw [filter_append_high high]
      exact h.talk
    · rw [filter_append_high high, h.groups]
      cases record : u.groupRecord f g with
      | none => rfl
      | some r =>
        by_cases same : (f, g) = p
        · have above : ¬r.remaining ≤ (u.article f).lowMark := fun le => by
            rw [← same, (State.lowGroup_iff (p := (f, g)) record).mpr le] at high
            cases high
          simp only [Option.map_some, Group.admittedAt_high above, ite_self]
        · simp [same]

/-! ### All groups, in ascending frame and group number -/

/-- The groups of the line in the order of the re-admissions (R152). -/
def groupPairs : List (FrameId × GroupId) := (List.finRange 48).flatMap fun f => (List.finRange 32).map fun g => (f, g)

theorem nodup_groupPairs : groupPairs.Nodup := (List.nodup_finRange 48).product (List.nodup_finRange 32)

theorem mem_groupPairs (p : FrameId × GroupId) : p ∈ groupPairs := by
  simp [groupPairs, Prod.ext_iff]

theorem State.readmit_eq : s.readmit = groupPairs.foldl (fun s p => s.judge p.1 p.2) s := by
  simp [State.readmit, groupPairs, List.foldl_flatMap, List.foldl_map]

/-- The groups at or below their low mark, in the order of the re-admissions. -/
def State.lowGroups (s : State) : List (FrameId × GroupId) :=
  (List.finRange 48).flatMap fun f => (List.finRange 32).filterMap fun g =>
    match s.groupRecord f g with
    | some r => if r.remaining ≤ (s.article f).lowMark then some (f, g) else none
    | none => none

theorem filterMap_ite {α β : Type} (p : α → Bool) (k : α → β) (l : List α) :
    (l.filterMap fun a => if p a = true then some (k a) else none) = (l.filter p).map k := by
  induction l with
  | nil => rfl
  | cons a rest ih => by_cases h : p a = true <;> simp [h, ih]

theorem State.filter_lowGroup : groupPairs.filter s.lowGroup = s.lowGroups := by
  rw [groupPairs, List.filter_flatMap, State.lowGroups]
  refine congrArg (List.flatMap · _) (funext fun f => ?_)
  rw [List.filter_map]
  refine (filterMap_ite (fun g => s.lowGroup (f, g)) (fun g => (f, g)) _).symm.trans ?_
  refine congrArg (List.filterMap · _) (funext fun g => ?_)
  cases record : s.groupRecord f g with
  | none => simp [State.lowGroup, record]
  | some r => simp [State.lowGroup, record]

theorem State.Unadmitted.foldl (hu : u.Unadmitted) {l : List (FrameId × GroupId)} (once : l.Nodup) :
    u.Readmitted l (l.foldl (fun s p => s.judge p.1 p.2) u) := by
  induction l using List.reverseRecOn with
  | nil => exact hu.readmitted
  | append_singleton done p ih =>
    rw [List.foldl_append]
    have apart := List.nodup_append.mp once
    exact (ih apart.1).judge hu fun member => apart.2.2 p member p (by simp) rfl

theorem State.Unadmitted.readmit (hu : u.Unadmitted) : u.Readmitted groupPairs u.readmit := by
  rw [State.readmit_eq]
  exact hu.foldl nodup_groupPairs

end Sys2Proof.Machine
end

section
/-! The line reset, unit by unit (R188), and its two causes. -/

namespace Sys2Proof.Machine

variable {s t u : State} {cause : ResetCause} {pins : Fin 32}

/-- What a line reset makes of a state whose hand-offs have been taken. -/
def State.afterLineReset (cause : ResetCause) (pins : Fin 32) (s : State) : State :=
  ((s.applyLineReset cause pins).announce 0).offerHeld.readmit

theorem State.lineReset_eq : s.lineReset cause pins = s.beginReset.settleHandoffs.afterLineReset cause pins := rfl

theorem State.afterLineReset_resetWait (wait : Option Nat) :
    State.afterLineReset cause pins { s with store := { s.store with resetWait := wait } } = s.afterLineReset cause pins := by
  have applied : State.applyLineReset cause pins { s with store := { s.store with resetWait := wait } }
      = s.applyLineReset cause pins := rfl
  rw [State.afterLineReset, applied, State.afterLineReset]

/-! ### Before the re-admissions -/

/-- The reset with its STARTUP and its held alarms, before the re-admissions. -/
def State.announced (cause : ResetCause) (pins : Fin 32) (s : State) : State :=
  ((s.applyLineReset cause pins).announce 0).offerHeld

theorem State.spoken_announced : (s.applyLineReset cause pins).Spoken (s.announced cause pins) :=
  (State.spoken_announce 0).trans State.spoken_offerHeld

theorem groupRecord_applyLineReset (f : FrameId) (g : GroupId) :
    (s.applyLineReset cause pins).groupRecord f g = (s.groupRecord f g).map Group.lineReset := by
  have groups : (s.applyLineReset cause pins).rsu.groups = s.rsu.groups.map fun t => t.map fun r => r.map Group.lineReset := rfl
  simp [State.groupRecord, groups]

theorem groupRecord_announced (f : FrameId) (g : GroupId) :
    (s.announced cause pins).groupRecord f g = (s.groupRecord f g).map Group.lineReset := by
  rw [← groupRecord_applyLineReset (cause := cause) (pins := pins), State.spoken_announced]
  rfl

theorem article_announced (f : FrameId) : (s.announced cause pins).article f = s.article f := by
  rw [State.spoken_announced]
  rfl

theorem lowGroup_announced : (s.announced cause pins).lowGroup = s.lowGroup := by
  funext p
  rw [State.lowGroup, State.lowGroup, groupRecord_announced, article_announced]
  cases s.groupRecord p.1 p.2 <;> rfl

theorem carrier_announced (c : CarrierId) : (s.announced cause pins).carrier c = .initial := by
  rw [State.spoken_announced]
  exact Tab.get_fill _ c

theorem unadmitted_announced : (s.announced cause pins).Unadmitted where
  set := by rw [State.spoken_announced]; rfl
  next := by rw [State.spoken_announced]; rfl
  carriers c := by
    rw [carrier_announced]
    nofun
  groups {f g r} record := by
    rw [groupRecord_announced] at record
    obtain ⟨r', -, rfl⟩ := Option.map_eq_some_iff.mp record
    rfl

theorem State.readmitted_afterLineReset : (s.announced cause pins).Readmitted groupPairs (s.afterLineReset cause pins) :=
  unadmitted_announced.readmit

/-- But for the link, the store and the RSU a line reset leaves each unit's line-reset values (R188). -/
theorem State.afterLineReset_apart : (s.applyLineReset cause pins).SameApart (s.afterLineReset cause pins) :=
  State.spoken_announced.apart.trans State.readmitted_afterLineReset.apart

/-! ### The link and the store -/

/-- The link and the store once STARTUP and the STATE-REQUEST stand in the queues (R53, R189). -/
def State.resetBase (cause : ResetCause) (pins : Fin 32) (s : State) : State :=
  { s with
    link := {
      s.link.lineReset with
      upQueue := [telegram 0x62 0xFF 0 [BitVec.ofNat 8 pins.val, BitVec.ofNat 8 cause.code, 0#8,
        BitVec.ofNat 8 (min (s.retention.count + 1) 255)]]
      floorQueue := [telegram 0x26 0x7F 0 []]
      upSeq := 1
      floorSeq := 1 }
    store := { s.store with resetWait := none, lineNumber := pins, heldAlarms := [] } }

theorem talk_resetBase : (s.resetBase cause pins).SameTalk
    { (s.applyLineReset cause pins).announce 0 with
      store := { ((s.applyLineReset cause pins).announce 0).store with heldAlarms := [] } } := by
  rw [State.announce_emptied rfl rfl]
  exact ⟨rfl, rfl⟩

/-- Behind STARTUP stand the alarms held since the reset began, then those of the re-admissions (R152, R189). -/
theorem talk_afterLineReset {base : State} (h : base.SameTalk (s.resetBase cause pins)) :
    ((s.lowGroups.drop 64).foldl State.refuseGroup (s.store.heldAlarms.foldl (fun u a => sendAlarm a u) base)).SameTalk
      (s.afterLineReset cause pins) := by
  have held : ((s.applyLineReset cause pins).announce 0).store.heldAlarms = s.store.heldAlarms := by
    rw [State.announce_emptied rfl rfl]
    rfl
  have offered : (s.store.heldAlarms.foldl (fun u a => sendAlarm a u) base).SameTalk (s.announced cause pins) := by
    rw [State.announced, State.offerHeld, held]
    exact State.SameTalk.foldl (op := fun u a => sendAlarm a u) (fun a h => h.sendUp _ _)
      ⟨h.link.trans talk_resetBase.link, h.store.trans talk_resetBase.store⟩ _
  have refused := State.SameTalk.foldl (op := State.refuseGroup) (fun p h => (h.latch _).alarm _ _ _ _) offered
    (s.lowGroups.drop 64)
  have readmitted := (State.readmitted_afterLineReset (s := s) (cause := cause) (pins := pins)).talk
  rw [lowGroup_announced, State.filter_lowGroup] at readmitted
  exact ⟨refused.link.trans readmitted.link, refused.store.trans readmitted.store⟩

/-- No reset waits once it has been taken (R188). -/
theorem resetWait_afterLineReset : (s.afterLineReset cause pins).store.resetWait = none := by
  have offered := State.spoken_foldl (fun u a => State.spoken_sendUp _ _) s.store.heldAlarms (op := fun u a => sendAlarm a u)
    (s := s.resetBase cause pins)
  have refused := State.spoken_foldl (fun u p => State.spoken_alarm _ _ _ _) (s.lowGroups.drop 64) (op := State.refuseGroup)
    (s := s.store.heldAlarms.foldl (fun u a => sendAlarm a u) (s.resetBase cause pins))
  rw [← (talk_afterLineReset ⟨rfl, rfl⟩).store, offered.trans refused]
  rfl

/-! ### The units' records -/

theorem Spindle.lineReset_eq (sp : Spindle) :
    sp.lineReset = if sp.state = .vacant ∨ sp.state = .rogue then sp else { sp with state := .unknown } := by
  unfold Spindle.lineReset
  cases sp.state <;> rfl

theorem FrameCycle.lineReset_eq (r : FrameCycle) : r.lineReset =
    { r with
      state := if r.state = .stopping ∨ r.state = .doffWait ∨ r.state = .doffing then .held else r.state
      cause := if r.state = .stopping ∨ r.state = .doffWait ∨ r.state = .doffing then some .reset else r.cause
      claim := none
      stopTimer := none } := by
  obtain ⟨state, cause, claim, stopTimer, startUp⟩ := r
  cases state <;> rfl

theorem map_afterLineReset (f : FrameId) : (s.afterLineReset cause pins).map f =
    { s.map f with
      sideA := (s.map f).sideA.map Spindle.lineReset
      sideB := (s.map f).sideB.map Spindle.lineReset
      running := 0 } := by
  rw [State.map, State.afterLineReset_apart]
  exact Tab.get_map _ s.smu.maps f

theorem spindle_afterLineReset (f : FrameId) (side : Side) (i : Nat) :
    (s.afterLineReset cause pins).spindle f side i = (s.spindle f side i).lineReset := by
  have side_map : ((s.afterLineReset cause pins).map f).side side = ((s.map f).side side).map Spindle.lineReset := by
    rw [map_afterLineReset]
    cases side <;> rfl
  rw [State.spindle, side_map, List.getElem?_map, State.spindle]
  cases ((s.map f).side side)[i]? <;> rfl

/-- The units' records and lists that the line reset leaves, unit by unit (R38, R78, R106, R116, R119, R140). -/
theorem units_afterLineReset :
    let t := s.afterLineReset cause pins
    t.dau = s.dau.map (fun r => { r with baseline := false }) ∧ t.smu.rogues = s.smu.rogues
      ∧ t.pcd = { robots := s.pcd.robots.map Robot.lineReset, verify := [], enabling := .fill 48 0 } ∧ t.aou = .initial
      ∧ t.dcu = { frames := s.dcu.frames.map FrameCycle.lineReset, doffers := s.store.doffers.map fun e => .initial e.reach,
                  queue := [] }
      ∧ t.spu = { s.spu with records := s.spu.records.map fun r => { r with lastRpm := none } } ∧ t.scu = s.scu ∧ t.ssu = s.ssu
      ∧ t.retention = { s.retention with cause := cause, count := min (s.retention.count + 1) 255 } := by
  have apart := State.afterLineReset_apart (s := s) (cause := cause) (pins := pins)
  exact ⟨(congrArg State.dau apart :), (congrArg (fun t : State => t.smu.rogues) apart :), (congrArg State.pcd apart :),
    (congrArg State.aou apart :), (congrArg State.dcu apart :), (congrArg State.spu apart :), (congrArg State.scu apart :),
    (congrArg State.ssu apart :), (congrArg State.retention apart :)⟩

/-- What stands outside the units (R188). -/
theorem outside_afterLineReset :
    let t := s.afterLineReset cause pins
    t.timer = 0 ∧ t.ticks = 0 ∧ t.inFlight = s.inFlight ∧ t.freeUses = s.freeUses ∧ t.pending = s.pending ∧ t.power = s.power
      ∧ t.supply = s.supply ∧ t.rstnLow = s.rstnLow := by
  have apart := State.afterLineReset_apart (s := s) (cause := cause) (pins := pins)
  exact ⟨(congrArg State.timer apart :), (congrArg State.ticks apart :), (congrArg State.inFlight apart :),
    (congrArg State.freeUses apart :), (congrArg State.pending apart :), (congrArg State.power apart :),
    (congrArg State.supply apart :), (congrArg State.rstnLow apart :)⟩

/-- Each group after the re-admissions (R152). -/
theorem groupRecord_afterLineReset (f : FrameId) (g : GroupId) : (s.afterLineReset cause pins).groupRecord f g =
    (s.groupRecord f g).map fun r =>
      { remaining := r.remaining, carrier := none,
        state :=
          if (s.article f).lowMark < r.remaining then .supplied
          else if s.lowGroups.idxOf (f, g) < 64 then .queued else .unqueued,
        sequence :=
          if r.remaining ≤ (s.article f).lowMark ∧ s.lowGroups.idxOf (f, g) < 64 then
            some (BitVec.ofNat 16 (s.lowGroups.idxOf (f, g))) else none } := by
  rw [State.readmitted_afterLineReset.groups, groupRecord_announced, Option.map_map, lowGroup_announced, State.filter_lowGroup,
    article_announced]
  refine congrArg (Option.map · _) (funext fun r => ?_)
  simp only [Function.comp_apply, mem_groupPairs, if_true]
  by_cases low : r.remaining ≤ (s.article f).lowMark
  · have notHigh : ¬(s.article f).lowMark < r.remaining := by omega
    by_cases place : s.lowGroups.idxOf (f, g) < 64 <;> simp [Group.admittedAt, Group.lineReset, low, notHigh, place]
  · have high : (s.article f).lowMark < r.remaining := by omega
    simp [Group.admittedAt, Group.lineReset, low, high]

theorem set_afterLineReset : (s.afterLineReset cause pins).rsu.set = (s.lowGroups.take 64).zipIdx.map entryAt := by
  rw [State.readmitted_afterLineReset.set, lowGroup_announced, State.filter_lowGroup]

theorem nextSequence_afterLineReset :
    (s.afterLineReset cause pins).rsu.nextSequence = BitVec.ofNat 16 (min s.lowGroups.length 64) := by
  rw [State.readmitted_afterLineReset.next, lowGroup_announced, State.filter_lowGroup]

theorem carrier_afterLineReset (c : CarrierId) : (s.afterLineReset cause pins).carrier c = .initial := by
  rw [State.carrier, State.readmitted_afterLineReset.carriers]
  exact carrier_announced c

/-! ### The commands -/

theorem State.settleHandoffs_idle (h : s.inFlight = []) : s.settleHandoffs = s := State.drain_idle _ h

theorem State.beginReset_begun (h : s.store.resetWait = some 0) : s.beginReset = s := by
  rw [State.beginReset, ← h]

theorem State.beginReset_beginReset : s.beginReset.beginReset = s.beginReset := rfl

theorem exec_lineReset_begun (on : s.power = .on) (begun : s.store.resetWait = some 0) :
    exec (.lineReset pins) s = .next (s.settleHandoffs.afterLineReset .lineCmd pins) := by
  refine congrArg Host.Outcome.next ((if_pos on).trans ((if_pos begun).trans ?_))
  rw [State.lineReset_eq, State.beginReset_begun begun]

theorem exec_lineReset_idle (on : s.power = .on) (idle : s.store.resetWait ≠ some 0) : exec (.lineReset pins) s = .next s :=
  congrArg Host.Outcome.next ((if_pos on).trans (if_neg idle))

theorem exec_pinReset (on : s.power = .on) : exec (.pinReset pins) s =
    .next ((State.takeBegun pins { s with rstnLow := true }).lineReset .pin pins) :=
  congrArg Host.Outcome.next (if_pos on)

theorem exec_pinReset_idle (on : s.power = .on) (idle : s.store.resetWait ≠ some 0) : exec (.pinReset pins) s =
    .next (State.afterLineReset .pin pins
      (State.settleHandoffs { s with rstnLow := true, store := { s.store with resetWait := some 0 } })) := by
  rw [exec_pinReset on, State.takeBegun, if_neg idle]
  rfl

/-- Settles O54. -/
theorem lineResetValues : Obligations.LineResetValues := by
  refine ⟨fun n c rest s t => ⟨rfl, State.drain_idle n, State.drain_handOff⟩, fun pins s => ?_⟩
  intro begun out on
  have values : ∀ (s : State) (cause : ResetCause) (low : Bool), s.power = .on → s.inFlight = [] →
      out s cause low (State.afterLineReset cause pins { s with rstnLow := low }) := by
    intro s cause low on idle
    have talk := talk_afterLineReset (s := { s with rstnLow := low }) (base := s.resetBase cause pins) ⟨rfl, rfl⟩
    simp only [sendAlarm_eq] at talk
    obtain ⟨dau, rogues, pcd, aou, dcu, spu, scu, ssu, retention⟩ :=
      units_afterLineReset (s := { s with rstnLow := low }) (cause := cause) (pins := pins)
    obtain ⟨timer, ticks, inFlight, freeUses, pending, power, supply, rstnLow⟩ :=
      outside_afterLineReset (s := { s with rstnLow := low }) (cause := cause) (pins := pins)
    refine ⟨⟨s.resetBase cause pins, rfl, rfl, rfl, rfl, rfl, rfl, fun k => Tab.get_build _ k, talk.link.symm, talk.store.symm⟩,
      fun f => ?_, fun f side i => (spindle_afterLineReset f side i).trans (Spindle.lineReset_eq _), fun f => ?_, rogues,
      fun k => ?_, (congrArg Dispatcher.verify pcd :), fun f => ?_, aou, fun f => ?_, fun d => ?_,
      (congrArg DoffCycle.queue dcu :), fun f => ?_, (congrArg SpeedProgram.firstFault spu :), groupRecord_afterLineReset,
      set_afterLineReset, nextSequence_afterLineReset, carrier_afterLineReset, scu, ssu, retention, timer, ticks,
      inFlight.trans idle, freeUses, pending, power.trans on, supply, rstnLow⟩
    · exact (congrArg (Tab.get · f) dau).trans (Tab.get_map _ _ f)
    · rw [map_afterLineReset]
      exact ⟨rfl, rfl⟩
    · exact (congrArg (fun p => p.robots.get k) pcd).trans (Tab.get_map _ _ k)
    · exact (congrArg (fun p => p.enabling.get f) pcd).trans (Tab.get_fill _ f)
    · exact ((congrArg (fun p => p.frames.get f) dcu).trans (Tab.get_map _ _ f)).trans (FrameCycle.lineReset_eq _)
    · exact (congrArg (fun p => p.doffers.get d) dcu).trans (Tab.get_map _ _ d)
    · exact (congrArg (fun p => p.records.get f) spu).trans (Tab.get_map _ _ f)
  refine ⟨fun hbegun idle => ?_, fun hbegun u hu uon uidle => ?_, fun notBegun => exec_lineReset_idle on notBegun,
    fun notBegun idle => ?_, fun notBegun u hu uon uidle => ?_, fun hbegun u hu => ?_⟩
  · exact ⟨_, (exec_lineReset_begun on hbegun).trans (by rw [State.settleHandoffs_idle idle]),
      values s .lineCmd s.rstnLow on idle⟩
  · exact ⟨_, (exec_lineReset_begun on hbegun).trans (by rw [← hu]), values u .lineCmd u.rstnLow uon uidle⟩
  · refine ⟨_, (exec_pinReset_idle on notBegun).trans ?_, values s .pin true on idle⟩
    have settled : begun.settleHandoffs = begun := State.settleHandoffs_idle idle
    exact congrArg Host.Outcome.next ((congrArg (State.afterLineReset .pin pins) settled).trans
      (State.afterLineReset_resetWait (s := { s with rstnLow := true }) (some 0)))
  · exact ⟨_, (exec_pinReset_idle on notBegun).trans (by rw [← hu]), values u .pin u.rstnLow uon uidle⟩
  · have low : State.power { s with rstnLow := true } = .on := on
    have taken : State.takeBegun pins { s with rstnLow := true } = u := by
      have both := hu.symm.trans (congrArg Host.Outcome.next (if_pos low))
      injection both with same
      exact same.symm
    have kept := State.keptByReset_takeBegun (s := { s with rstnLow := true }) pins
    rw [taken] at kept
    have waits : u.store.resetWait ≠ some 0 := by
      rw [← taken, State.takeBegun, if_pos hbegun, State.lineReset_eq, resetWait_afterLineReset]
      nofun
    have same : { u with rstnLow := true } = u := by
      rw [← show u.rstnLow = true from kept.rstnLow]
    rw [exec_pinReset on, exec_pinReset (kept.power.trans on), taken, same, State.takeBegun, if_neg waits]

end Sys2Proof.Machine
end

section
/-! What the link operations leave aside, and the spindle of a change (R13, R55, R57). -/

namespace Sys2Proof.Machine

variable {s t u : State}

/-! ### States that say the same and differ aside -/

/-- `u` with the link and the store of `s`. -/
def State.telling (s u : State) : State := { u with link := s.link, store := s.store }

theorem State.sendFloor_telling (u : State) (node kind : Nat) (payload : List Byte) :
    (s.telling u).sendFloor node kind payload = (s.sendFloor node kind payload).telling u := by
  obtain room | full := Nat.lt_or_ge s.link.floorQueue.length 64
  · rw [State.sendFloor_room room, State.sendFloor_room (s := s.telling u) room]
    rfl
  · rw [State.sendFloor_full full, State.sendFloor_full (s := s.telling u) full]
    rfl

/-- What a state says is all in which it differs from one that has not spoken yet. -/
theorem State.Spoken.eq_telling (h : s.Spoken t) : t = t.telling s := by
  have store := congrArg State.store h
  refine Eq.trans h ?_
  unfold State.telling
  rw [store]

theorem State.offerUp_telling (u : State) (tel : Telegram) : (s.telling u).offerUp tel = (s.offerUp tel).telling u := by
  have same : (s.telling u).link.upQueue = s.link.upQueue := rfl
  unfold State.offerUp
  rw [same]
  split <;> rfl

theorem State.sendUp_telling (u : State) (kind : Nat) (payload : List Byte) :
    (s.telling u).sendUp kind payload = (s.sendUp kind payload).telling u :=
  State.offerUp_telling (s := { s with link := { s.link with upSeq := s.link.upSeq + 1 } }) u _

theorem State.alarm_telling (u : State) (kind : AlarmKind) (cls index detail : Nat) :
    (s.telling u).alarm kind cls index detail = (s.alarm kind cls index detail).telling u := by
  have same : (s.telling u).store = s.store := rfl
  unfold State.alarm
  rw [same]
  split
  · split
    · rfl
    · exact State.sendUp_telling u _ _
  · rfl

/-! ### One spindle's change (R55, R57) -/

theorem FrameMap.side_setSide (m : FrameMap) (side : Side) (l : List Spindle) : (m.setSide side l).side side = l := by
  cases side <;> rfl

theorem FrameMap.side_setSide_ne (m : FrameMap) {side other : Side} (h : other ≠ side) (l : List Spindle) :
    (m.setSide side l).side other = m.side other := by
  cases side <;> cases other <;> first | rfl | exact absurd rfl h

theorem FrameMap.put_side (m : FrameMap) {side : Side} {i : Nat} (h : i < (m.side side).length) (sp : Spindle) :
    (m.put side i sp).side side = (m.side side).set i sp := by
  rw [FrameMap.put, List.getElem?_eq_getElem h]
  exact FrameMap.side_setSide m side _

theorem FrameMap.put_side_ne (m : FrameMap) {side other : Side} (h : other ≠ side) (i : Nat) (sp : Spindle) :
    (m.put side i sp).side other = m.side other := by
  unfold FrameMap.put
  split
  · rfl
  · exact FrameMap.side_setSide_ne m h _

theorem FrameMap.put_populated (m : FrameMap) (side : Side) (i : Nat) (sp : Spindle) :
    (m.put side i sp).populated = m.populated := by
  unfold FrameMap.put
  split
  · rfl
  · cases side <;> rfl

theorem State.map_change (f : FrameId) (side : Side) (i : Nat) (sp : Spindle) :
    (s.change f side i sp).map f = (s.map f).put side i sp.settle := State.map_setMap s f _

theorem State.spindle_change (f : FrameId) {side : Side} {i : Nat} (h : i < ((s.map f).side side).length) (sp : Spindle) :
    (s.change f side i sp).spindle f side i = sp.settle := by
  rw [State.spindle, State.map_change, FrameMap.put_side _ h, List.getElem?_set_self h, Option.getD_some]

theorem State.spindle_change_ne {f f' : FrameId} {side side' : Side} {i j : Nat} (h : (f', side', j) ≠ (f, side, i))
    (sp : Spindle) : (s.change f side i sp).spindle f' side' j = s.spindle f' side' j := by
  unfold State.spindle
  by_cases frame : f' = f
  · subst frame
    rw [State.map_change]
    by_cases same : side' = side
    · subst same
      have other : i ≠ j := fun e => h (by rw [e])
      by_cases held : i < ((s.map f').side side').length
      · rw [FrameMap.put_side _ held, List.getElem?_set_ne other]
      · rw [FrameMap.put, List.getElem?_eq_none (Nat.not_lt.mp held)]
    · rw [FrameMap.put_side_ne _ same]
  · rw [show (s.change f side i sp).map f' = s.map f' from State.map_setMap_ne s (Ne.symm frame) _]

/-! ### A spindle becomes ROGUE (R75) -/

/-- The line flag and the alarms of a spindle that becomes ROGUE, behind its ROVING-STOP. -/
def State.tellRogue (f : FrameId) (side : Side) (i : Nat) (cause : RogueCause) (s : State) : State :=
  let stopped := sendRovingStop f side i s
  let listed :=
    if s.smu.rogues.length < 128 then stopped
    else (stopped.latch .rogueListFull).alarm .rogueListFull 0 f.val (rogueDetail side i cause)
  listed.alarm .rogue 0 f.val (rogueDetail side i cause)

/-- The rogue list with room for the spindle or without (R75 steps 3 and 4). -/
def State.roguesWith (f : FrameId) (side : Side) (i : Nat) (cause : RogueCause) (s : State) : List RogueEntry :=
  if s.smu.rogues.length < 128 then
    s.smu.rogues ++ [{ frame := f, side, index := i, cause, seconds := s.timer / 1000 }]
  else s.smu.rogues

theorem State.spoken_latch (x : LineFlag) : s.Spoken (s.latch x) := rfl

theorem State.spoken_tellRogue (f : FrameId) (side : Side) (i : Nat) (cause : RogueCause) :
    s.Spoken (s.tellRogue f side i cause) := by
  have stopped : s.Spoken (sendRovingStop f side i s) := State.spoken_sendFloor _ _ _
  unfold State.tellRogue
  dsimp only
  split
  · exact stopped.trans (State.spoken_alarm _ _ _ _)
  · exact ((stopped.trans (State.spoken_latch _)).trans (State.spoken_alarm _ _ _ _)).trans (State.spoken_alarm _ _ _ _)

/-- A spindle that becomes ROGUE is changed and listed, and what is told of it is told of the state before. -/
theorem State.makeRogue_eq (f : FrameId) (side : Side) (i : Nat) (cause : RogueCause) (sp : Spindle) :
    s.makeRogue f side i cause sp =
      ((s.tellRogue f side i cause).telling
        ((s.change f side i { sp with state := .rogue }).setRogues (s.roguesWith f side i cause))).emit
        (.scuRogueEvent f) := by
  have stopped : sendRovingStop f side i (s.change f side i { sp with state := .rogue }) =
      (sendRovingStop f side i s).telling (s.change f side i { sp with state := .rogue }) :=
    State.sendFloor_telling (s := s) (s.change f side i { sp with state := .rogue }) _ _ _
  have listed : State.listRogue f side i cause (sendRovingStop f side i (s.change f side i { sp with state := .rogue })) =
      (if s.smu.rogues.length < 128 then sendRovingStop f side i s
        else ((sendRovingStop f side i s).latch .rogueListFull).alarm .rogueListFull 0 f.val (rogueDetail side i cause)).telling
        ((s.change f side i { sp with state := .rogue }).setRogues (s.roguesWith f side i cause)) := by
    rw [stopped]
    have rogues : ((sendRovingStop f side i s).telling (s.change f side i { sp with state := .rogue })).smu.rogues =
      s.smu.rogues := rfl
    rw [State.listRogue, rogues, State.roguesWith]
    split
    · rfl
    · exact State.alarm_telling (s := (sendRovingStop f side i s).latch .rogueListFull)
        (s.change f side i { sp with state := .rogue }) _ _ _ _
  exact congrArg (State.emit _) ((congrArg (State.alarm _ _ _ _) listed).trans (State.alarm_telling _ _ _ _ _))

theorem State.map_makeRogue (f f' : FrameId) (side : Side) (i : Nat) (cause : RogueCause) (sp : Spindle) :
    (s.makeRogue f side i cause sp).map f' = (s.change f side i { sp with state := .rogue }).map f' := by
  rw [State.makeRogue_eq]
  rfl

theorem State.spindle_makeRogue (f f' : FrameId) (side side' : Side) (i j : Nat) (cause : RogueCause) (sp : Spindle) :
    (s.makeRogue f side i cause sp).spindle f' side' j = (s.change f side i { sp with state := .rogue }).spindle f' side' j := by
  rw [State.spindle, State.map_makeRogue, State.spindle]

/-- The notices of one spindle's change: none of a group that keeps an ASSIGNED spindle (R57). -/
theorem State.inFlight_change (f : FrameId) (side : Side) (i : Nat) (sp : Spindle) :
    let t := s.change f side i sp
    let old := (s.spindle f side i).state
    t.inFlight = s.inFlight
      ++ (if sp.state = .broken ∧ old ≠ .broken then [.brokenNotice f side i] else [])
      ++ (if old = .assigned ∧ sp.state ≠ .assigned ∧ t.groupAssigned f ((s.entry f).groupOf side i) = false then
            [.lastAssignedNotice f ((s.entry f).groupOf side i)] else []) := by
  intro t
  dsimp only
  have entry : (s.setMap f ((s.map f).put side i sp.settle)).entry f = s.entry f := rfl
  have grouped : (s.setMap f ((s.map f).put side i sp.settle)).groupAssigned = t.groupAssigned := rfl
  show (State.notices f [_] (s.setMap f ((s.map f).put side i sp.settle))).inFlight = _
  simp only [State.notices, entry, grouped, State.emitAll_inFlight, State.setMap_inFlight]
  rw [List.append_assoc]
  congr 1
  congr 1
  · by_cases h : sp.state = .broken ∧ (s.spindle f side i).state ≠ .broken <;> simp [h]
  · have once : [(s.entry f).groupOf side i].eraseDups = [(s.entry f).groupOf side i] := by
      simp [List.eraseDups, List.eraseDupsBy, List.eraseDupsBy.loop]
    by_cases left : (s.spindle f side i).state = .assigned ∧ sp.state ≠ .assigned
    · by_cases last : t.groupAssigned f ((s.entry f).groupOf side i) = false <;> simp [left, last, once]
    · rw [if_neg fun h => left ⟨h.1, h.2.1⟩, List.filterMap_cons, if_neg left]
      rfl

/-! ### RELEASE-SPINDLE (R77) -/

theorem frameAt_val (f : FrameId) : frameAt f.val = f := Fin.ext (Nat.mod_eq_of_lt f.isLt)

theorem sideAt_code (side : Side) : sideAt side.code = side := by cases side <;> rfl

theorem State.frameEnabled_of_le {n : Nat} (h : n ≤ 47) : s.frameEnabled n = s.enabled (frameAt n) := by
  have place : frameAt n = ⟨n, by omega⟩ := Fin.ext (Nat.mod_eq_of_lt (by omega))
  rw [State.frameEnabled, dif_pos (by omega), place]

theorem State.releaseSpindle_badFrame {seq frame side index : Nat} (h : 47 < frame) :
    s.releaseSpindle seq frame side index = s.offerUp (replyTelegram seq .badIndex 0 []) := if_pos h

theorem State.releaseSpindle_disabled {seq frame side index : Nat} (h : frame ≤ 47) (off : s.enabled (frameAt frame) = false) :
    s.releaseSpindle seq frame side index = s.offerUp (replyTelegram seq .badState 0 []) :=
  (if_neg (by omega)).trans (if_pos ((State.frameEnabled_of_le h).trans off))

theorem State.releaseSpindle_enabled {seq frame side index : Nat} (h : frame ≤ 47) (on : s.enabled (frameAt frame) = true) :
    s.releaseSpindle seq frame side index =
      if 1 < side then s.badValue seq 2
      else if (s.entry (frameAt frame)).length (sideAt side) ≤ index then s.refuse seq .badIndex
      else State.answer seq (s.release (frameAt frame) (sideAt side) index) := by
  refine (if_neg (by omega)).trans (if_neg ?_)
  rw [State.frameEnabled_of_le h, on]
  decide

/-- A release that passes the checks is the SMU's (R77). -/
theorem State.releaseSpindle_checked {seq i : Nat} {f : FrameId} {side : Side} (on : s.enabled f = true)
    (held : i < (s.entry f).length side) (smu : s.NoneFlying (smuFirst f)) :
    s.releaseSpindle seq f.val side.code i = State.answer seq
      (if (s.spindle f side i).state = .rogue then
        (.ok, State.unlistRogue f side i (sendRovingFree f side i
          (s.makeBroken f side i { state := .rogue, attempts := 0, repeats := 0 })))
      else (.badState, s)) := by
  have valid : ¬1 < side.code := by cases side <;> decide
  rw [State.releaseSpindle_enabled (Nat.le_of_lt_succ f.isLt) (by rwa [frameAt_val]), frameAt_val, sideAt_code, if_neg valid,
    if_neg (by omega), State.release, State.smuReady_none smu]

theorem State.Spoken.frames (h : s.Spoken t) : t.store.frames = s.store.frames :=
  (congrArg (fun x : State => x.store.frames)
    (h : t = { s with link := t.link, store := { s.store with flags := t.store.flags, heldAlarms := t.store.heldAlarms } }) :)

theorem State.Spoken.entry (h : s.Spoken t) (f : FrameId) : t.entry f = s.entry f := congrArg (Tab.get · f) h.frames

theorem State.groupAssigned_congr {f : FrameId} (map : t.map f = s.map f) (entry : t.entry f = s.entry f) (g : GroupId) :
    t.groupAssigned f g = s.groupAssigned f g := by
  unfold State.groupAssigned
  rw [map, entry]

theorem FrameMap.put_running (m : FrameMap) {side : Side} {i : Nat} (h : i < (m.side side).length) {sp : Spindle}
    (stands : sp.state ≠ .running) :
    (m.put side i sp).running + (if ((m.side side)[i]?.getD .vacant).state = .running then 1 else 0) =
      max m.running (if ((m.side side)[i]?.getD .vacant).state = .running then 1 else 0) := by
  rw [FrameMap.put, List.getElem?_eq_getElem h]
  simp only [stands, if_false, Option.getD_some]
  split <;> omega

theorem State.entry_makeRogue (f f' : FrameId) (side : Side) (i : Nat) (cause : RogueCause) (sp : Spindle) :
    (s.makeRogue f side i cause sp).entry f' = s.entry f' := by
  rw [State.makeRogue_eq]
  exact (State.spoken_tellRogue f side i cause).entry f'

/-- Settles O24. -/
theorem rogueSpindles : Obligations.RogueSpindles := by
  refine ⟨?_, ?_, ?_⟩
  · intro f side i cause sp s held t old detail stopped listed
    have settled : Spindle.settle { sp with state := .rogue } = { sp with state := .rogue } := rfl
    have made : t = ((s.tellRogue f side i cause).telling
      ((s.change f side i { sp with state := .rogue }).setRogues (s.roguesWith f side i cause))).emit (.scuRogueEvent f) :=
      State.makeRogue_eq f side i cause sp
    have grouped : t.groupAssigned f = (s.change f side i { sp with state := .rogue }).groupAssigned f := funext fun g =>
      State.groupAssigned_congr (State.map_makeRogue _ _ _ _ _ _) (State.entry_makeRogue _ _ _ _ _ _) g
    have notices := State.inFlight_change (s := s) f side i { sp with state := .rogue }
    refine ⟨?_, fun f' side' j other => ?_, ?_, ?_, fun room => ?_, fun full => ⟨?_, ?_⟩, ?_, ?_⟩
    · exact (State.spindle_makeRogue _ _ _ _ _ _ _ _).trans (State.spindle_change f held _)
    · exact (State.spindle_makeRogue _ _ _ _ _ _ _ _).trans (State.spindle_change_ne other _)
    · rw [State.map_makeRogue, State.map_change]
      exact FrameMap.put_running _ held nofun
    · rw [State.map_makeRogue, State.map_change, FrameMap.put_populated]
    · rw [made]
      exact if_pos room
    · rw [made]
      exact if_neg (by omega)
    · have latched : (stopped.latch .rogueListFull).flagSet .rogueListFull = true := State.flagSet_latch _ _
      rw [made, State.tellRogue, if_neg (by omega)]
      exact ((State.Calm.refl.alarm _ _ _ _).alarm _ _ _ _).flags _ latched
    · have flying : t.inFlight = (s.change f side i { sp with state := .rogue }).inFlight ++ [.scuRogueEvent f] := by
        rw [made]
        rfl
      rw [flying, grouped, notices, if_neg (fun h => nomatch h.1), List.append_nil]
      simp [old]
    · have told : listed.alarm .rogue 0 f.val detail = s.tellRogue f side i cause := rfl
      rw [told]
      calc
        t = { (s.tellRogue f side i cause).telling s with smu := t.smu, inFlight := t.inFlight } := by
          rw [made]
          rfl
        _ = _ := congrArg (fun x : State => { x with smu := t.smu, inFlight := t.inFlight })
          (State.spoken_tellRogue f side i cause).eq_telling.symm
  · intro seq frame side index s taken answers
    refine ⟨fun bad => exec_taken taken rfl (State.releaseSpindle_badFrame bad),
      fun valid off => exec_taken taken rfl (State.releaseSpindle_disabled valid off),
      fun valid on bad => exec_taken taken rfl ((State.releaseSpindle_enabled valid on).trans (if_pos bad)),
      fun valid on hside bad => exec_taken taken rfl ((State.releaseSpindle_enabled valid on).trans ?_)⟩
    rw [if_neg (by omega), if_pos bad]
    rfl
  · intro seq f side i s c taken on held smu
    refine ⟨fun rogue => exec_taken taken rfl ?_, fun other => exec_taken taken rfl ?_⟩
    · have rogues : (sendRovingFree f side i (s.makeBroken f side i { state := .rogue, attempts := 0, repeats := 0 })).smu.rogues =
          s.smu.rogues := by
        rw [sendRovingFree, State.sendFloor_smu]
        rfl
      rw [State.releaseSpindle_checked on held smu, if_pos rogue, State.unlistRogue, rogues]
      rfl
    · rw [State.releaseSpindle_checked on held smu, if_neg other]
      rfl

end Sys2Proof.Machine
end

section
/-! The events that re-evaluate zones (R21, R85). -/

namespace Sys2Proof.Machine

variable {s : State}

theorem State.mem_patrol_of_zoneOf {a : AisleId} {z : ZoneId} (h : s.zoneOf a = some z) : a ∈ s.patrol z :=
  List.contains_iff_mem.mp (List.find?_some h :)

theorem State.zoneOf_eq_none_iff {a : AisleId} : s.zoneOf a = none ↔ ∀ z, a ∉ s.patrol z := by
  simp [State.zoneOf]

/-- The zones named are re-evaluated one after another, each once and in ascending number (R85). -/
theorem State.reevaluateZones_eq (zs : List ZoneId) :
    s.reevaluateZones zs = ((List.finRange 8).filter zs.contains).foldl (fun u z => u.reevaluate z) s := by
  rw [List.foldl_filter, State.reevaluateZones]

theorem State.reevaluateZones_singleton (z : ZoneId) : s.reevaluateZones [z] = s.reevaluate z := by
  have one : ∀ z : ZoneId, (List.finRange 8).filter [z].contains = [z] := by decide
  rw [State.reevaluateZones_eq, one, List.foldl_cons, List.foldl_nil]

theorem State.reevaluateAisles_zone {a : AisleId} {z : ZoneId} (h : s.zoneOf a = some z) :
    s.reevaluateAisles [a] = s.reevaluate z := by
  rw [State.reevaluateAisles, List.filterMap_cons, h, List.filterMap_nil, State.reevaluateZones_singleton]

theorem State.reevaluateAisles_noZone {a : AisleId} (h : s.zoneOf a = none) : s.reevaluateAisles [a] = s := by
  rw [State.reevaluateAisles, List.filterMap_cons, h, List.filterMap_nil, State.reevaluateZones_nil]

theorem State.reevaluateAisles_noBroken (h : s.NoBroken) (out : s.NoneFlying aouFirst) (as : List AisleId) :
    s.reevaluateAisles as = s := State.reevaluateZones_noBroken h out _

/-- The zones of the aisles that the sides of a frame face. -/
theorem State.contains_facedZones {f : FrameId} {z : ZoneId} :
    (((s.entry f).presentSides.map (s.entry f).aisle).filterMap s.zoneOf).contains z =
      [Side.A, Side.B].any fun side =>
        decide (0 < (s.entry f).length side) && decide (s.zoneOf ((s.entry f).aisle side) = some z) := by
  rw [Bool.eq_iff_iff]
  simp only [FrameEntry.presentSides, sides, List.contains_iff_mem, List.mem_filterMap, List.mem_map, List.mem_filter,
    List.any_cons, List.any_nil, List.mem_cons, List.not_mem_nil, Bool.or_eq_true, Bool.and_eq_true, decide_eq_true_eq, or_false,
    Bool.false_eq_true, exists_exists_and_eq_and]
  constructor
  · rintro ⟨side, ⟨rfl | rfl, has⟩, zone⟩
    · exact .inl ⟨has, zone⟩
    · exact .inr ⟨has, zone⟩
  · rintro (⟨has, zone⟩ | ⟨has, zone⟩)
    · exact ⟨.A, ⟨.inl rfl, has⟩, zone⟩
    · exact ⟨.B, ⟨.inr rfl, has⟩, zone⟩

/-- A frame that begins to run has the zones of its sides re-evaluated (R21, R85). -/
theorem State.pcdTake_running (f : FrameId) : pcdTake s (.frameRunningNotice f) =
    ((List.finRange 8).filter fun z => [Side.A, Side.B].any fun side =>
      decide (0 < (s.entry f).length side) && decide (s.zoneOf ((s.entry f).aisle side) = some z)).foldl
      (fun u z => u.reevaluate z) (s.noteRunning f) := by
  refine (State.reevaluateZones_eq _).trans ?_
  congr 1
  exact List.filter_congr fun z _ => State.contains_facedZones

/-- A hand-off that has no channel is next while the part runs. -/
theorem State.next_of_noLane (on : s.power = .on) (c : Instr) : s.Next (fun _ => false) c := by
  refine ⟨on, ?_⟩
  unfold State.ahead
  split <;> simp

theorem State.NoBroken.drop (h : s.NoBroken) (c : Instr) : (s.drop c).NoBroken := h.of_smu rfl

/-- Settles O31. -/
theorem eventsThatReevaluate : Obligations.EventsThatReevaluate := by
  intro f g a s running refilled free taken faced
  refine ⟨fun z => State.mem_patrol_of_zoneOf, State.zoneOf_eq_none_iff,
    fun before => ⟨fun next => ?_, fun on => ?_, fun next => ?_⟩⟩
  · have calmTaken : s.NoBroken → taken.NoBroken := fun calm => calm.of_smu rfl
    have outTaken : s.NoneFlying aouFirst → taken.NoneFlying aouFirst := fun out => out.drop running
    have taking : exec running s = .next (faced.foldl (fun u z => u.reevaluate z) taken) :=
      congrArg Host.Outcome.next ((State.takeNotices_next next before).trans (State.pcdTake_running f))
    refine ⟨taking, fun calm out => taking.trans (congrArg Host.Outcome.next ?_)⟩
    have idle : ∀ zs : List ZoneId, zs.foldl (fun u z => u.reevaluate z) taken = taken := by
      intro zs
      induction zs with
      | nil => rfl
      | cons z rest ih =>
        rw [List.foldl_cons, State.reevaluate_noBroken (calmTaken calm) (outTaken out), ih]
    exact idle faced
  · have taking : exec refilled s = .next ((s.drop refilled).reevaluateAisles [(s.entry f).aisle (groupSide g)]) :=
      congrArg Host.Outcome.next (State.takeNotices_next (State.next_of_noLane on refilled) before)
    exact ⟨fun z zone => taking.trans (congrArg Host.Outcome.next (State.reevaluateAisles_zone zone)),
      fun zone => taking.trans (congrArg Host.Outcome.next (State.reevaluateAisles_noZone zone)),
      fun calm out => taking.trans (congrArg Host.Outcome.next
        (State.reevaluateAisles_noBroken (calm.drop refilled) (out.drop refilled) _))⟩
  · have taking : exec free s = .next ((s.drop free).reevaluateAisles [a]) :=
      congrArg Host.Outcome.next (State.takeNotices_next next before)
    exact ⟨fun z zone => taking.trans (congrArg Host.Outcome.next (State.reevaluateAisles_zone zone)),
      fun zone => taking.trans (congrArg Host.Outcome.next (State.reevaluateAisles_noZone zone)),
      fun calm out => taking.trans (congrArg Host.Outcome.next
        (State.reevaluateAisles_noBroken (calm.drop free) (out.drop free) _))⟩

end Sys2Proof.Machine
end

section
/-! FRAME-CMD: its checks and the commands of a frame (R34, R124, R136, R137). -/

namespace Sys2Proof

theorem Tab.set_set {n : Nat} {α : Type} (t : Tab n α) (i : Fin n) (v w : α) : (t.set i v).set i w = t.set i w :=
  Tab.ext_get fun j => by
    rw [Tab.get_set, Tab.get_set, Tab.get_set]
    split <;> rfl

end Sys2Proof

namespace Sys2Proof.Machine

variable {s : State} {seq command : Nat} {k : FrameId → State → State}

/-! ### The checks (R34) -/

theorem State.frameCmd_badFrame {frame : Nat} (h : 47 < frame) :
    s.frameCmd seq frame command k = s.offerUp (replyTelegram seq .badIndex 0 []) := if_pos h

theorem State.frameCmd_badCommand {frame : Nat} (h : frame ≤ 47) (bad : 3 < command) :
    s.frameCmd seq frame command k = s.offerUp (replyTelegram seq .badValue 2 []) :=
  (if_neg (by omega)).trans (if_pos bad)

theorem State.frameCmd_disabled {frame : Nat} (h : frame ≤ 47) (valid : command ≤ 3) (off : s.enabled (frameAt frame) = false) :
    s.frameCmd seq frame command k = s.offerUp (replyTelegram seq .badState 0 []) :=
  (if_neg (by omega)).trans ((if_neg (by omega)).trans (if_pos ((State.frameEnabled_of_le h).trans off)))

/-- A FRAME-CMD that passes the checks is the frame's own unit's. -/
theorem State.frameCmd_enabled {f : FrameId} (valid : command ≤ 3) (on : s.enabled f = true) :
    s.frameCmd seq f.val command k = k f s := by
  have on' : s.frameEnabled f.val = true := (State.frameEnabled_val f).trans on
  rw [State.frameCmd, if_neg (by omega), if_neg (by omega), if_neg (by rw [on']; decide), frameAt_val]

/-! ### The commands at the DCU -/

theorem State.setCycle_setCycle (f : FrameId) (r r' : FrameCycle) : (s.setCycle f r).setCycle f r' = s.setCycle f r' := by
  rw [State.setCycle, State.setCycle_dcu, State.setCycle, Tab.set_set, State.setCycle]

theorem State.emit_emit (a b : Instr) : (s.emit a).emit b = { s with inFlight := s.inFlight ++ [a, b] } := by
  rw [State.emit, State.emit_inFlight, List.append_assoc]
  rfl

theorem State.dcuReady_none {f : FrameId} (dau : s.NoneFlying (dauFirst f)) (spu : s.NoneFlying (spuFirst f)) :
    s.dcuReady f = s := State.spuReady_none dau spu

theorem State.enterFrameState_running {f : FrameId} (h : s.frameState f ≠ .running) (h' : s.frameState f ≠ .starting) :
    s.enterFrameState f .running = (s.setCycle f { s.cycle f with state := .running }).emit (.frameRunningNotice f) := by
  have stands : (s.frameState f).spins = false := by
    cases e : s.frameState f <;> first | rfl | exact absurd e h | exact absurd e h'
  unfold State.enterFrameState
  dsimp only
  rw [stands, if_neg nofun, if_pos ⟨rfl, h⟩]
  rfl

section

variable {f : FrameId} (dau : s.NoneFlying (dauFirst f)) (spu : s.NoneFlying (spuFirst f))

include dau spu

theorem State.takeHold_held
    (h : (s.frameState f = .running ∨ s.frameState f = .starting) ∨ s.frameState f = .stopping ∨ s.frameState f = .doffWait) :
    s.takeHold f = (.ok, s.enterHeld f .mill) := by
  rw [State.takeHold, State.dcuReady_none dau spu]
  obtain (h | h) | h | h := h <;> rw [h]

theorem State.takeHold_refused (h : s.frameState f = .offline ∨ s.frameState f = .doffing ∨ s.frameState f = .held) :
    s.takeHold f = (.badState, s) := by
  rw [State.takeHold, State.dcuReady_none dau spu]
  obtain h | h | h := h <;> rw [h]

theorem State.takeDoffNow_eq :
    s.takeDoffNow f = if s.frameState f = .running ∨ s.frameState f = .starting then (.ok, s.trigger f) else (.badState, s) := by
  rw [State.takeDoffNow, State.dcuReady_none dau spu]
  cases h : s.frameState f <;> rfl

theorem State.takeResume_full (h : s.frameState f = .held) (full : (s.article f).doffTarget ≤ (s.deliveryRecord f).cop) :
    s.takeResume f =
      (.ok, ((s.setCycle f { s.cycle f with cause := none }).trigger f).emit (.spuResumeRequest f false)) := by
  rw [State.takeResume, State.dcuReady_none dau spu, if_pos h]
  exact if_pos full

theorem State.takeResume_running (h : s.frameState f = .held) (short : (s.deliveryRecord f).cop < (s.article f).doffTarget) :
    s.takeResume f = (.ok,
      { s.setCycle f { s.cycle f with state := .running, cause := none, startUp := 0 } with
        inFlight := s.inFlight ++ [.frameRunningNotice f, .spuResumeRequest f true] }) := by
  have resumed := State.enterFrameState_running (f := f)
    (s := (s.setCycle f { s.cycle f with cause := none }).modCycle f fun r => { r with startUp := 0 })
    (by simp [State.modCycle, State.frameState, show (s.cycle f).state = .held from h])
    (by simp [State.modCycle, State.frameState, show (s.cycle f).state = .held from h])
  rw [State.takeResume, State.dcuReady_none dau spu, if_pos h]
  refine (if_neg (Nat.not_le.mpr short)).trans (congrArg (Prod.mk Result.ok) ((congrArg (State.emit _) resumed).trans ?_))
  rw [State.emit_emit, State.modCycle, State.cycle_setCycle, State.cycle_setCycle, State.setCycle_setCycle,
    State.setCycle_setCycle]
  rfl

theorem State.takeResume_refused (h : s.frameState f ≠ .held) : s.takeResume f = (.badState, s) := by
  rw [State.takeResume, State.dcuReady_none dau spu, if_neg h]

end

theorem exec_hold_enabled {f : FrameId} (taken : s.Manages) (on : s.enabled f = true) :
    exec (.hold seq f.val 0) s = .next (State.answer seq (s.takeHold f)) :=
  exec_taken taken (k := State.frameCmd seq f.val 0 fun f s => State.answer seq (s.takeHold f)) rfl
    (State.frameCmd_enabled (by omega) on)

theorem exec_doffNow_enabled {f : FrameId} (taken : s.Manages) (on : s.enabled f = true) :
    exec (.doffNow seq f.val) s = .next (State.answer seq (s.takeDoffNow f)) :=
  exec_taken taken (k := State.frameCmd seq f.val 2 fun f s => State.answer seq (s.takeDoffNow f)) rfl
    (State.frameCmd_enabled (by omega) on)

theorem exec_resume_enabled {f : FrameId} (taken : s.Manages) (on : s.enabled f = true) :
    exec (.resume seq f.val) s = .next (State.answer seq (s.takeResume f)) :=
  exec_taken taken (k := State.frameCmd seq f.val 1 fun f s => State.answer seq (s.takeResume f)) rfl
    (State.frameCmd_enabled (by omega) on)

/-- Settles O39. -/
theorem frameCommands : Obligations.FrameCommands := by
  refine ⟨?_, ?_⟩
  · intro seq f s ok bad st spins resumed taken on dau spu
    rw [exec_hold_enabled taken on, exec_doffNow_enabled taken on, exec_resume_enabled taken on, State.takeDoffNow_eq dau spu]
    refine ⟨fun h => ?_, fun h => ?_, fun h => ?_, fun h => ?_, fun h full => ?_, fun h short => ?_, fun h => ?_⟩
    · rw [State.takeHold_held dau spu h]
      rfl
    · rw [State.takeHold_refused dau spu h]
      rfl
    · rw [if_pos h]
      rfl
    · rw [if_neg h]
      rfl
    · rw [State.takeResume_full dau spu h full]
      rfl
    · rw [State.takeResume_running dau spu h short]
      rfl
    · rw [State.takeResume_refused dau spu h]
      rfl
  · intro seq frame s taken answers
    refine ⟨fun n bad => ?_, fun bad => ?_, fun bad => ?_, fun g l bad => ?_, fun n valid bad => ?_, fun n valid small off => ?_,
      fun valid off => ⟨?_, ?_, fun g l => ?_⟩⟩
    · exact exec_taken taken rfl (State.frameCmd_badFrame bad)
    · exact exec_taken taken rfl (State.frameCmd_badFrame bad)
    · exact exec_taken taken rfl (State.frameCmd_badFrame bad)
    · exact exec_taken taken rfl (State.frameCmd_badFrame bad)
    · exact exec_taken taken rfl (State.frameCmd_badCommand valid bad)
    · exact exec_taken taken rfl (State.frameCmd_disabled valid small off)
    · exact exec_taken taken rfl (State.frameCmd_disabled valid (by omega) off)
    · exact exec_taken taken rfl (State.frameCmd_disabled valid (by omega) off)
    · exact exec_taken taken rfl (State.frameCmd_disabled valid (by omega) off)

end Sys2Proof.Machine
end

section
/-! Refills by a carrier and by hand (R34, R158, R163, R166). -/

namespace Sys2Proof.Machine

variable {s : State}

theorem State.takeChangeDone_stale {x : CarrierId} {f : FrameId} {g : GroupId}
    (h : (s.carrier x).state ≠ .changing ∨ (s.carrier x).trip ≠ some (f, g)) : s.takeChangeDone x f g = s.bump .stale :=
  if_neg fun both => h.elim (· both.1) (· both.2)

theorem State.takeChangeDone_changing {x : CarrierId} {f : FrameId} {g : GroupId} (h : (s.carrier x).state = .changing)
    (h' : (s.carrier x).trip = some (f, g)) : s.takeChangeDone x f g =
      State.refill f g (s.carrier x).load
        (s.setCarrier x { s.carrier x with state := .returning, trip := none, timer := none }) := if_pos ⟨h, h'⟩

theorem exec_changeDone {node seq frame group : Nat} (h : s.Takes (.changeDone node seq frame group)) :
    exec (.changeDone node seq frame group) s =
      .next ((s.copyReport (.changeDone node seq frame group)).takeChangeDone (carrierAt node) (frameAt frame)
        (Fin.ofNat 32 group)) :=
  congrArg Host.Outcome.next (State.report_accepted h)

/-! ### GROUP-LOADED by the group's supply state (R166) -/

section

variable {f : FrameId} {g : GroupId} {r : Group} (length : Nat) (h : s.groupRecord f g = some r)

include h

theorem State.takeGroupLoaded_stands (stands : r.state = .supplied ∨ r.state = .unqueued) :
    s.takeGroupLoaded f g length = (.ok, s.refill f g length) := by
  rw [State.takeGroupLoaded, h, Option.map_some]
  obtain e | e := stands <;> rw [e]

theorem State.takeGroupLoaded_queued (queued : r.state = .queued) :
    s.takeGroupLoaded f g length = (.ok, ((s.leaveSet f g).fillPlace).refill f g length) := by
  rw [State.takeGroupLoaded, h, Option.map_some, queued]

theorem State.takeGroupLoaded_called {x : CarrierId} (called : r.state = .called) (carrier : r.carrier = some x) :
    s.takeGroupLoaded f g length = (.ok, State.refill f g length
      ((sendCarrierAbort x s).setCarrier x { s.carrier x with state := .returning, trip := none, timer := none })) := by
  have same : (sendCarrierAbort x s).carrier x = s.carrier x := congrArg (fun u => u.carriers.get x) (State.sendFloor_rsu _ _ _ _)
  rw [State.takeGroupLoaded, h, Option.map_some, called]
  simp only [State.abortTrip, h, carrier, State.modCarrier, same]

theorem State.takeGroupLoaded_changing (changing : r.state = .changing) :
    s.takeGroupLoaded f g length = (.badState, s) := by
  rw [State.takeGroupLoaded, h, Option.map_some, changing]

end

/-- GROUP-LOADED of an enabled frame: the operands, then the RSU (R34). -/
theorem exec_groupLoaded {seq group length : Nat} {f : FrameId} (taken : s.Manages) (on : s.enabled f = true) :
    exec (.groupLoaded seq f.val group length) s = .next
      (if (s.entry f).hasGroup group = false then s.badValue seq 3
      else if length < 1 ∨ 4000000 < length then s.badValue seq 4
      else State.answer seq (s.takeGroupLoaded f (Fin.ofNat 32 group) length)) :=
  exec_taken taken (k := State.frameCmd seq f.val 3 fun f s =>
    if (s.entry f).hasGroup group = false then s.badValue seq 3
    else if length < 1 ∨ 4000000 < length then s.badValue seq 4
    else State.answer seq (s.takeGroupLoaded f (Fin.ofNat 32 group) length)) rfl (State.frameCmd_enabled (by omega) on)

/-- Settles O43. -/
theorem refillsByCarrierAndHand : Obligations.RefillsByCarrierAndHand := by
  refine ⟨?_, ?_⟩
  · intro node seq frame group s c x f g r taken
    have same : (s.copyReport c).carrier x = r := State.carrier_copyReport c x
    rw [exec_changeDone taken]
    refine ⟨fun h => ?_, fun h h' => ?_⟩
    · rw [State.takeChangeDone_stale (by rwa [same])]
    · rw [State.takeChangeDone_changing (by rwa [same]) (by rwa [same]), same]
  · intro seq group length f s c g ok taken on
    rw [exec_groupLoaded taken on]
    refine ⟨fun h => ?_, fun has => ?_⟩
    · rw [if_pos h]
      rfl
    rw [if_neg (by rw [has]; decide)]
    refine ⟨fun bad => ?_, fun r some fits record => ?_⟩
    · rw [if_pos (bad.imp_left fun h => by omega)]
      rfl
    rw [if_neg (by omega)]
    refine ⟨fun h => ?_, fun h => ?_, fun x h h' => ?_, fun h => ?_⟩
    · rw [State.takeGroupLoaded_stands length record h]
      rfl
    · rw [State.takeGroupLoaded_queued length record h]
      rfl
    · rw [State.takeGroupLoaded_called length record h h']
      rfl
    · rw [State.takeGroupLoaded_changing length record h]
      rfl

end Sys2Proof.Machine
end

section
/-! The form of a TABLE-WRITE, the resulting entry, and entries as the values of their fields (R16 to R19). -/

namespace Sys2Proof

/-! ### Numbers formed of digits -/

theorem beNat_lt (bytes : List Byte) : beNat bytes < 256 ^ bytes.length := by
  induction bytes with
  | nil => decide
  | cons b rest ih =>
    have top : b.toNat * 256 ^ rest.length + 256 ^ rest.length ≤ 256 ^ (rest.length + 1) := by
      rw [← Nat.succ_mul, pow_succ, Nat.mul_comm (256 ^ _)]
      exact Nat.mul_le_mul_right _ b.isLt
    rw [beNat_cons, List.length_cons]
    omega

/-- Bytes are those of the number that they spell. -/
theorem beBytes_beNat (bytes : List Byte) : beBytes bytes.length (beNat bytes) = bytes := by
  induction bytes with
  | nil => rfl
  | cons b rest ih =>
    have pos : 0 < 256 ^ rest.length := by positivity
    have top : (b.toNat * 256 ^ rest.length + beNat rest) / 256 ^ rest.length = b.toNat := by
      rw [Nat.add_comm, Nat.add_mul_div_right _ _ pos, Nat.div_eq_of_lt (beNat_lt rest), Nat.zero_add]
    rw [List.length_cons, beNat_cons, beBytes, top, beBytes_mul_add, ih, BitVec.ofNat_toNat, BitVec.setWidth_eq]

/-- What stands before the digits of a number. -/
theorem foldl_digits_div {b : Nat} {digits : List Nat} (acc : Nat) (h : ∀ d ∈ digits, d < b) :
    digits.foldl (fun acc d => acc * b + d) acc / b ^ digits.length = acc := by
  induction digits generalizing acc with
  | nil => simp
  | cons d rest ih =>
    have small : d < b := h d List.mem_cons_self
    rw [List.foldl_cons, List.length_cons, pow_succ, ← Nat.div_div_eq_div_mul,
      ih _ fun e he => h e (List.mem_cons_of_mem _ he), Nat.add_comm, Nat.add_mul_div_right _ _ (by omega),
      Nat.div_eq_of_lt small, Nat.zero_add]

/-- One digit of a number. -/
theorem foldl_digits_digit {b k : Nat} {digits : List Nat} (acc : Nat) (h : ∀ d ∈ digits, d < b) (hk : k < digits.length) :
    digits.foldl (fun acc d => acc * b + d) acc / b ^ (digits.length - (k + 1)) % b = digits[k] := by
  have split : digits.foldl (fun acc d => acc * b + d) acc =
      (digits.drop (k + 1)).foldl (fun acc d => acc * b + d)
        ((digits.take k).foldl (fun acc d => acc * b + d) acc * b + digits[k]) := by
    conv_lhs => rw [← List.take_append_drop (k + 1) digits, List.foldl_append, List.take_add_one, List.getElem?_eq_getElem hk,
      List.foldl_append]
    rfl
  rw [split, ← List.length_drop, foldl_digits_div _ fun d hd => h d (List.mem_of_mem_drop hd), Nat.mul_add_mod_self_right,
    Nat.mod_eq_of_lt (h _ (List.getElem_mem hk))]

/-! ### Entries and their fields (Tables 2-3 to 2-6, R10) -/

namespace Machine

theorem coeffsOf_coeffsNat (c : Tab 6 (BitVec 32)) : coeffsOf (coeffsNat c) = c := by
  refine Tab.ext_get fun i => ?_
  have low : ∀ d ∈ c.items.map BitVec.toNat, d < 2 ^ 32 := by
    simp only [List.mem_map]
    rintro d ⟨x, -, rfl⟩
    exact x.isLt
  have place : i.val < (c.items.map BitVec.toNat).length := by
    rw [List.length_map, c.size]
    exact i.isLt
  have digit := foldl_digits_digit 0 low place
  rw [List.foldl_map, List.length_map, c.size, List.getElem_map, ← pow_mul, show 6 - (i.val + 1) = 5 - i.val by omega] at digit
  rw [coeffsOf, Tab.get_build]
  exact BitVec.eq_of_toNat_eq digit

theorem beBytes_coeffsNat (c : Tab 6 (BitVec 32)) : beBytes 24 (coeffsNat c) = c.items.flatMap fun x => beBytes 4 x.toNat := by
  have digits := beBytes_foldl (k := 4) (digits := c.items.map BitVec.toNat) 0 0 (by
    simp only [List.mem_map]
    rintro d ⟨x, -, rfl⟩
    exact x.isLt)
  rw [List.length_map, c.size, List.foldl_map, List.flatMap_map] at digits
  exact digits

theorem flatMap_beBytes_one (l : List Nat) : l.flatMap (beBytes 1) = l.map (BitVec.ofNat 8) := by
  induction l with
  | nil => rfl
  | cons a rest ih =>
    rw [List.flatMap_cons, ih, beBytes_one]
    rfl

/-- The 17 bytes of a patrol list (Table 2-5). -/
theorem beBytes_patrolNat {count : Nat} {slots : List Nat} (length : slots.length = 16) (bytes : ∀ b ∈ slots, b < 256) :
    beBytes 17 (patrolNat count slots) = (count :: slots).map (BitVec.ofNat 8) := by
  have digits := beBytes_foldl (k := 1) (digits := slots) 1 count bytes
  rw [length] at digits
  refine digits.trans ?_
  rw [flatMap_beBytes_one, beBytes_one]
  rfl

theorem patrolSlots_patrolNat {count : Nat} {slots : List Nat} (length : slots.length = 16) (bytes : ∀ b ∈ slots, b < 256) :
    patrolSlots (patrolNat count slots) = slots := by
  have digits := beBytes_foldl (k := 1) (digits := slots) 0 count bytes
  rw [length] at digits
  have spelled : beBytes 16 (patrolNat count slots) = slots.map (BitVec.ofNat 8) :=
    digits.trans (by rw [flatMap_beBytes_one]; rfl)
  rw [patrolSlots, spelled, List.map_map]
  conv_rhs => rw [← List.map_id slots]
  exact List.map_congr_left fun b hb => Nat.mod_eq_of_lt (bytes b hb)

theorem Article.ofFields_fields {a : Article} (h : a.maxRpm < 65536) : Article.ofFields a.fields = a := by
  have top : (a.minRpm * 65536 + a.maxRpm) / 65536 = a.minRpm := by omega
  have low : (a.minRpm * 65536 + a.maxRpm) % 65536 = a.maxRpm := by omega
  show ({ a with coeffs := coeffsOf (coeffsNat a.coeffs), minRpm := (a.minRpm * 65536 + a.maxRpm) / 65536,
                 maxRpm := (a.minRpm * 65536 + a.maxRpm) % 65536 } : Article) = a
  rw [coeffsOf_coeffsNat, top, low]

theorem ZoneEntry.ofFields_fields {z : ZoneEntry} (length : z.slots.length = 16)
    (bytes : ∀ b ∈ z.slots, b < 256) (unused : ∀ b ∈ z.slots.drop z.count, b = 255) : ZoneEntry.ofFields z.fields = z := by
  have top : patrolNat z.count z.slots / 256 ^ 16 = z.count := by
    have shown := foldl_digits_div (b := 256) z.count bytes
    rw [length] at shown
    exact shown
  have rest : List.replicate (16 - z.count) 255 = z.slots.drop z.count := by
    refine (List.eq_replicate_iff.mpr ⟨?_, unused⟩).symm
    rw [List.length_drop, length]
  show ({ z with count := patrolNat z.count z.slots / 256 ^ 16,
                 slots := (patrolSlots (patrolNat z.count z.slots)).take (patrolNat z.count z.slots / 256 ^ 16)
                   ++ List.replicate (16 - patrolNat z.count z.slots / 256 ^ 16) 255 } : ZoneEntry) = z
  rw [top, patrolSlots_patrolNat length bytes, rest, List.take_append_drop]

theorem DofferEntry.ofFields_fields (e : DofferEntry) : DofferEntry.ofFields e.fields = e := by
  show ({ e with reach := BitVec.ofNat 48 e.reach.toNat } : DofferEntry) = e
  rw [BitVec.ofNat_toNat, BitVec.setWidth_eq]

theorem Settings.ofFields_fields (e : Settings) : Settings.ofFields e.fields = e := by
  show ({ e with alarmEnable := BitVec.ofNat 16 e.alarmEnable.toNat } : Settings) = e
  rw [BitVec.ofNat_toNat, BitVec.setWidth_eq]

theorem Disposition.ofFields_fields (e : Disposition) : Disposition.ofFields e.fields = e := by
  obtain ⟨copy, pass⟩ := e
  cases copy <;> cases pass <;> rfl

/-! ### The resulting entry (R18) -/

/-- Field by field, from the first number on. -/
theorem getD_overlay (mask : Nat) (widths : List Nat) : ∀ (first : Nat) (old : List Nat) (values : List Byte) (k : Nat),
    old.length = widths.length → k < widths.length →
    (overlay mask first widths old values).getD k 0 =
      if mask.testBit (first + k) = true then
        beNat ((values.drop (selectedWidth mask first (widths.take k))).take (widths.getD k 0))
      else old.getD k 0 := by
  induction widths with
  | nil => intro first old values k _ hk; exact absurd hk (Nat.not_lt_zero k)
  | cons w rest ih =>
    intro first old values k length hk
    cases old with
    | nil => cases length
    | cons o os =>
      have tails : os.length = rest.length := Nat.succ.inj length
      cases k with
      | zero =>
        rw [overlay, Nat.add_zero]
        by_cases bit : mask.testBit first = true
        · rw [if_pos bit]
          exact (if_pos bit).symm
        · rw [if_neg bit]
          exact (if_neg bit).symm
      | succ k =>
        have shifted : first + (k + 1) = first + 1 + k := by omega
        have inside : k < rest.length := Nat.lt_of_succ_lt_succ hk
        rw [overlay, shifted, List.take_succ_cons, selectedWidth, List.getD_cons_succ, List.getD_cons_succ]
        split
        · rw [List.getD_cons_succ, ih _ _ _ _ tails inside, List.drop_drop]
        · rw [List.getD_cons_succ, ih _ _ _ _ tails inside, Nat.zero_add]

/-! ### The checks of form (R16 to R18) -/

variable {s : State}

theorem eq_succ_of_writesFirst {mask v : Nat} {values : List Byte} (h : writesFirst mask values v = true) :
    ∃ (m : Nat) (rest : List Byte), mask = m + 1 ∧ values = BitVec.ofNat 8 v :: rest := by
  rw [writesFirst, Bool.and_eq_true, beq_iff_eq] at h
  obtain ⟨bit, first⟩ := h
  cases values with
  | nil => cases first
  | cons b rest =>
    refine ⟨mask - 1, rest, ?_, ?_⟩
    · have odd : mask % 2 = 1 := by simpa [Nat.testBit_zero] using bit
      omega
    · have byte : b.toNat = v := Option.some.inj first
      rw [← byte, BitVec.ofNat_toNat, BitVec.setWidth_eq]

/-- Whatever the row of a TABLE-WRITE, its effect is that of the telegram (log 12). -/
theorem exec_decodeTableWrite (seq table index mask : Nat) (values : List Byte) :
    exec (decodeTableWrite seq table index mask values) s =
      .next (s.management (State.writeTable seq table index mask values)) := by
  have own : ∀ {t v : Nat} {c other : Instr}, (writesFirst mask values v = true → exec c s =
      .next (s.management (State.writeTable seq t index mask values))) →
      exec other s = .next (s.management (State.writeTable seq t index mask values)) →
      exec (if writesFirst mask values v = true then c else other) s =
        .next (s.management (State.writeTable seq t index mask values)) := by
    intro t v c other h h'
    split
    · exact h ‹_›
    · exact h'
  unfold decodeTableWrite
  split
  · refine own (fun h => ?_) (own (fun h => ?_) rfl)
    all_goals
      obtain ⟨m, rest, rfl, rfl⟩ := eq_succ_of_writesFirst h
      rfl
  · rfl
  · rfl
  · split
    · rename_i h
      show Host.Outcome.next (s.management (State.writeTable seq 3 index 2 (beBytes 1 (beNat values)))) = _
      rw [← h.2, beBytes_beNat, h.1]
    · refine own (fun h => ?_) (own (fun h => ?_) rfl)
      all_goals
        obtain ⟨m, rest, rfl, rfl⟩ := eq_succ_of_writesFirst h
        rfl
  · split
    · rename_i h
      show Host.Outcome.next (s.management (State.writeTable seq 4 index 2 (beBytes 6 (beNat values)))) = _
      rw [← h.2, beBytes_beNat, h.1]
    · refine own (fun h => ?_) (own (fun h => ?_) rfl)
      all_goals
        obtain ⟨m, rest, rfl, rfl⟩ := eq_succ_of_writesFirst h
        rfl
  · refine own (fun h => ?_) (own (fun h => ?_) rfl)
    all_goals
      obtain ⟨m, rest, rfl, rfl⟩ := eq_succ_of_writesFirst h
      rfl
  · rfl
  · rfl
  · rfl

/-- The number of entries of a table (Table 2-2). -/
def tableSize (table : Nat) : Nat := [48, 16, 8, 12, 8, 8, 1, 256].getD table 0

/-- The widths of a table's fields (Tables 2-3 to 2-6, R10). -/
def tableWidths (table : Nat) : List Nat :=
  [frameWidths, articleWidths, zoneWidths, robotWidths, dofferWidths, carrierWidths, settingsWidths, dispositionWidths].getD
    table []

theorem State.writeTable_badTable {seq table index mask : Nat} {values : List Byte} (h : 7 < table) :
    s.writeTable seq table index mask values = s.offerUp (replyTelegram seq .badTable 0 []) := by
  obtain ⟨n, rfl⟩ : ∃ n, table = n + 8 := ⟨table - 8, by omega⟩
  rfl

theorem State.writeTable_badIndex {seq table index mask : Nat} {values : List Byte} (valid : table ≤ 7)
    (h : tableSize table ≤ index) :
    s.writeTable seq table index mask values = s.offerUp (replyTelegram seq .badIndex 0 []) := by
  interval_cases table
  all_goals first | exact dif_neg (Nat.not_lt.mpr h) | exact if_neg (Nat.ne_of_gt h)

/-- A write to an entry that exists is the masked write of its fields. -/
theorem State.writeTable_masked {seq table index mask : Nat} {values : List Byte} (valid : table ≤ 7) (h : index < tableSize table) :
    ∃ (old : List Nat) (rest : List Nat → State → State), s.writeTable seq table index mask values =
      s.maskedWrite seq (tableWidths table) old mask values rest := by
  interval_cases table
  all_goals first | exact ⟨_, _, dif_pos h⟩ | exact ⟨_, _, if_pos (Nat.lt_one_iff.mp h)⟩

theorem badMaskField_eq_some {n k mask : Nat} (above : n ≤ k) (small : k < 16) (bit : mask.testBit k = true)
    (lowest : ∀ j, n ≤ j → j < k → mask.testBit j = false) : badMaskField n mask = some (k + 1) := by
  have found : (List.range 16).find? (fun k => decide (n ≤ k) && mask.testBit k) = some k := by
    rw [List.find?_range_eq_some]
    refine ⟨by rw [bit, decide_eq_true above]; rfl, List.mem_range.mpr small, fun j lower => ?_⟩
    by_cases beyond : n ≤ j
    · rw [lowest j beyond lower, Bool.and_false]
      rfl
    · rw [decide_eq_false beyond]
      rfl
  rw [badMaskField, found]
  rfl

theorem selectedWidth_zero (first : Nat) (widths : List Nat) : selectedWidth 0 first widths = 0 := by
  induction widths generalizing first with
  | nil => rfl
  | cons w rest ih => rw [selectedWidth, ih, if_neg (by simp)]

section

variable {seq mask : Nat} {widths old : List Nat} {values : List Byte} {rest : List Nat → State → State}

theorem State.maskedWrite_badField {k : Nat} (above : widths.length ≤ k) (small : k < 16) (bit : mask.testBit k = true)
    (lowest : ∀ j, widths.length ≤ j → j < k → mask.testBit j = false) :
    s.maskedWrite seq widths old mask values rest = s.offerUp (replyTelegram seq .badValue (k + 1) []) := by
  rw [State.maskedWrite, badMaskField_eq_some above small bit lowest]
  rfl

theorem State.maskedWrite_badLength (fits : mask < 2 ^ widths.length) (bad : values.length ≠ selectedWidth mask 0 widths) :
    s.maskedWrite seq widths old mask values rest = s.offerUp (replyTelegram seq .badLength 0 []) := by
  rw [State.maskedWrite, badMaskField_eq_none fits]
  exact if_pos bad

/-- A mask of 0 writes nothing (R18). -/
theorem State.maskedWrite_nothing :
    s.maskedWrite seq widths old 0 [] rest = s.offerUp (replyTelegram seq .ok 0 []) := by
  rw [State.maskedWrite, badMaskField_eq_none (Nat.two_pow_pos _)]
  refine (if_neg ?_).trans (if_pos rfl)
  rw [selectedWidth_zero]
  decide

end

/-- Settles O45. -/
theorem writesOfForm : Obligations.WritesOfForm := by
  refine ⟨?_, ?_, ⟨rfl, rfl, rfl, rfl, rfl, rfl, rfl, rfl, fun _ => rfl, ?_, ?_, fun _ => rfl, fun _ => rfl, fun _ => rfl,
    fun _ => rfl, fun _ => rfl⟩, fun _ => rfl, fun a h => Article.ofFields_fields h,
    fun z _ length bytes unused => ZoneEntry.ofFields_fields length bytes unused, fun _ => rfl,
    DofferEntry.ofFields_fields, fun _ => rfl, Settings.ofFields_fields, Disposition.ofFields_fields⟩
  · intro seq table index mask values s taken c size widths answers
    have row : ∀ {t : State}, s.writeTable seq table index mask values = t → exec c s = .next t := fun h =>
      exec_taken taken (exec_decodeTableWrite seq table index mask values) h
    refine ⟨fun bad => row (State.writeTable_badTable bad), fun valid bad => row (State.writeTable_badIndex valid bad),
      fun k valid inside above small bit lowest => ?_, fun valid inside fits => ⟨fun bad => ?_, fun hmask hvalues => ?_⟩⟩
    all_goals
      obtain ⟨old, rest, masked⟩ := State.writeTable_masked (s := s) (seq := seq) (mask := mask) (values := values) valid inside
      refine row (masked.trans ?_)
    · exact State.maskedWrite_badField above small bit lowest
    · exact State.maskedWrite_badLength fits bad
    · subst hmask hvalues
      exact State.maskedWrite_nothing
  · intro mask widths old values k length _ hk
    rw [getD_overlay mask widths 0 old values k length hk, Nat.zero_add]
  · exact fun a => ⟨coeffsNat a.coeffs, rfl, beBytes_coeffsNat a.coeffs⟩
  · exact fun z => ⟨patrolNat z.count z.slots, rfl, fun length bytes => beBytes_patrolNat length bytes⟩

end Machine
end Sys2Proof
end

section
/-! The outcomes of piecing (R21, R66, R91 to R93, R96). -/

namespace Sys2Proof.Machine

variable {s t : State} {k : RobotId} {f : FrameId} {side : Side} {i : Nat}

/-! ### What a quiet line keeps -/

theorem Spindle.settle_state (sp : Spindle) : sp.settle.state = sp.state := by
  unfold Spindle.settle
  split <;> rfl

theorem State.spindle_change_self (sp : Spindle) :
    (s.change f side i sp).spindle f side i = sp.settle ∨ (s.change f side i sp).spindle f side i = s.spindle f side i := by
  by_cases held : i < ((s.map f).side side).length
  · exact .inl (State.spindle_change f held sp)
  · right
    rw [State.spindle, State.map_change, FrameMap.put, List.getElem?_eq_none (Nat.not_lt.mp held), State.spindle]

/-- A change to another state than BROKEN makes no candidate. -/
theorem State.NoBroken.change (h : s.NoBroken) {sp : Spindle} (hsp : sp.state ≠ .broken) :
    (s.change f side i sp).NoBroken := by
  intro f' side' j
  by_cases same : (f', side', j) = (f, side, i)
  · obtain ⟨rfl, rfl, rfl⟩ : f' = f ∧ side' = side ∧ j = i := by simpa using same
    obtain e | e := State.spindle_change_self (s := s) (f := f') (side := side') (i := j) sp
    · rwa [e, Spindle.settle_state]
    · rw [e]
      exact h f' side' j
  · rw [State.spindle_change_ne same]
    exact h f' side' j

theorem State.NoneFlying.emit {p : Instr → Bool} (h : s.NoneFlying p) {c : Instr} (hc : p c = false) :
    (s.emit c).NoneFlying p := h.append rfl fun d hd => by rwa [List.mem_singleton.mp hd]

theorem State.NoneFlying.change {p : Instr → Bool} (h : s.NoneFlying p) (sp : Spindle)
    (broken : p (.brokenNotice f side i) = false)
    (last : p (.lastAssignedNotice f ((s.entry f).groupOf side i)) = false) : (s.change f side i sp).NoneFlying p := by
  refine h.append ((State.inFlight_change f side i sp).trans (List.append_assoc _ _ _)) fun c hc => ?_
  obtain hc | hc := List.mem_append.mp hc
  · obtain ⟨-, rfl⟩ : _ ∧ c = .brokenNotice f side i := by simpa using hc
    exact broken
  · obtain ⟨-, rfl⟩ : _ ∧ c = .lastAssignedNotice f ((s.entry f).groupOf side i) := by simpa using hc
    exact last

/-! ### What the PCD takes before an outcome (R21) -/

/-- The notice of the frame's enable comes first; what is to be taken then is what is to be taken behind it. -/
theorem State.pcdReadyForReport_succ {n : Nat} (h : s.enablesDue f = n + 1)
    (h' : (s.takeNotices (dcuToPcd f) (.frameRunningNotice f)).enablesDue f = n) :
    s.pcdReadyForReport f = (s.takeNotices (dcuToPcd f) (.frameRunningNotice f)).pcdReadyForReport f := by
  rw [State.pcdReadyForReport, State.pcdReadyForReport, State.enableApplied_succ h, State.enableApplied, h']

/-! ### The assignment that an outcome ends (R91) -/

/-- A robot whose assignment an outcome has ended, at the spindle. -/
def Robot.ended (r : Robot) (position : Nat) : Robot :=
  { r with state := .idle, assignment := none, deadline := none, position }

theorem State.outcomeOf_assigned {x : Assignment} (h : (s.robot k).state = .piecing) (h' : (s.robot k).assignment = some x) :
    s.outcomeOf k x.frame x.side x.index = some x := by
  rw [State.outcomeOf, h, h']
  exact if_pos ⟨rfl, rfl, rfl⟩

theorem State.outcomeOf_none (h : (s.robot k).state ≠ .piecing
      ∨ ∀ sat, (s.robot k).assignment ≠ some { frame := f, side, index := i, satisfied := sat }) :
    s.outcomeOf k f side i = none := by
  unfold State.outcomeOf
  split
  · rename_i x piecing assigned
    refine if_neg ?_
    rintro ⟨rfl, rfl, rfl⟩
    exact h.elim (fun other => other piecing) fun other => other x.satisfied assigned
  · rfl

theorem State.endAssignment_eq : s.endAssignment k f side i =
    s.setRobot k ((s.robot k).ended ((s.entry f).offset side + i)) := rfl

/-! ### The failure of an assignment, by its spindle (R66) -/

theorem State.takeFailure_other (h : (s.spindle f side i).state ≠ .assigned) : s.takeFailure f side i = s := if_neg h

theorem State.takeFailure_starved (h : (s.spindle f side i).state = .assigned) (h' : s.groupEmpty f side i = true) :
    s.takeFailure f side i = s.change f side i { s.spindle f side i with state := .starved } := by
  rw [State.takeFailure]
  exact (if_pos h).trans (if_pos h')

theorem State.takeFailure_attempt (h : (s.spindle f side i).state = .assigned) (h' : s.groupEmpty f side i = false) :
    s.takeFailure f side i = s.failAttempt f side i := by
  rw [State.takeFailure]
  exact (if_pos h).trans (if_neg (by simp [h']))

theorem State.robotZone_takeFailure : (s.takeFailure f side i).robotZone k = s.robotZone k := by
  obtain ⟨-, -, robots, -⟩ := State.tables_eq (State.Calm.takeFailure (.refl (s := s)) f side i).tables
  rw [State.robotZone, robots, State.robotZone]

/-! ### What the PCD makes of an outcome (R91 to R93) -/

/-- The one hand-off in flight that a unit has to take, of those that were just made. -/
theorem State.takeMatching_one {p : Instr → Bool} {app : Instr → State → State} {c : Instr} {l : List Instr}
    (none : s.NoneFlying p) (hc : p c = true) (hl : ∀ d ∈ l, p d = false) :
    ({ s with inFlight := s.inFlight ++ c :: l } : State).takeMatching p app =
      app c { s with inFlight := s.inFlight ++ l } := by
  have taken : (s.inFlight ++ c :: l).filter p = [c] := by
    rw [List.filter_append, List.filter_eq_nil_iff.mpr fun d hd => by simp [none d hd], List.filter_cons_of_pos hc,
      List.filter_eq_nil_iff.mpr fun d hd => by simp [hl d hd], List.nil_append]
  have left : (s.inFlight ++ c :: l).filter (fun d => !p d) = s.inFlight ++ l := by
    rw [List.filter_append, List.filter_eq_self.mpr fun d hd => by simp [none d hd], List.filter_cons_of_neg (by simp [hc]),
      List.filter_eq_self.mpr fun d hd => by simp [hl d hd]]
  rw [State.takeMatching, taken, left]
  rfl

/-- A verify entry is placed while the list has room (R96). -/
theorem State.placeVerify_room {d : Nat} (room : s.pcd.verify.length < 32) :
    s.placeVerify f side i d = (true, s.setVerify (insertVerify { frame := f, side, index := i, deadline := d }
      (s.pcd.verify.filter fun e => !e.names f side i))) := if_pos room

theorem State.placeVerify_full {d : Nat} (full : 32 ≤ s.pcd.verify.length) :
    s.placeVerify f side i d = (false, s.latch .verifySkipped) := if_neg (Nat.not_lt.mpr full)

section

variable (ready : s.pcdReadyForReport f = s)

include ready

theorem State.takePieced_stale (h : s.outcomeOf k f side i = none) : s.takePieced k f side i = s.bump .stale := by
  rw [State.takePieced, ready, h]
  rfl

theorem State.takeNotPieced_stale (h : s.outcomeOf k f side i = none) : s.takeNotPieced k f side i = s.bump .stale := by
  rw [State.takeNotPieced, ready, h]
  rfl

theorem State.takePieced_satisfied (quiet : s.Quiet)
    (h : s.outcomeOf k f side i = some { frame := f, side, index := i, satisfied := true }) :
    s.takePieced k f side i =
      (s.setRobot k ((s.robot k).ended ((s.entry f).offset side + i))).emit (.scuSuccessfulPiecing f) := by
  have idle : ((s.endAssignment k f side i).emit (.scuSuccessfulPiecing f)).NoneFlying aouFirst :=
    State.NoneFlying.append quiet.2.1 (t := (s.endAssignment k f side i).emit (.scuSuccessfulPiecing f)) rfl
      fun c hc => by rw [List.mem_singleton.mp hc]; rfl
  rw [State.takePieced, ready, h]
  exact State.Quiet.reevaluate quiet (t := (s.endAssignment k f side i).emit (.scuSuccessfulPiecing f)) rfl idle _

/-- A PIECED that asks for a verify entry, whether or not it was placed. -/
theorem State.takePieced_verified (quiet : s.Quiet)
    (h : s.outcomeOf k f side i = some { frame := f, side, index := i, satisfied := false }) {placed : Bool}
    (e : (s.endAssignment k f side i).placeVerify f side i
      (s.timer + 1000 * (s.store.zones.get (s.robotZone k)).verifyWindow) = (placed, t))
    (smu : t.smu = s.smu) (flying : t.inFlight = s.inFlight) :
    s.takePieced k f side i =
      { t with inFlight := s.inFlight ++ [.piecingRequest f side i placed, .scuSuccessfulPiecing f] } := by
  have idle : ((t.emit (.piecingRequest f side i placed)).emit (.scuSuccessfulPiecing f)).NoneFlying aouFirst :=
    ((quiet.2.1.of_inFlight flying).emit rfl).emit rfl
  have still := State.Quiet.reevaluate quiet (t := (t.emit (.piecingRequest f side i placed)).emit (.scuSuccessfulPiecing f))
    smu idle
  rw [State.takePieced, ready, h]
  refine (congrArg (fun p : Bool × State => ((p.2.emit (.piecingRequest f side i p.1)).emit (.scuSuccessfulPiecing f)).reevaluate
    (((p.2.emit (.piecingRequest f side i p.1)).emit (.scuSuccessfulPiecing f)).robotZone k)) e).trans ?_
  rw [still, State.emit_emit, flying]

/-- A NOT-PIECED of a satisfied assignment is stale, but ends it. -/
theorem State.takeNotPieced_satisfied (quiet : s.Quiet)
    (h : s.outcomeOf k f side i = some { frame := f, side, index := i, satisfied := true }) :
    s.takeNotPieced k f side i = (s.setRobot k ((s.robot k).ended ((s.entry f).offset side + i))).bump .stale := by
  rw [State.takeNotPieced, ready, h]
  exact State.Quiet.reevaluate quiet (t := (s.endAssignment k f side i).bump .stale) rfl
    (quiet.2.1.of_inFlight rfl) _

/-- A NOT-PIECED of an assignment that is not satisfied: the SMU takes the failure, then the robots of the zone are sent on
(R66, R93; log 50). -/
theorem State.takeNotPieced_failed (h : s.outcomeOf k f side i = some { frame := f, side, index := i, satisfied := false })
    (first : s.NoneFlying (smuFirst f)) (asked : s.NoneFlying (pcdToSmu f)) :
    s.takeNotPieced k f side i =
      (State.takeFailure f side i
        { s.setRobot k ((s.robot k).ended ((s.entry f).offset side + i)) with
          inFlight := s.inFlight ++ [.scuFailedPiecing f] }).reevaluate (s.robotZone k) := by
  have taken : (s.endAssignment k f side i).failPiecing f side i = State.takeFailure f side i
      { s.setRobot k ((s.robot k).ended ((s.entry f).offset side + i)) with
        inFlight := s.inFlight ++ [.scuFailedPiecing f] } := by
    rw [State.failPiecing, State.emit_emit]
    refine (State.takeMatching_one (s := s.endAssignment k f side i) (asked.of_inFlight rfl)
      (by simp [pcdToSmu]) (fun c hc => by rw [List.mem_singleton.mp hc]; rfl)).trans ?_
    rw [smuTake, State.smuReady_none]
    · rfl
    · exact first.append rfl fun c hc => by rw [List.mem_singleton.mp hc]; rfl
  rw [State.takeNotPieced, ready, h]
  refine (congrArg (fun u : State => u.reevaluate (u.robotZone k)) taken).trans ?_
  rw [State.robotZone_takeFailure]
  rfl

end

/-! ### The reports -/

theorem exec_pieced {node seq frame sd : Nat} (h : s.Takes (.pieced node seq frame sd i)) :
    exec (.pieced node seq frame sd i) s = .next ((s.copyReport (.pieced node seq frame sd i)).takePieced (robotAt node)
      (frameAt frame) (sideAt sd) i) := congrArg Host.Outcome.next (State.report_accepted h)

theorem exec_notPieced {node seq frame sd cause : Nat} (h : s.Takes (.notPieced node seq frame sd i cause)) :
    exec (.notPieced node seq frame sd i cause) s = .next ((s.copyReport (.notPieced node seq frame sd i cause)).takeNotPieced
      (robotAt node) (frameAt frame) (sideAt sd) i) := congrArg Host.Outcome.next (State.report_accepted h)

section

variable (c : Instr)

theorem State.outcomeOf_copyReport : (s.copyReport c).outcomeOf k f side i = s.outcomeOf k f side i := by
  rw [State.outcomeOf, State.outcomeOf, State.robot_copyReport]

theorem State.next_copyReport {lane : Instr → Bool} {d : Instr} (h : s.Next lane d) : (s.copyReport c).Next lane d := by
  rwa [State.Next, State.copyReport_power, State.ahead, State.copyReport_inFlight]

theorem State.groupEmpty_copyReport : (s.copyReport c).groupEmpty f side i = s.groupEmpty f side i := by
  simp [State.groupEmpty, State.remaining]

theorem State.pcdReadyForReport_copyReport (h : s.enablesDue f = 0) (quiet : s.Quiet) :
    (s.copyReport c).pcdReadyForReport f = s.copyReport c :=
  State.pcdReadyForReport_none (by rwa [State.enablesDue_copyReport]) (quiet.copyReport c).2.2

end

/-- Settles O27: the outcome of the spindle that a PIECING robot is assigned ends the assignment, by what it says and whether
the assignment was satisfied; any other is stale; and an enable of the frame that is due is taken first. -/
theorem outcomesOfPiecing : Obligations.OutcomesOfPiecing := by
  unfold Obligations.OutcomesOfPiecing
  refine ⟨?_, ?_⟩
  · intro node seq frame sd i cause s pieced failed k f side r r' others entry quiet due
    have ended (c : Instr) : ((s.copyReport c).robot k).ended (((s.copyReport c).entry f).offset side + i) = r' := by
      rw [State.robot_copyReport, State.entry_copyReport]
      rfl
    have ready (c : Instr) := State.pcdReadyForReport_copyReport c due quiet
    refine ⟨fun sat piecing assigned => ?_, fun other => ?_⟩
    · have ends (c : Instr) : (s.copyReport c).outcomeOf k f side i = some { frame := f, side, index := i, satisfied := sat } :=
        (State.outcomeOf_copyReport c).trans (State.outcomeOf_assigned piecing assigned)
      refine ⟨fun takes => ⟨?_, ?_, ?_⟩, fun takes => ⟨?_, ?_⟩⟩
      · rintro rfl
        rw [exec_pieced takes, State.takePieced_satisfied (ready pieced) (quiet.copyReport pieced) (ends pieced), ended]
      · rintro rfl room
        rw [exec_pieced takes, State.takePieced_verified (ready pieced) (quiet.copyReport pieced) (ends pieced)
          (State.placeVerify_room (by simpa [State.endAssignment_eq] using room)) rfl rfl, State.endAssignment_eq, ended]
        simp only [State.setVerify, State.setRobot, State.copyReport_pcd, State.copyReport_inFlight, State.copyReport_timer,
          State.copyReport_store_zones, State.robotZone_copyReport]
        rfl
      · rintro rfl full
        rw [exec_pieced takes, State.takePieced_verified (ready pieced) (quiet.copyReport pieced) (ends pieced)
          (State.placeVerify_full (by simpa [State.endAssignment_eq] using full)) rfl rfl, State.endAssignment_eq, ended,
          State.copyReport_inFlight]
        rfl
      · rintro rfl
        rw [exec_notPieced takes, State.takeNotPieced_satisfied (ready failed) (quiet.copyReport failed) (ends failed), ended]
      · rintro rfl first asked sp after
        have spindle : after.spindle f side i = sp := State.spindle_copyReport failed f side i
        have group : after.groupEmpty f side i = s.groupEmpty f side i := State.groupEmpty_copyReport failed
        have calm : after.NoBroken := (quiet.copyReport failed).1.of_smu rfl
        have idle : after.NoneFlying aouFirst := quiet.2.1.append (t := after) rfl fun c hc => by
          rw [List.mem_singleton.mp hc]
          rfl
        rw [exec_notPieced takes, State.takeNotPieced_failed (ready failed) (ends failed) (first.copyReport failed)
          (asked.copyReport failed), ended, State.copyReport_inFlight, State.robotZone_copyReport]
        refine ⟨fun h => ?_, fun h h' => ?_, fun h h' => ?_⟩
        · rw [State.takeFailure_other (s := after) (by rwa [spindle]), State.reevaluate_noBroken calm idle]
        · rw [State.takeFailure_starved (s := after) (by rwa [spindle]) (by rwa [group]), spindle,
            State.reevaluate_noBroken (calm.change (by simp)) (idle.change _ rfl rfl)]
        · rw [State.takeFailure_attempt (s := after) (by rwa [spindle]) (by rwa [group])]
    · have stale (c : Instr) : (s.copyReport c).outcomeOf k f side i = none :=
        (State.outcomeOf_copyReport c).trans (State.outcomeOf_none other)
      exact ⟨fun takes => by rw [exec_pieced takes, State.takePieced_stale (ready pieced) (stale pieced)],
        fun takes => by rw [exec_notPieced takes, State.takeNotPieced_stale (ready failed) (stale failed)]⟩
  · intro node seq frame sd i cause n s pieced failed k f side running due flying next
    have first (c : Instr) : ∃ t, exec running (s.copyReport c) = .next t ∧ t.enablesDue f = n
        ∧ (s.copyReport c).pcdReadyForReport f = t.pcdReadyForReport f := by
      have left : ((s.copyReport c).takeNotices (dcuToPcd f) running).enablesDue f = n := by
        rw [State.enablesDue_takeNotices_running (by rwa [State.copyReport_inFlight]) (State.next_copyReport c next),
          State.enablesDue_copyReport, due, Nat.add_sub_cancel]
      exact ⟨_, rfl, left, State.pcdReadyForReport_succ (by rwa [State.enablesDue_copyReport]) left⟩
    refine ⟨fun takes => ?_, fun takes => ?_⟩
    · obtain ⟨t, step, left, same⟩ := first pieced
      refine ⟨t, step, left, (exec_pieced takes).trans ?_⟩
      rw [State.takePieced, same, State.takePieced]
    · obtain ⟨t, step, left, same⟩ := first failed
      refine ⟨t, step, left, (exec_notPieced takes).trans ?_⟩
      rw [State.takeNotPieced, same, State.takeNotPieced]

end Sys2Proof.Machine
end

section
/-! Writes to the Robot, Doffer and Carrier Tables: stored, refused, and the enables (R18, R20, R26 to R28). -/

namespace Sys2Proof.Machine

variable {s : State}

/-! ### The judgement of a write -/

/-- The reply names the first condition that fails (R18 step 6). -/
theorem State.judgeWrite_refused {seq : Nat} {conds before after : List Bool} {badState : Bool} {commit : State → State}
    (h : conds = before ++ false :: after ∧ ∀ b ∈ before, b = true) :
    s.judgeWrite seq false conds badState commit = s.offerUp (replyTelegram seq .badValue (before.length + 1) []) := by
  obtain ⟨rfl, holds⟩ := h
  refine State.judgeWrite_fails ⟨?_, ?_, fun j lower => ?_⟩
  · simp
  · simp
  · rw [List.getD_append _ _ _ _ lower, List.getD_eq_getElem _ _ lower]
    exact holds _ (List.getElem_mem lower)

theorem State.judgeWrite_badState {seq : Nat} {conds : List Bool} {commit : State → State} (h : ∀ b ∈ conds, b = true) :
    s.judgeWrite seq false conds true commit = s.offerUp (replyTelegram seq .badState 0 []) := by
  simp only [State.judgeWrite, firstFailing_eq_none.mpr h, Bool.false_eq_true, if_false]
  rfl

theorem all_of_pair {a b : Bool} (h : a = true) (h' : b = true) : ∀ x ∈ [a, b], x = true := by simp [h, h']

theorem all_of_triple {a b c : Bool} (h : a = true) (h' : b = true) (h'' : c = true) : ∀ x ∈ [a, b, c], x = true := by
  simp [h, h', h'']

/-! ### The writes past their checks of form -/

section

variable {seq mask : Nat} {values : List Byte} {k : RobotId} {d : DofferId} {c : CarrierId}

/-- How many other enabled robots serve a zone (R26). -/
def State.otherRobots (s : State) (k : RobotId) (zone : Nat) : Nat :=
  ((List.finRange 12).filter fun j =>
    j != k && (s.store.robots.get j).enabled == 1 && (s.store.robots.get j).zone == zone).length

theorem exec_robotWrite_formed (h : s.Manages) (ready : s.NoneFlying pcdBefore)
    (form : mask ≠ 0 ∧ mask < 2 ^ robotWidths.length ∧ values.length = selectedWidth mask 0 robotWidths) :
    let e := RobotEntry.ofFields (overlay mask 0 robotWidths (s.store.robots.get k).fields values)
    exec (.tableWrite seq 3 k.val mask values) s = .next
      (s.judgeWrite seq
        (e.zone != (s.store.robots.get k).zone && !((s.robot k).state == .offline || (s.robot k).state == .parked))
        [decide (e.enabled ≤ 1),
         decide (e.zone ≤ 7 ∧ (e.enabled = 1 →
          1 ≤ (s.store.zones.get (Fin.ofNat 8 e.zone)).count ∧ s.otherRobots k e.zone < 3))]
        false (State.commitRobot k e)) := by
  intro e
  have conds : [between 0 e.enabled 1, between 0 e.zone 7
        && (e.enabled != 1 || (decide (1 ≤ (s.store.zones.get (Fin.ofNat 8 e.zone)).count)
          && decide (s.otherRobots k e.zone < 3)))] =
      [decide (e.enabled ≤ 1), decide (e.zone ≤ 7 ∧ (e.enabled = 1 →
        1 ≤ (s.store.zones.get (Fin.ofNat 8 e.zone)).count ∧ s.otherRobots k e.zone < 3))] := by
    simp only [List.cons.injEq, eq_decide_iff, between_iff, Bool.and_eq_true, Bool.or_eq_true, decide_eq_true_eq, bne_iff_ne,
      Nat.zero_le, and_true, true_and]
    tauto
  rw [← conds]
  refine congrArg Host.Outcome.next ((State.management_taken h).trans ?_)
  refine (dif_pos k.isLt).trans ((State.maskedWrite_formed form).trans ?_)
  dsimp only
  rw [State.pcdReadyRobot_none ready]
  rfl

theorem exec_dofferWrite_formed (h : s.Manages)
    (form : mask ≠ 0 ∧ mask < 2 ^ dofferWidths.length ∧ values.length = selectedWidth mask 0 dofferWidths) :
    let e := DofferEntry.ofFields (overlay mask 0 dofferWidths (s.store.doffers.get d).fields values)
    exec (.tableWrite seq 4 d.val mask values) s = .next
      (s.judgeWrite seq false [decide (e.enabled ≤ 1), true, decide (1 ≤ e.timeout ∧ e.timeout ≤ 60)]
        ((s.store.doffers.get d).enabled == 1 && e.enabled == 0 && (s.doffer d).state == .doffing)
        (State.commitDoffer d mask e)) := by
  intro e
  have conds : [between 0 e.enabled 1, true, between 1 e.timeout 60] =
      [decide (e.enabled ≤ 1), true, decide (1 ≤ e.timeout ∧ e.timeout ≤ 60)] := by
    simp only [List.cons.injEq, eq_decide_iff, between_iff, Nat.zero_le, and_true, true_and]
  rw [← conds]
  refine congrArg Host.Outcome.next ((State.management_taken h).trans ?_)
  exact (dif_pos d.isLt).trans (State.maskedWrite_formed form)

theorem exec_carrierWrite_formed (h : s.Manages)
    (form : mask ≠ 0 ∧ mask < 2 ^ carrierWidths.length ∧ values.length = selectedWidth mask 0 carrierWidths) :
    let e := CarrierEntry.ofFields (overlay mask 0 carrierWidths (s.store.carriers.get c).fields values)
    exec (.tableWrite seq 5 c.val mask values) s = .next
      (s.judgeWrite seq false
        [decide (e.enabled ≤ 1), decide (1 ≤ e.travelTimeout ∧ e.travelTimeout ≤ 30),
         decide (1 ≤ e.changeTimeout ∧ e.changeTimeout ≤ 30)]
        false (State.commitCarrier c e)) := by
  intro e
  have conds : [between 0 e.enabled 1, between 1 e.travelTimeout 30, between 1 e.changeTimeout 30] =
      [decide (e.enabled ≤ 1), decide (1 ≤ e.travelTimeout ∧ e.travelTimeout ≤ 30),
       decide (1 ≤ e.changeTimeout ∧ e.changeTimeout ≤ 30)] := by
    simp only [List.cons.injEq, eq_decide_iff, between_iff, Nat.zero_le, and_true, true_and]
  rw [← conds]
  refine congrArg Host.Outcome.next ((State.management_taken h).trans ?_)
  exact (dif_pos c.isLt).trans (State.maskedWrite_formed form)

end

/-! ### The first field of an enable or disable -/

/-- The entry of a write whose lowest selected field is the first. -/
theorem overlay_first {mask : Nat} (even : mask % 2 = 0) (b : Byte) (widths : List Nat) (o : Nat) (old : List Nat)
    (values : List Byte) :
    overlay (mask + 1) 0 (1 :: widths) (o :: old) (b :: values) = b.toNat :: overlay (mask + 1) 1 widths old values := by
  have bit : (mask + 1).testBit 0 = true := by
    rw [Nat.testBit_zero, decide_eq_true_iff]
    omega
  refine (if_pos bit).trans ?_
  rw [List.take_succ_cons, List.take_zero, List.drop_succ_cons, List.drop_zero, beNat_cons]
  simp [beNat]

theorem testBit_add_one_of_even {mask : Nat} (even : mask % 2 = 0) (j : Nat) :
    (mask + 1).testBit (j + 1) = mask.testBit (j + 1) := by
  rw [Nat.testBit_succ, Nat.testBit_succ, show (mask + 1) / 2 = mask / 2 by omega]

/-! ### The effects of a write by the enable field (R26 to R28) -/

section

variable {k : RobotId} {d : DofferId} {c : CarrierId}

theorem State.commitRobot_enable {e : RobotEntry} (h : (s.store.robots.get k).enabled = 0) (h' : e.enabled = 1) :
    s.commitRobot k e =
      sendStateRequest (0x40 + k.val) { s with store := { s.store with robots := s.store.robots.set k e } } := if_pos ⟨h, h'⟩

theorem State.commitRobot_same {e : RobotEntry} (h : e.enabled = (s.store.robots.get k).enabled) :
    s.commitRobot k e = { s with store := { s.store with robots := s.store.robots.set k e } } := by
  rw [State.commitRobot]
  exact (if_neg (by omega)).trans (if_neg (by omega))

theorem State.commitCarrier_enable {e : CarrierEntry} (h : (s.store.carriers.get c).enabled = 0) (h' : e.enabled = 1) :
    s.commitCarrier c e =
      sendStateRequest (0x58 + c.val) { s with store := { s.store with carriers := s.store.carriers.set c e } } := if_pos ⟨h, h'⟩

theorem State.commitCarrier_same {e : CarrierEntry} (h : e.enabled = (s.store.carriers.get c).enabled) :
    s.commitCarrier c e = { s with store := { s.store with carriers := s.store.carriers.set c e } } := by
  rw [State.commitCarrier]
  exact (if_neg (by omega)).trans (if_neg (by omega))

/-- The reach, where a write names it. -/
def State.reachWritten (d : DofferId) (mask : Nat) (reach : BitVec 48) (s : State) : State :=
  if mask.testBit 1 then s.writeReach d reach else s

theorem State.commitDoffer_enable {mask : Nat} {e : DofferEntry} (h : (s.store.doffers.get d).enabled = 0) (h' : e.enabled = 1) :
    s.commitDoffer d mask e = (sendStateRequest (0x50 + d.val)
      { s with store := { s.store with doffers := s.store.doffers.set d e } }).reachWritten d mask e.reach :=
  congrArg (State.reachWritten d mask e.reach) (if_pos ⟨h, h'⟩)

theorem State.commitDoffer_same {mask : Nat} {e : DofferEntry} (h : e.enabled = (s.store.doffers.get d).enabled) :
    s.commitDoffer d mask e =
      ({ s with store := { s.store with doffers := s.store.doffers.set d e } } : State).reachWritten d mask e.reach :=
  congrArg (State.reachWritten d mask e.reach) ((if_neg (by omega)).trans (if_neg (by omega)))

/-! ### A reach is written (R27) -/

theorem State.writeReach_offline {reach : BitVec 48} (h : (s.doffer d).state = .offline) :
    s.writeReach d reach = s.setDoffer d { s.doffer d with reach, reachPending := none } := by
  rw [State.writeReach, h]
  rfl

theorem State.writeReach_idle {reach : BitVec 48} (h : (s.doffer d).state = .idle) :
    s.writeReach d reach = (s.setDoffer d { s.doffer d with reach, reachPending := none }).pick d := by
  rw [State.writeReach, h]
  rfl

theorem State.writeReach_busy {reach : BitVec 48}
    (h : (s.doffer d).state = .claiming ∨ (s.doffer d).state = .doffing ∨ (s.doffer d).state = .faulted) :
    s.writeReach d reach = s.setDoffer d { s.doffer d with reachPending := some reach } := by
  obtain h | h | h := h
  all_goals
    rw [State.writeReach, h]
    rfl

/-- What is sent has no part in the units' records. -/
theorem State.sendFloor_setDoffer (node kind : Nat) (payload : List Byte) (r : Doffer) :
    (s.setDoffer d r).sendFloor node kind payload = (s.sendFloor node kind payload).setDoffer d r := by
  have spoken := (State.spoken_sendFloor (s := s) node kind payload).eq_telling
  exact (State.sendFloor_telling (s := s) (s.setDoffer d r) node kind payload).trans
    (congrArg (State.setDoffer d r) spoken).symm

theorem State.doffer_sendFloor (node kind : Nat) (payload : List Byte) : (s.sendFloor node kind payload).doffer d = s.doffer d := by
  rw [State.doffer, State.sendFloor_dcu, State.doffer]

theorem Tab.set_self {n : Nat} {α : Type} (t : Tab n α) (i : Fin n) : t.set i (t.get i) = t := by
  refine Tab.ext_get fun j => ?_
  rw [Tab.get_set]
  split
  · rename_i h
    rw [h]
  · rfl

theorem State.setDoffer_self : s.setDoffer d (s.doffer d) = s := by
  rw [State.setDoffer, State.doffer, Tab.set_self]

/-- The enable of an OFFLINE doffer with a new reach or without. -/
theorem State.reachWritten_enable {node mask : Nat} {reach : BitVec 48} (even : mask % 2 = 0) (h : (s.doffer d).state = .offline) :
    (sendStateRequest node s).reachWritten d (mask + 1) reach = sendStateRequest node (s.setDoffer d
      (if mask.testBit 1 = true then { s.doffer d with reach, reachPending := none } else s.doffer d)) := by
  have same : (sendStateRequest node s).doffer d = s.doffer d := State.doffer_sendFloor node 0x26 []
  rw [State.reachWritten, testBit_add_one_of_even even]
  by_cases bit : mask.testBit 1 = true
  · rw [if_pos bit, if_pos bit, State.writeReach_offline (by rwa [same]), same]
    exact (State.sendFloor_setDoffer node 0x26 [] _).symm
  · rw [if_neg bit, if_neg bit, State.setDoffer_self]

end

/-! ### Writes of one field -/

theorem RobotEntry.overlay_zone (e : RobotEntry) {zone : Nat} (h : zone < 256) :
    RobotEntry.ofFields (overlay 2 0 robotWidths e.fields (beBytes 1 zone)) = { e with zone } := by
  show ({ e with zone := beNat (beBytes 1 zone) } : RobotEntry) = _
  rw [beNat_beBytes, Nat.mod_eq_of_lt (by omega)]

theorem DofferEntry.overlay_reach (e : DofferEntry) {reach : Nat} (h : reach < 2 ^ 48) :
    DofferEntry.ofFields (overlay 2 0 dofferWidths e.fields (beBytes 6 reach)) = { e with reach := BitVec.ofNat 48 reach } := by
  have written (bytes : List Byte) : DofferEntry.ofFields (overlay 2 0 dofferWidths e.fields bytes) =
      { e with reach := BitVec.ofNat 48 (beNat (bytes.take 6)) } := rfl
  rw [written, List.take_of_length_le (beBytes_length 6 reach).le, beNat_beBytes, Nat.mod_eq_of_lt (by omega)]

theorem DofferEntry.overlay_timeout (e : DofferEntry) {timeout : Nat} (h : timeout < 256) :
    DofferEntry.ofFields (overlay 4 0 dofferWidths e.fields (beBytes 1 timeout)) = { e with timeout } := by
  show ({ e with reach := BitVec.ofNat 48 e.reach.toNat, timeout := beNat (beBytes 1 timeout) } : DofferEntry) = _
  rw [beNat_beBytes, Nat.mod_eq_of_lt (by omega), BitVec.ofNat_toNat, BitVec.setWidth_eq]

theorem CarrierEntry.overlay_travel (e : CarrierEntry) {timeout : Nat} (h : timeout < 256) :
    CarrierEntry.ofFields (overlay 2 0 carrierWidths e.fields (beBytes 1 timeout)) = { e with travelTimeout := timeout } := by
  show ({ e with travelTimeout := beNat (beBytes 1 timeout) } : CarrierEntry) = _
  rw [beNat_beBytes, Nat.mod_eq_of_lt (by omega)]

theorem CarrierEntry.overlay_change (e : CarrierEntry) {timeout : Nat} (h : timeout < 256) :
    CarrierEntry.ofFields (overlay 4 0 carrierWidths e.fields (beBytes 1 timeout)) = { e with changeTimeout := timeout } := by
  show ({ e with changeTimeout := beNat (beBytes 1 timeout) } : CarrierEntry) = _
  rw [beNat_beBytes, Nat.mod_eq_of_lt (by omega)]

section

variable {seq zone reach timeout : Nat} {k : RobotId} {d : DofferId} {c : CarrierId}

/-- The zone of a robot that is OFFLINE or PARKED (R26). -/
theorem exec_robotZoneChange_stored (h : s.Manages) (ready : s.NoneFlying pcdBefore) (on : (s.store.robots.get k).enabled ≤ 1)
    (valid : zone ≤ 7) (still : (s.robot k).state = .offline ∨ (s.robot k).state = .parked)
    (patrol : (s.store.robots.get k).enabled = 1 →
      1 ≤ (s.store.zones.get (Fin.ofNat 8 zone)).count ∧ s.otherRobots k zone < 3) :
    exec (.robotZoneChange seq k.val zone) s = .next (State.offerUp (replyTelegram seq .ok 0 [])
      { s with store := { s.store with robots := s.store.robots.set k { s.store.robots.get k with zone } } }) := by
  have allowed : (!((s.robot k).state == .offline || (s.robot k).state == .parked)) = false := by
    obtain h | h := still
    · simp [h]
    · simp [h]
  refine (exec_robotWrite_formed h ready ⟨by decide, by decide, beBytes_length 1 zone⟩).trans ?_
  rw [RobotEntry.overlay_zone _ (by omega), allowed, Bool.and_false,
    State.judgeWrite_passes (all_of_pair (decide_eq_true on) (decide_eq_true ⟨valid, patrol⟩)),
    State.commitRobot_same (e := { s.store.robots.get k with zone }) rfl]

theorem exec_robotZoneChange_inUse (h : s.Manages) (ready : s.NoneFlying pcdBefore) (valid : zone ≤ 7)
    (online : (s.robot k).state ≠ .offline) (moving : (s.robot k).state ≠ .parked) (other : zone ≠ (s.store.robots.get k).zone) :
    exec (.robotZoneChange seq k.val zone) s = .next (s.offerUp (replyTelegram seq .inUse 0 [])) := by
  have used : (zone != (s.store.robots.get k).zone && !((s.robot k).state == .offline || (s.robot k).state == .parked)) = true := by
    simp [online, moving, other]
  refine (exec_robotWrite_formed h ready ⟨by decide, by decide, beBytes_length 1 zone⟩).trans ?_
  rw [RobotEntry.overlay_zone _ (by omega), used]
  rfl

/-- A reach is stored and written, whatever the doffer's state (R27). -/
theorem exec_dofferReachWrite_stored (h : s.Manages) (on : (s.store.doffers.get d).enabled ≤ 1)
    (low : 1 ≤ (s.store.doffers.get d).timeout) (high : (s.store.doffers.get d).timeout ≤ 60) (fits : reach < 2 ^ 48) :
    exec (.dofferReachWrite seq d.val reach) s = .next (State.offerUp (replyTelegram seq .ok 0 [])
      (State.writeReach d (BitVec.ofNat 48 reach)
        { s with store := { s.store with
          doffers := s.store.doffers.set d { s.store.doffers.get d with reach := BitVec.ofNat 48 reach } } })) := by
  have kept : ((s.store.doffers.get d).enabled == 1 && (s.store.doffers.get d).enabled == 0 && (s.doffer d).state == .doffing)
      = false := by
    by_cases h : (s.store.doffers.get d).enabled = 1
    · simp [h]
    · simp [h]
  refine (exec_dofferWrite_formed h ⟨by decide, by decide, beBytes_length 6 reach⟩).trans ?_
  rw [DofferEntry.overlay_reach _ fits, kept,
    State.judgeWrite_passes (all_of_triple (decide_eq_true on) rfl (decide_eq_true ⟨low, high⟩)),
    State.commitDoffer_same (e := { s.store.doffers.get d with reach := BitVec.ofNat 48 reach }) rfl]
  rfl

theorem exec_dofferTimeout_stored (h : s.Manages) (on : (s.store.doffers.get d).enabled ≤ 1) (low : 1 ≤ timeout)
    (high : timeout ≤ 60) :
    exec (.tableWrite seq 4 d.val 4 (beBytes 1 timeout)) s = .next (State.offerUp (replyTelegram seq .ok 0 [])
      { s with store := { s.store with doffers := s.store.doffers.set d { s.store.doffers.get d with timeout } } }) := by
  have kept : ((s.store.doffers.get d).enabled == 1 && (s.store.doffers.get d).enabled == 0 && (s.doffer d).state == .doffing)
      = false := by
    by_cases h : (s.store.doffers.get d).enabled = 1
    · simp [h]
    · simp [h]
  refine (exec_dofferWrite_formed h ⟨by decide, by decide, beBytes_length 1 timeout⟩).trans ?_
  rw [DofferEntry.overlay_timeout _ (by omega), kept,
    State.judgeWrite_passes (all_of_triple (decide_eq_true on) rfl (decide_eq_true ⟨low, high⟩)),
    State.commitDoffer_same (e := { s.store.doffers.get d with timeout }) rfl]
  rfl

end

/-! ### The obligation -/

theorem form_of_enable {mask : Nat} {v : Byte} {values : List Byte} {widths : List Nat}
    (h : mask % 2 = 0 ∧ mask + 1 < 2 ^ widths.length ∧ values.length + 1 = selectedWidth (mask + 1) 0 widths) :
    mask + 1 ≠ 0 ∧ mask + 1 < 2 ^ widths.length ∧ (v :: values).length = selectedWidth (mask + 1) 0 widths :=
  ⟨Nat.succ_ne_zero mask, h.2⟩

/-- Settles O49: past the checks of form a machine table's write is judged and, where it passes, stored with the effects of its
enable field or reach. -/
theorem machineWrites : Obligations.MachineWrites := by
  unfold Obligations.MachineWrites
  refine ⟨?_, ?_, ?_, ?_⟩
  · intro seq mask values k d c s ok form robot doffer carrier manages
    refine ⟨fun formed off ready offline zone patrol few => ?_, fun formed off low high offline => ?_,
      fun formed off low high low' high' => ?_⟩
    · have on : robot.enabled = 1 := congrArg (fun l => l.getD 0 0) (overlay_first formed.1 1#8 [1] _ _ values)
      refine (exec_robotWrite_formed manages ready (form_of_enable formed)).trans ?_
      rw [show (_ && !((s.robot k).state == .offline || (s.robot k).state == .parked)) = false by simp [offline],
        State.judgeWrite_passes (all_of_pair (decide_eq_true on.le) (decide_eq_true ⟨zone, fun _ => ⟨patrol, few⟩⟩)),
        State.commitRobot_enable off on]
    · have on : doffer.enabled = 1 := congrArg (fun l => l.getD 0 0) (overlay_first formed.1 1#8 [6, 1] _ _ values)
      refine (exec_dofferWrite_formed manages (form_of_enable formed)).trans ?_
      rw [show ((s.store.doffers.get d).enabled == 1 && _ && _) = false by simp [off],
        State.judgeWrite_passes (all_of_triple (decide_eq_true on.le) rfl (decide_eq_true ⟨low, high⟩)),
        State.commitDoffer_enable off on, State.reachWritten_enable
          (s := { s with store := { s.store with doffers := s.store.doffers.set d doffer } }) formed.1 offline]
      rfl
    · have on : carrier.enabled = 1 := congrArg (fun l => l.getD 0 0) (overlay_first formed.1 1#8 [1, 1] _ _ values)
      refine (exec_carrierWrite_formed manages (form_of_enable formed)).trans ?_
      rw [State.judgeWrite_passes
          (all_of_triple (decide_eq_true on.le) (decide_eq_true ⟨low, high⟩) (decide_eq_true ⟨low', high'⟩)),
        State.commitCarrier_enable off on]
  · intro seq zone reach timeout k d c s ok e moved b written manages
    refine ⟨fun ready on valid => ⟨fun still patrol => ?_, fun online moving other => ?_⟩,
      fun on low high fits => ⟨fun offline => ?_, fun idle => ?_, fun busy => ?_⟩, fun on low high => ?_,
      fun on low high low' high' => ?_, fun on low high low' high' => ?_⟩
    · exact exec_robotZoneChange_stored manages ready on valid still patrol
    · exact exec_robotZoneChange_inUse manages ready valid online moving other
    · rw [exec_dofferReachWrite_stored manages on low high fits, State.writeReach_offline (s := written) offline]
      rfl
    · rw [exec_dofferReachWrite_stored manages on low high fits, State.writeReach_idle (s := written) idle]
      rfl
    · rw [exec_dofferReachWrite_stored manages on low high fits, State.writeReach_busy (s := written) busy]
      rfl
    · exact exec_dofferTimeout_stored manages on low high
    · refine (exec_carrierWrite_formed manages ⟨by decide, by decide, beBytes_length 1 timeout⟩).trans ?_
      rw [CarrierEntry.overlay_travel _ (by omega), State.judgeWrite_passes (all_of_triple (decide_eq_true on)
        (decide_eq_true ⟨low, high⟩) (decide_eq_true ⟨low', high'⟩)),
        State.commitCarrier_same (e := { s.store.carriers.get c with travelTimeout := timeout }) rfl]
    · refine (exec_carrierWrite_formed manages ⟨by decide, by decide, beBytes_length 1 timeout⟩).trans ?_
      rw [CarrierEntry.overlay_change _ (by omega), State.judgeWrite_passes (all_of_triple (decide_eq_true on)
        (decide_eq_true ⟨low', high'⟩) (decide_eq_true ⟨low, high⟩)),
        State.commitCarrier_same (e := { s.store.carriers.get c with changeTimeout := timeout }) rfl]
  · intro seq mask values before after f k d c s form result frame robot doffer carrier others fails refused manages
    refine ⟨fun formed free failed => ?_, fun formed ready still failed => ?_, fun formed failed => ?_, fun formed failed => ?_⟩
    · have unlocked : (s.enabled f && locksFrame mask) = false := by
        rw [Bool.and_eq_false_imp]
        exact free
      refine (exec_frameTableWrite_formed manages ⟨formed.1.ne', formed.2⟩).trans ?_
      rw [unlocked, State.judgeWrite_refused failed]
    · have allowed : (robot.zone != (s.store.robots.get k).zone
          && !((s.robot k).state == .offline || (s.robot k).state == .parked)) = false := by
        obtain h | h | h := still
        · simp [h]
        · simp [h]
        · rw [h]
          simp
      refine (exec_robotWrite_formed manages ready ⟨formed.1.ne', formed.2⟩).trans ?_
      rw [allowed]
      exact congrArg Host.Outcome.next (State.judgeWrite_refused failed)
    · refine (exec_dofferWrite_formed manages ⟨formed.1.ne', formed.2⟩).trans ?_
      rw [State.judgeWrite_refused failed]
    · refine (exec_carrierWrite_formed manages ⟨formed.1.ne', formed.2⟩).trans ?_
      rw [State.judgeWrite_refused failed]
  · intro seq index mask n values s write
    exact ⟨rfl, rfl, rfl, rfl, rfl, rfl, rfl, rfl, rfl, rfl, rfl⟩

end Sys2Proof.Machine
end

section
/-! The disables of robots, doffers and carriers (R26 to R28, R105, R121, R122, R156). -/

namespace Sys2Proof.Machine

variable {s t : State} {seq : Nat} {k : RobotId} {d : DofferId} {c : CarrierId} {f : FrameId} {g : GroupId}

/-! ### The write that disables -/

/-- The entry of a disabled machine, stored. -/
def State.storeRobotOff (k : RobotId) (s : State) : State :=
  { s with store := { s.store with robots := s.store.robots.set k { s.store.robots.get k with enabled := 0 } } }

@[inherit_doc State.storeRobotOff]
def State.storeDofferOff (d : DofferId) (s : State) : State :=
  { s with store := { s.store with doffers := s.store.doffers.set d { s.store.doffers.get d with enabled := 0 } } }

@[inherit_doc State.storeRobotOff]
def State.storeCarrierOff (c : CarrierId) (s : State) : State :=
  { s with store := { s.store with carriers := s.store.carriers.set c { s.store.carriers.get c with enabled := 0 } } }

theorem exec_robotDisable_taken (h : s.Manages) (ready : s.NoneFlying pcdBefore) (zone : (s.store.robots.get k).zone ≤ 7)
    (on : (s.store.robots.get k).enabled = 1) :
    exec (.robotDisable seq k.val 0 []) s = .next (State.offerUp (replyTelegram seq .ok 0 [])
      (((s.storeRobotOff k).disableRobot k).reevaluate (s.robotZone k))) := by
  have entry : RobotEntry.ofFields (overlay 1 0 robotWidths (s.store.robots.get k).fields [0#8]) =
      { s.store.robots.get k with enabled := 0 } := rfl
  refine (exec_robotWrite_formed (values := [0#8]) (mask := 1) h ready ⟨by decide, by decide, rfl⟩).trans ?_
  rw [entry]
  dsimp only
  rw [bne_self_eq_false, Bool.false_and,
    State.judgeWrite_passes (all_of_pair (decide_eq_true (Nat.zero_le 1)) (decide_eq_true ⟨zone, fun h => absurd h (by decide)⟩))]
  refine congrArg (fun u => Host.Outcome.next (State.offerUp (replyTelegram seq .ok 0 []) u)) ?_
  exact (if_neg fun h => absurd (on.symm.trans h.1) (by decide)).trans (if_pos ⟨on, rfl⟩)

theorem exec_dofferDisable_judged (h : s.Manages) (on : (s.store.doffers.get d).enabled = 1)
    (low : 1 ≤ (s.store.doffers.get d).timeout) (high : (s.store.doffers.get d).timeout ≤ 60) :
    exec (.dofferDisable seq d.val 0 []) s = .next
      (if (s.doffer d).state = .doffing then s.offerUp (replyTelegram seq .badState 0 [])
       else State.offerUp (replyTelegram seq .ok 0 []) ((s.storeDofferOff d).disableDoffer d)) := by
  have entry : DofferEntry.ofFields (overlay 1 0 dofferWidths (s.store.doffers.get d).fields [0#8]) =
      { s.store.doffers.get d with enabled := 0 } := by
    show ({ s.store.doffers.get d with enabled := 0, reach := BitVec.ofNat 48 (s.store.doffers.get d).reach.toNat } : DofferEntry)
      = _
    rw [BitVec.ofNat_toNat, BitVec.setWidth_eq]
  have passes : ∀ b ∈ [decide ((0 : Nat) ≤ 1), true,
      decide (1 ≤ (s.store.doffers.get d).timeout ∧ (s.store.doffers.get d).timeout ≤ 60)], b = true :=
    all_of_triple (by decide) rfl (decide_eq_true ⟨low, high⟩)
  refine (exec_dofferWrite_formed (values := [0#8]) (mask := 1) h ⟨by decide, by decide, rfl⟩).trans ?_
  rw [entry, on]
  refine congrArg Host.Outcome.next ?_
  by_cases doffing : (s.doffer d).state = .doffing
  · rw [if_pos doffing, doffing]
    exact State.judgeWrite_badState passes
  · rw [if_neg doffing, show (1 == 1 && (0 : Nat) == 0 && (s.doffer d).state == .doffing) = false by simp [doffing]]
    refine (State.judgeWrite_passes passes).trans ?_
    exact congrArg (State.offerUp (replyTelegram seq .ok 0 [])) ((if_neg fun h => absurd (on.symm.trans h.1) (by decide)).trans
      (if_pos ⟨on, rfl⟩))

theorem exec_carrierDisable_taken (h : s.Manages) (on : (s.store.carriers.get c).enabled = 1)
    (travel : 1 ≤ (s.store.carriers.get c).travelTimeout ∧ (s.store.carriers.get c).travelTimeout ≤ 30)
    (change : 1 ≤ (s.store.carriers.get c).changeTimeout ∧ (s.store.carriers.get c).changeTimeout ≤ 30) :
    exec (.carrierDisable seq c.val 0 []) s = .next (State.offerUp (replyTelegram seq .ok 0 [])
      ((s.storeCarrierOff c).disableCarrier c)) := by
  have entry : CarrierEntry.ofFields (overlay 1 0 carrierWidths (s.store.carriers.get c).fields [0#8]) =
      { s.store.carriers.get c with enabled := 0 } := rfl
  refine (exec_carrierWrite_formed (values := [0#8]) (mask := 1) h ⟨by decide, by decide, rfl⟩).trans ?_
  rw [entry]
  dsimp only
  rw [State.judgeWrite_passes (all_of_triple (decide_eq_true (Nat.zero_le 1)) (decide_eq_true travel) (decide_eq_true change))]
  refine congrArg (fun u => Host.Outcome.next (State.offerUp (replyTelegram seq .ok 0 []) u)) ?_
  exact (if_neg fun h => absurd (on.symm.trans h.1) (by decide)).trans (if_pos ⟨on, rfl⟩)

/-! ### A robot is disabled (R26, R105) -/

theorem State.disableRobot_offline (ready : s.NoneFlying pcdBefore) (h : (s.robot k).state = .offline) :
    s.disableRobot k = s := by
  rw [State.disableRobot, State.pcdReadyRobot_none ready]
  exact if_pos h

/-- ABANDON where a robot has an assignment, LEAVE (none) where it holds an aisle (R105). -/
def State.tellOff (k : RobotId) (r : Robot) (s : State) : State :=
  let told := if r.assignment.isSome = true then sendAbandon k s else s
  if r.aisle.isSome = true then sendLeave k none told else told

theorem State.spoken_tellOff (r : Robot) : s.Spoken (s.tellOff k r) := by
  have told : s.Spoken (if r.assignment.isSome = true then sendAbandon k s else s) := by
    split
    · exact State.spoken_sendFloor _ _ _
    · exact State.Spoken.refl
  unfold State.tellOff
  dsimp only
  split
  · exact told.trans (State.spoken_sendFloor _ _ _)
  · exact told

theorem State.tellOff_telling (u : State) (r : Robot) : (s.telling u).tellOff k r = (s.tellOff k r).telling u := by
  have told : (if r.assignment.isSome = true then sendAbandon k (s.telling u) else s.telling u) =
      (if r.assignment.isSome = true then sendAbandon k s else s).telling u := by
    split
    · exact State.sendFloor_telling u _ _ _
    · rfl
  unfold State.tellOff
  dsimp only
  rw [told]
  split
  · exact State.sendFloor_telling u _ _ _
  · rfl

/-- The unsatisfied assignment of a robot, withdrawn (R67). -/
def Robot.withdrawn (r : Robot) : List Instr :=
  match r.assignment with
  | some x => if x.satisfied = true then [] else [.withdrawRequest x.frame x.side x.index]
  | none => []

/-- The aisle of a robot, released (R108). -/
def Robot.released (k : RobotId) (r : Robot) : List Instr :=
  match r.aisle with
  | some a => [.robotRelease k a]
  | none => []

theorem State.inFlight_append_nil : ({ s with inFlight := s.inFlight ++ [] } : State) = s := by rw [List.append_nil]

theorem State.withdraw_eq : s.withdraw k = { s with inFlight := s.inFlight ++ (s.robot k).withdrawn } := by
  unfold State.withdraw Robot.withdrawn
  cases (s.robot k).assignment with
  | none => exact State.inFlight_append_nil.symm
  | some x =>
    dsimp only
    split
    · exact State.inFlight_append_nil.symm
    · rfl

/-- A robot that gives up its aisle and then is what it is made (R105, R108). -/
theorem State.giveUpAisle_setRobot (r : Robot) : (s.giveUpAisle k).setRobot k r =
    { s.setRobot k r with inFlight := s.inFlight ++ (s.robot k).released k } := by
  unfold State.giveUpAisle Robot.released
  cases (s.robot k).aisle with
  | none => exact (State.inFlight_append_nil (s := s.setRobot k r)).symm
  | some a =>
    show ({ s with
      pcd := { s.pcd with robots := (s.pcd.robots.set k _).set k r }, inFlight := s.inFlight ++ [.robotRelease k a] } : State) = _
    rw [Tab.set_set]
    rfl

theorem State.robot_giveUpAisle : (s.giveUpAisle k).robot k = { s.robot k with aisle := none } := by
  unfold State.giveUpAisle
  cases h : (s.robot k).aisle with
  | none =>
    show s.robot k = { s.robot k with aisle := none }
    rw [← h]
  | some a => exact State.robot_setRobot s k _

/-- A robot as its disable leaves it (R105). -/
def Robot.off (r : Robot) : Robot :=
  { r with state := .offline, aisle := none, assignment := none, leaveTarget := none, deadline := none }

theorem State.disableRobot_online (ready : s.NoneFlying pcdBefore) (h : (s.robot k).state ≠ .offline) :
    s.disableRobot k =
      { (s.tellOff k (s.robot k)).setRobot k (s.robot k).off with
        inFlight := s.inFlight ++ (s.robot k).withdrawn ++ (s.robot k).released k } := by
  obtain ⟨flying, enough, withdrawn⟩ : ∃ l, l = s.inFlight ++ (s.robot k).withdrawn
      ∧ s.withdraw k = s.telling { s with inFlight := l } := ⟨_, rfl, State.withdraw_eq⟩
  have told : (s.withdraw k).tellOff k (s.robot k) = (s.tellOff k (s.robot k)).telling { s with inFlight := flying } := by
    rw [withdrawn, State.tellOff_telling]
  have same : ((s.tellOff k (s.robot k)).telling { s with inFlight := flying }).robot k = s.robot k := rfl
  have spoken := (State.spoken_tellOff (s := s) (k := k) (s.robot k)).eq_telling
  rw [State.disableRobot, State.pcdReadyRobot_none ready]
  refine (if_neg h).trans ((congrArg (fun u : State => (u.giveUpAisle k).modRobot k fun r =>
    { r with state := .offline, assignment := none, leaveTarget := none, deadline := none }) told).trans ?_)
  rw [State.modRobot, State.robot_giveUpAisle, State.giveUpAisle_setRobot, same, spoken, ← enough]
  rfl

/-- A robot with nothing in hand is OFFLINE and told nothing (R26). -/
theorem State.disableRobot_free (ready : s.NoneFlying pcdBefore) (h : (s.robot k).state ≠ .offline)
    (aisle : (s.robot k).aisle = none) (assignment : (s.robot k).assignment = none) :
    s.disableRobot k =
      s.setRobot k { s.robot k with state := .offline, assignment := none, leaveTarget := none, deadline := none } := by
  have told : s.tellOff k (s.robot k) = s := by
    rw [State.tellOff, aisle, assignment]
    rfl
  have flying : s.inFlight ++ (s.robot k).withdrawn ++ (s.robot k).released k = s.inFlight := by
    rw [Robot.withdrawn, Robot.released, aisle, assignment, List.append_nil, List.append_nil]
  have off : (s.robot k).off =
      { s.robot k with state := .offline, assignment := none, leaveTarget := none, deadline := none } := by
    rw [Robot.off]
    dsimp only
    rw [aisle]
  rw [State.disableRobot_online ready h, told, flying, off]
  rfl

theorem State.robotZone_storeRobotOff (j : RobotId) : (s.storeRobotOff k).robotZone j = s.robotZone j := by
  rw [State.robotZone, State.robotZone, State.storeRobotOff, Tab.get_set]
  split
  · rename_i same
    rw [same]
  · rfl

theorem State.pcd_tellOff (r : Robot) : (s.tellOff k r).pcd = s.pcd := by
  rw [(State.spoken_tellOff (s := s) (k := k) r :)]

theorem State.robotZone_tellOff (r : Robot) (j : RobotId) : (s.tellOff k r).robotZone j = s.robotZone j := by
  rw [(State.spoken_tellOff (s := s) (k := k) r :)]
  rfl

/-! ### A re-evaluation that finds no robot to send (R86) -/

theorem State.turn_still (idle : (s.robot k).state ≠ .idle) (parked : (s.robot k).state ≠ .parked) : s.turn k = s := by
  rw [State.turn]
  split
  · exact absurd ‹_› idle
  · exact absurd ‹_› idle
  · exact absurd ‹_› parked
  · rfl

theorem State.reevaluate_still {z : ZoneId}
    (h : ∀ j, s.robotZone j = z → (s.robot j).state ≠ .idle ∧ (s.robot j).state ≠ .parked) : s.reevaluate z = s := by
  have step (j : RobotId) : (if s.robotZone j = z then s.turn j else s) = s := by
    split
    · obtain ⟨idle, parked⟩ := h j ‹_›
      exact State.turn_still idle parked
    · rfl
  unfold State.reevaluate
  induction List.finRange 12 with
  | nil => rfl
  | cons j rest ih => rw [List.foldl_cons, step, ih]

/-! ### A doffer is disabled (R27) -/

theorem State.disableDoffer_free (h : (s.doffer d).state ≠ .claiming) :
    s.disableDoffer d =
      s.setDoffer d { s.doffer d with state := .offline, frame := none, held := false, timer := none } := by
  rw [State.disableDoffer]
  dsimp only
  split
  · exact absurd ‹_› h
  · rfl

theorem State.offerFrame_none (h : s.NoIdleDoffer f) : s.offerFrame f = s := by
  have found : (List.finRange 8).find? (fun d => (s.doffer d).state == .idle && (s.doffer d).reaches f) = none := by
    refine List.find?_eq_none.mpr fun d _ => ?_
    rw [Bool.and_eq_true, beq_iff_eq]
    rintro ⟨idle, reaches⟩
    rw [h d idle] at reaches
    cases reaches
  rw [State.offerFrame, found]

/-- The first of the numbers that pass a test is the lowest. -/
theorem find?_finRange_eq_some {n : Nat} {p : Fin n → Bool} {i : Fin n} (h : p i = true) (lower : ∀ x, x < i → p x = false) :
    (List.finRange n).find? p = some i := by
  rw [List.find?_eq_some_iff_getElem]
  refine ⟨h, i.val, by simp, by simp, fun j below => ?_⟩
  rw [lower _ (by simpa [Fin.lt_def] using below)]
  rfl

theorem State.offerFrame_some (h : s.OfferedTo f d) : s.offerFrame f = s.pick d := by
  have found : (List.finRange 8).find? (fun d => (s.doffer d).state == .idle && (s.doffer d).reaches f) = some d := by
    obtain ⟨idle, reaches, lower⟩ := h
    refine find?_finRange_eq_some (by rw [idle, reaches]; rfl) fun x below => ?_
    by_cases e : (s.doffer x).state = .idle
    · rw [lower x below e, Bool.and_false]
    · rw [beq_false_of_ne e, Bool.false_and]
  rw [State.offerFrame, found]

/-- A doffer as its disable leaves it (R27). -/
def Doffer.off (r : Doffer) : Doffer := { r with state := .offline, frame := none, held := false, timer := none }

/-- A CLAIMING doffer is cancelled and its frame at the head of the queue again (R27, R121). -/
def State.requeued (d : DofferId) (f : FrameId) (s : State) : State :=
  { sendDoffCancel d s with
    dcu := { frames := s.dcu.frames.set f { s.cycle f with claim := none }, doffers := s.dcu.doffers.set d (s.doffer d).off,
             queue := f :: s.dcu.queue }
    inFlight := s.inFlight ++ [.dofferRelease d] }

theorem State.disableDoffer_claiming (dau : s.NoneFlying (dauFirst f)) (spu : s.NoneFlying (spuFirst f))
    (h : (s.doffer d).state = .claiming) (h' : (s.doffer d).frame = some f) :
    s.disableDoffer d = (s.requeued d f).offerFrame f := by
  have spoken : sendDoffCancel d s = State.telling (sendDoffCancel d s) s := (State.spoken_sendFloor _ _ _).eq_telling
  rw [State.disableDoffer, h, h']
  dsimp only
  rw [State.dcuReady_none dau spu, State.returnToQueue, State.requeued, spoken]
  rfl

/-- The queued frame is offered as before: the doffer that gave it back was not IDLE, and is not. -/
theorem State.doffer_requeued_ne {x : DofferId} (h : x ≠ d) : (s.requeued d f).doffer x = s.doffer x :=
  Tab.get_set_ne _ (Ne.symm h) _

theorem State.doffer_requeued : (s.requeued d f).doffer d = (s.doffer d).off := Tab.get_set_self _ _ _

theorem State.NoIdleDoffer.requeued (h : s.NoIdleDoffer f) : (s.requeued d f).NoIdleDoffer f := by
  intro x idle
  by_cases e : x = d
  · rw [e, State.doffer_requeued] at idle
    cases idle
  · rw [State.doffer_requeued_ne e] at idle ⊢
    exact h x idle

theorem State.OfferedTo.requeued {x : DofferId} (claiming : (s.doffer d).state = .claiming) (h : s.OfferedTo f x) :
    (s.requeued d f).OfferedTo f x := by
  obtain ⟨idle, reaches, lower⟩ := h
  have other : x ≠ d := by
    rintro rfl
    rw [claiming] at idle
    cases idle
  refine ⟨by rwa [State.doffer_requeued_ne other], by rwa [State.doffer_requeued_ne other], fun y below idle => ?_⟩
  by_cases e : y = d
  · rw [e, State.doffer_requeued] at idle
    cases idle
  · rw [State.doffer_requeued_ne e] at idle ⊢
    exact lower y below idle

/-! ### A carrier is disabled (R28) -/

theorem State.disableCarrier_free
    (h : (s.carrier c).state ≠ .travel ∧ (s.carrier c).state ≠ .wait ∧ (s.carrier c).state ≠ .changing) :
    s.disableCarrier c = s.setCarrier c { s.carrier c with state := .offline, trip := none, timer := none } := by
  obtain ⟨travel, wait, changing⟩ := h
  rw [State.disableCarrier]
  dsimp only
  split
  · exact absurd ‹_› travel
  · exact absurd ‹_› wait
  · exact absurd ‹_› changing
  · rfl

/-- The group of a cut trip is SUPPLIED, the carrier OFFLINE (R28). -/
def State.tripCut (c : CarrierId) (f : FrameId) (g : GroupId) (old : Group) (s : State) : State :=
  { sendCarrierAbort c s with
    rsu := { s.rsu with
      groups := s.rsu.groups.modify f fun tab =>
        tab.set g (some { old with state := .supplied, sequence := none, carrier := none })
      carriers := s.rsu.carriers.set c { s.carrier c with state := .offline, trip := none, timer := none } } }

theorem State.disableCarrier_trip {old : Group}
    (h : (s.carrier c).state = .travel ∨ (s.carrier c).state = .wait ∨ (s.carrier c).state = .changing)
    (h' : (s.carrier c).trip = some (f, g)) (record : s.groupRecord f g = some old) :
    s.disableCarrier c = (s.tripCut c f g old).judgeSilently f g := by
  have spoken : sendCarrierAbort c s = State.telling (sendCarrierAbort c s) s := (State.spoken_sendFloor _ _ _).eq_telling
  have cut : (sendCarrierAbort c s).leaveTrip c .offline f g = s.tripCut c f g old := by
    have same : ((sendCarrierAbort c s).modCarrier c fun r => { r with state := .offline, trip := none, timer := none }).groupRecord f g
        = some old := by
      rw [spoken]
      exact record
    rw [State.leaveTrip, State.modGroup, same, State.tripCut, spoken]
    rfl
  rw [State.disableCarrier, h']
  obtain h | h | h := h <;> rw [h] <;> exact congrArg (State.judgeSilently f g) cut

/-! ### Judged with no alarm (R28, R156) -/

theorem State.judgeSilently_judge {old : Group} (record : s.groupRecord f g = some old)
    (h : old.state ≠ .supplied ∨ (s.article f).lowMark < old.remaining ∨ s.rsu.set.length < 64) :
    s.judgeSilently f g = s.judge f g := by
  rw [State.judgeSilently, State.judge, State.judgeWith, State.judgeWith, record]
  dsimp only
  by_cases low : old.state = .supplied ∧ s.level f g ≠ .ok
  · have room : s.rsu.set.length < 64 := by
      obtain ⟨supplied, level⟩ := low
      rw [State.level_ne_ok_iff record] at level
      obtain h | h | h := h
      · exact absurd supplied h
      · omega
      · exact h
    rw [if_pos low, if_pos low, if_pos room, if_pos room]
  · rw [if_neg low, if_neg low]

theorem State.judgeSilently_full {old : Group} (record : s.groupRecord f g = some old) (supplied : old.state = .supplied)
    (low : old.remaining ≤ (s.article f).lowMark) (full : 64 ≤ s.rsu.set.length) :
    s.judgeSilently f g =
      State.latch .replSetFull (s.setGroup f g (some { old with state := .unqueued, sequence := none })) := by
  rw [State.judgeSilently, State.judgeWith, record]
  dsimp only
  rw [if_pos ⟨supplied, (State.level_ne_ok_iff record).mpr low⟩, if_neg (Nat.not_lt.mpr full), State.unqueue, State.modGroup,
    record]

/-! ### The obligation -/

/-- Settles O50: each machine's disable by its state. -/
theorem machinesAreDisabled : Obligations.MachinesAreDisabled := by
  unfold Obligations.MachinesAreDisabled
  intro seq k d c s ok robots doffers carriers r off free manages
  have online (on : (s.store.robots.get k).enabled = 1) (zone : (s.store.robots.get k).zone ≤ 7) (ready : s.NoneFlying pcdBefore)
      (h : r.state ≠ .offline) : exec (.robotDisable seq k.val 0 []) s = .next (ok (State.reevaluate (s.robotZone k)
        { (robots.tellOff k r).setRobot k r.off with inFlight := s.inFlight ++ r.withdrawn ++ r.released k })) := by
    rw [exec_robotDisable_taken manages ready zone on, State.disableRobot_online (s := s.storeRobotOff k) ready h]
    rfl
  refine ⟨fun on zone ready offline => ?_, fun on zone quiet => ⟨fun noAisle free online' => ?_, ?_⟩, fun on zone ready h => ?_,
    fun on low high => ⟨fun doffing => ?_, fun idle => ?_, ?_⟩, fun on low high low' high' => ⟨fun still => ?_, ?_, ?_⟩⟩
  · rw [exec_robotDisable_taken manages ready zone on, State.disableRobot_offline (s := s.storeRobotOff k) ready offline]
    rfl
  · rw [exec_robotDisable_taken manages quiet.2.2 zone on,
      State.disableRobot_free (s := s.storeRobotOff k) quiet.2.2 online' noAisle free,
      State.Quiet.reevaluate quiet (t := (s.storeRobotOff k).setRobot k _) rfl (quiet.2.1.of_inFlight rfl)]
    rfl
  · intro a x piecing aisle assigned alone
    rw [online on zone quiet.2.2 (by simp [piecing]), State.reevaluate_still, Robot.withdrawn, Robot.released, State.tellOff, aisle,
      assigned]
    · rfl
    · intro j zoned
      have zoned : s.robotZone j = s.robotZone k :=
        ((State.robotZone_tellOff (s := robots) r j).trans (State.robotZone_storeRobotOff j)).symm.trans zoned
      show (((robots.tellOff k r).pcd.robots.set k r.off).get j).state ≠ .idle
        ∧ (((robots.tellOff k r).pcd.robots.set k r.off).get j).state ≠ .parked
      rw [State.pcd_tellOff]
      by_cases e : j = k
      · rw [e, Tab.get_set_self]
        exact ⟨RobotState.noConfusion, RobotState.noConfusion⟩
      · rw [Tab.get_set_ne _ (Ne.symm e)]
        exact alone j e zoned
  · exact online on zone ready h
  · rw [exec_dofferDisable_judged manages on low high, if_pos doffing]
  · have settled : (s.doffer d).state ≠ .doffing ∧ (s.doffer d).state ≠ .claiming := by
      obtain h | h | h := idle <;> simp [h]
    rw [exec_dofferDisable_judged manages on low high, if_neg settled.1,
      State.disableDoffer_free (s := s.storeDofferOff d) settled.2]
    rfl
  · intro f claiming frame dau spu queued
    have taken : exec (.dofferDisable seq d.val 0 []) s = .next (ok (queued.offerFrame f)) := by
      rw [exec_dofferDisable_judged manages on low high, if_neg (by simp [claiming]),
        State.disableDoffer_claiming (s := s.storeDofferOff d) dau spu claiming frame]
      rfl
    refine ⟨fun alone => ?_, fun d' offered => ?_⟩
    · rw [taken, State.offerFrame_none (s := queued) (State.NoIdleDoffer.requeued (s := s.storeDofferOff d) alone)]
    · rw [taken, State.offerFrame_some (s := queued) (State.OfferedTo.requeued (s := s.storeDofferOff d) claiming offered)]
  · rw [exec_carrierDisable_taken manages on ⟨low, high⟩ ⟨low', high'⟩, State.disableCarrier_free (s := s.storeCarrierOff c)]
    · rfl
    · have same : (s.storeCarrierOff c).carrier c = s.carrier c := rfl
      rw [same]
      obtain h | h | h | h := still <;> simp [h]
  · intro f g old trip' trip record
    rw [exec_carrierDisable_taken manages on ⟨low, high⟩ ⟨low', high'⟩,
      State.disableCarrier_trip (s := s.storeCarrierOff c) trip' trip record]
    rfl
  · intro f g old t record
    exact ⟨State.judgeSilently_judge record, State.judgeSilently_full record⟩

end Sys2Proof.Machine
end

section
/-! What the Roving Supply Unit can do in admitting, refusing and dispatching groups (R156, R158, R160). -/

namespace Sys2Proof.Machine

variable {s t u : State} {loud : Prop} {f : FrameId} {g : GroupId} {c : CarrierId}

/-- What admissions, refusals and dispatches of groups can do to a state: CARRIER-GOs behind the part commands that wait, alarms
behind the telegrams that wait, but for those that are silent, and changes of the RSU's own that neither make, end nor fill a
group. -/
structure State.Supplies (loud : Prop) (s t : State) : Prop where
  apart : t =
    { s with link := t.link, store := { s.store with flags := t.store.flags, heldAlarms := t.store.heldAlarms }, rsu := t.rsu }
  gos : ∃ l, t.link.floorQueue = s.link.floorQueue ++ l ∧ ∀ m ∈ l, m.kind = 0x2E#8
  alarms : ∃ l, t.link.upQueue = s.link.upQueue ++ l ∧ ∀ m ∈ l, loud ∧ m.kind = 0x61#8
  remaining : ∀ f g, (t.groupRecord f g).map Group.remaining = (s.groupRecord f g).map Group.remaining
  entries : ∀ x ∈ t.rsu.set, x ∈ s.rsu.set ∨ (s.groupRecord x.frame x.group).isSome = true

theorem State.Supplies.refl : s.Supplies loud s :=
  ⟨rfl, ⟨[], (List.append_nil _).symm, nofun⟩, ⟨[], (List.append_nil _).symm, nofun⟩, fun _ _ => rfl, fun _ => .inl⟩

theorem State.Supplies.isSome (h : s.Supplies loud t) (f : FrameId) (g : GroupId) :
    (t.groupRecord f g).isSome = (s.groupRecord f g).isSome := by
  simpa using congrArg Option.isSome (h.remaining f g)

theorem State.Supplies.trans (h : s.Supplies loud t) (h' : t.Supplies loud u) : s.Supplies loud u where
  apart := by
    refine Eq.trans h'.apart ?_
    conv_lhs => rw [h.apart]
  gos := by
    obtain ⟨l, e, k⟩ := h.gos
    obtain ⟨l', e', k'⟩ := h'.gos
    exact ⟨l ++ l', by rw [e', e, List.append_assoc], fun m hm => (List.mem_append.mp hm).elim (k m) (k' m)⟩
  alarms := by
    obtain ⟨l, e, k⟩ := h.alarms
    obtain ⟨l', e', k'⟩ := h'.alarms
    exact ⟨l ++ l', by rw [e', e, List.append_assoc], fun m hm => (List.mem_append.mp hm).elim (k m) (k' m)⟩
  remaining f g := (h'.remaining f g).trans (h.remaining f g)
  entries x hx := (h'.entries x hx).elim (h.entries x) fun some => .inr (by rwa [h.isSome] at some)

/-! ### The operations -/

/-- A change of the RSU's own. -/
theorem State.supplies_rsu (e : t = { s with rsu := t.rsu })
    (remaining : ∀ f g, (t.groupRecord f g).map Group.remaining = (s.groupRecord f g).map Group.remaining)
    (entries : ∀ x ∈ t.rsu.set, x ∈ s.rsu.set ∨ (s.groupRecord x.frame x.group).isSome = true) : s.Supplies loud t := by
  have link : t.link = s.link := by rw [e]
  have store : t.store = s.store := by rw [e]
  exact ⟨e.trans (by rw [link, store]), ⟨[], by rw [link, List.append_nil], nofun⟩, ⟨[], by rw [link, List.append_nil], nofun⟩,
    remaining, entries⟩

/-- What is said leaves the RSU as it is. -/
theorem State.supplies_spoken (h : s.Spoken t)
    (gos : ∃ l, t.link.floorQueue = s.link.floorQueue ++ l ∧ ∀ m ∈ l, m.kind = 0x2E#8)
    (alarms : ∃ l, t.link.upQueue = s.link.upQueue ++ l ∧ ∀ m ∈ l, loud ∧ m.kind = 0x61#8) : s.Supplies loud t := by
  have rsu : t.rsu = s.rsu := (congrArg State.rsu h.eq_telling : t.rsu = (t.telling s).rsu)
  exact ⟨Eq.trans h (by rw [rsu]), gos, alarms, fun f g => by rw [State.groupRecord, rsu, State.groupRecord],
    fun x hx => .inl (by rwa [rsu] at hx)⟩

theorem State.supplies_latch (x : LineFlag) : s.Supplies loud (s.latch x) :=
  State.supplies_spoken rfl ⟨[], (List.append_nil _).symm, nofun⟩ ⟨[], (List.append_nil _).symm, nofun⟩

theorem State.supplies_modGroup {upd : Group → Group} (h : ∀ r, (upd r).remaining = r.remaining) :
    s.Supplies loud (s.modGroup f g upd) := by
  refine State.supplies_rsu ?_ (fun f' g' => ?_) fun x hx => .inl (by rwa [State.modGroup_set] at hx)
  · unfold State.modGroup
    split <;> rfl
  · rw [State.groupRecord_modGroup]
    split
    · rename_i same
      obtain ⟨rfl, rfl⟩ := same
      rw [Option.map_map]
      exact congrArg (Option.map · _) (funext h)
    · rfl

theorem State.supplies_setSet {l : List SetEntry}
    (h : ∀ x ∈ l, x ∈ s.rsu.set ∨ (s.groupRecord x.frame x.group).isSome = true) : s.Supplies loud (s.setSet l) :=
  State.supplies_rsu rfl (fun _ _ => rfl) h

theorem State.supplies_modCarrier (upd : Carrier → Carrier) : s.Supplies loud (s.modCarrier c upd) :=
  State.supplies_rsu rfl (fun _ _ => rfl) fun _ => .inl

theorem State.supplies_enqueue (h : (s.groupRecord f g).isSome = true) : s.Supplies loud (s.enqueue f g) := by
  refine State.supplies_rsu (by rw [State.enqueue_eq]) (fun f' g' => ?_) fun x hx => ?_
  · rw [groupRecord_enqueue]
    split
    · rename_i same
      obtain ⟨rfl, rfl⟩ := same
      rw [Option.map_map]
      rfl
    · rfl
  · rw [State.enqueue_eq, List.mem_append, List.mem_singleton] at hx
    exact hx.imp_right fun e => by rwa [e]

theorem State.supplies_sendCarrierGo : s.Supplies loud (sendCarrierGo c f g s) := by
  refine State.supplies_spoken (State.spoken_sendFloor _ _ _) ?_
    ⟨[], by rw [sendCarrierGo, State.sendFloor_upQueue, List.append_nil], nofun⟩
  obtain room | full := Nat.lt_or_ge s.link.floorQueue.length 64
  · rw [sendCarrierGo, State.sendFloor_room room]
    exact ⟨_, rfl, fun m hm => by rw [List.mem_singleton.mp hm]⟩
  · rw [sendCarrierGo, State.sendFloor_full full]
    exact ⟨[], (List.append_nil _).symm, nofun⟩

theorem State.leastUnqueued_some (h : s.leastUnqueued = some (f, g)) : (s.groupRecord f g).isSome = true := by
  have member := firstLeast_mem h
  simp only [List.mem_flatMap, List.mem_filterMap] at member
  obtain ⟨f', -, g', -, found⟩ := member
  split at found
  · rename_i r record
    split at found
    · obtain ⟨rfl, rfl⟩ : f' = f ∧ g' = g := by simpa using found
      rw [record]
      rfl
    · cases found
  · cases found

theorem State.supplies_dispatch (fuel : Nat) (c : CarrierId) : s.Supplies loud (s.dispatch fuel c) := by
  induction fuel generalizing s c with
  | zero => exact .refl
  | succ fuel ih =>
    rw [State.dispatch]
    split
    · exact .refl
    · rename_i e chosen
      have left : s.Supplies loud (s.setSet (s.rsu.set.erase e)) :=
        State.supplies_setSet fun x hx => .inl (List.mem_of_mem_erase hx)
      have called := fun upd' => (left.trans (State.supplies_modGroup (f := e.frame) (g := e.group)
        (upd := fun r => { r with state := .called, carrier := some c }) fun _ => rfl)).trans
        (State.supplies_modCarrier (c := c) upd')
      dsimp only
      split
      · exact (called _).trans State.supplies_sendCarrierGo
      · rename_i f g least
        have joined := (called _).trans (State.supplies_enqueue (State.leastUnqueued_some least))
        split
        · exact (joined.trans (ih _)).trans State.supplies_sendCarrierGo
        · exact joined.trans State.supplies_sendCarrierGo

theorem State.supplies_dispatchIdle : s.Supplies loud s.dispatchIdle := by
  unfold State.dispatchIdle
  split
  · exact State.supplies_dispatch _ _
  · exact .refl

theorem State.supplies_fillPlace : s.Supplies loud s.fillPlace := by
  unfold State.fillPlace
  split
  · rename_i f g least
    split
    · exact (State.supplies_enqueue (State.leastUnqueued_some least)).trans State.supplies_dispatchIdle
    · exact .refl
  · exact .refl

theorem State.supplies_fillPlaces (n : Nat) : s.Supplies loud (s.fillPlaces n) := by
  induction n generalizing s with
  | zero => exact .refl
  | succ n ih => exact State.supplies_fillPlace.trans ih

/-! ### Refusals raise alarms (R156) -/

/-- What an alarm adds to the telegrams that wait. -/
theorem State.upQueue_sendUp (kind : Nat) (payload : List Byte) :
    ∃ l, (s.sendUp kind payload).link.upQueue = s.link.upQueue ++ l ∧ ∀ m ∈ l, m.kind = BitVec.ofNat 8 kind := by
  unfold State.sendUp State.offerUp
  dsimp only
  split
  · exact ⟨_, rfl, fun m hm => by rw [List.mem_singleton.mp hm]⟩
  · exact ⟨[], (List.append_nil _).symm, nofun⟩

theorem State.upQueue_alarm (kind : AlarmKind) (cls index detail : Nat) :
    ∃ l, (s.alarm kind cls index detail).link.upQueue = s.link.upQueue ++ l ∧ ∀ m ∈ l, m.kind = 0x61#8 := by
  unfold State.alarm
  split
  · split
    · exact ⟨[], (List.append_nil _).symm, nofun⟩
    · exact State.upQueue_sendUp _ _
  · exact ⟨[], (List.append_nil _).symm, nofun⟩

theorem State.floorQueue_alarm (kind : AlarmKind) (cls index detail : Nat) :
    (s.alarm kind cls index detail).link.floorQueue = s.link.floorQueue := by
  unfold State.alarm
  split
  · split
    · rfl
    · exact State.offerUp_floorQueue _ _
  · rfl

theorem State.supplies_alarm (kind : AlarmKind) (cls index detail : Nat) : s.Supplies True (s.alarm kind cls index detail) := by
  obtain ⟨l, e, k⟩ := State.upQueue_alarm (s := s) kind cls index detail
  exact State.supplies_spoken (State.spoken_alarm _ _ _ _)
    ⟨[], by rw [State.floorQueue_alarm, List.append_nil], nofun⟩ ⟨l, e, fun m hm => ⟨trivial, k m hm⟩⟩

theorem State.supplies_judge (f : FrameId) (g : GroupId) : s.Supplies True (s.judge f g) := by
  unfold State.judge State.judgeWith
  split
  · rename_i r record
    split
    · split
      · exact (State.supplies_enqueue (by rw [record]; rfl)).trans State.supplies_dispatchIdle
      · have refused : s.Supplies True (s.unqueue f g) :=
          (State.supplies_modGroup (upd := fun r => { r with state := .unqueued, sequence := none }) fun _ => rfl).trans
            (State.supplies_latch .replSetFull)
        exact refused.trans (State.supplies_alarm _ _ _ _)
    · exact .refl
  · exact .refl

theorem State.supplies_foldl {α : Type} {op : State → α → State} (each : ∀ (s : State) a, s.Supplies loud (op s a)) (l : List α) :
    s.Supplies loud (l.foldl op s) := by
  induction l generalizing s with
  | nil => exact .refl
  | cons a rest ih => exact (each s a).trans ih

/-! ### At most one CARRIER-GO for each IDLE carrier (R156, R160) -/

def State.idleCarriers (s : State) : Finset CarrierId := Finset.univ.filter fun c => (s.carrier c).state = .idle

/-- The part commands that wait and the IDLE carriers, each of which can be sent one more. -/
def State.load (s : State) : Nat := s.link.floorQueue.length + s.idleCarriers.card

theorem State.load_eq (queue : t.link.floorQueue = s.link.floorQueue) (carriers : t.rsu.carriers = s.rsu.carriers) :
    t.load = s.load := by
  have idle : t.idleCarriers = s.idleCarriers :=
    Finset.filter_congr fun c _ => by rw [State.carrier, carriers, State.carrier]
  rw [State.load, queue, idle, State.load]

theorem State.length_le_load (s : State) : s.link.floorQueue.length ≤ s.load := Nat.le_add_right _ _

theorem State.load_le (s : State) : s.load ≤ s.link.floorQueue.length + 8 :=
  Nat.add_le_add_left (Finset.card_le_univ _) _

/-- A carrier that is dispatched is IDLE no more. -/
theorem State.load_modCarrier {upd : Carrier → Carrier} (h : (s.carrier c).state = .idle) (h' : (upd (s.carrier c)).state ≠ .idle) :
    (s.modCarrier c upd).load + 1 = s.load := by
  have fewer : (s.modCarrier c upd).idleCarriers = s.idleCarriers.erase c := by
    ext x
    rw [State.idleCarriers, State.idleCarriers, Finset.mem_filter_univ, Finset.mem_erase, Finset.mem_filter_univ, State.modCarrier]
    by_cases e : x = c
    · rw [e, State.carrier_setCarrier]
      exact ⟨fun h => absurd h h', fun h => absurd rfl h.1⟩
    · rw [State.carrier_setCarrier_ne _ (Ne.symm e)]
      exact ⟨fun h => ⟨e, h⟩, fun h => h.2⟩
  have member : c ∈ s.idleCarriers := (Finset.mem_filter_univ c).mpr h
  rw [State.load, fewer, State.load, Nat.add_assoc, Finset.card_erase_add_one member]
  rfl

theorem State.load_sendCarrierGo : (sendCarrierGo c f g s).load ≤ s.load + 1 := by
  have carriers : (sendCarrierGo c f g s).rsu.carriers = s.rsu.carriers := by rw [sendCarrierGo, State.sendFloor_rsu]
  have idle : (sendCarrierGo c f g s).idleCarriers = s.idleCarriers :=
    Finset.filter_congr fun c _ => by rw [State.carrier, carriers, State.carrier]
  have queue : (sendCarrierGo c f g s).link.floorQueue.length ≤ s.link.floorQueue.length + 1 := by
    obtain room | full := Nat.lt_or_ge s.link.floorQueue.length 64
    · rw [sendCarrierGo, State.sendFloor_room room]
      exact (List.length_append).le
    · rw [sendCarrierGo, State.sendFloor_full full]
      exact Nat.le_succ _
  rw [State.load, idle, State.load]
  omega

theorem State.load_modGroup (upd : Group → Group) : (s.modGroup f g upd).load = s.load := by
  refine State.load_eq ?_ ?_
  all_goals
    unfold State.modGroup
    split <;> rfl

theorem State.load_enqueue : (s.enqueue f g).load = s.load := by
  rw [State.enqueue_eq]
  exact State.load_eq rfl rfl

theorem State.lowestIdle_some (h : s.lowestIdle = some c) : (s.carrier c).state = .idle := by
  simpa using List.find?_some h

theorem State.load_dispatch (fuel : Nat) (h : (s.carrier c).state = .idle) : (s.dispatch fuel c).load ≤ s.load := by
  induction fuel generalizing s c with
  | zero => exact Nat.le_refl _
  | succ fuel ih =>
    rw [State.dispatch]
    split
    · exact Nat.le_refl _
    · rename_i e chosen
      have group : ((s.setSet (s.rsu.set.erase e)).modGroup e.frame e.group fun r =>
          { r with state := .called, carrier := some c }).rsu.carriers = s.rsu.carriers := by
        unfold State.modGroup
        split <;> rfl
      have called := fun timer => State.load_modCarrier (c := c)
        (s := (s.setSet (s.rsu.set.erase e)).modGroup e.frame e.group fun r => { r with state := .called, carrier := some c })
        (upd := fun r => { r with state := .travel, trip := some (e.frame, e.group), timer })
        (by rwa [State.carrier, group]) CarrierState.noConfusion
      simp only [State.load_modGroup] at called
      have same : (s.setSet (s.rsu.set.erase e)).load = s.load := State.load_eq rfl rfl
      dsimp only
      refine State.load_sendCarrierGo.trans ?_
      rw [← same, ← called]
      refine Nat.succ_le_succ ?_
      split
      · exact Nat.le_refl _
      · split
        · rename_i idle
          exact (ih (State.lowestIdle_some idle)).trans State.load_enqueue.le
        · exact State.load_enqueue.le

theorem State.load_judge (f : FrameId) (g : GroupId) : (s.judge f g).load ≤ s.load := by
  unfold State.judge State.judgeWith
  split
  · split
    · split
      · unfold State.dispatchIdle
        split
        · rename_i idle
          exact (State.load_dispatch 8 (State.lowestIdle_some idle)).trans State.load_enqueue.le
        · exact State.load_enqueue.le
      · have refused : (s.unqueue f g).load = s.load := (State.load_eq rfl rfl).trans (State.load_modGroup _)
        refine (State.load_eq (State.floorQueue_alarm _ _ _ _) ?_).le.trans refused.le
        rw [State.alarm_rsu]
    · exact Nat.le_refl _
  · exact Nat.le_refl _

theorem State.load_foldl {α : Type} {op : State → α → State} (each : ∀ (s : State) a, (op s a).load ≤ s.load) (l : List α) :
    (l.foldl op s).load ≤ s.load := by
  induction l generalizing s with
  | nil => exact Nat.le_refl _
  | cons a rest ih => exact ih.trans (each s a)

end Sys2Proof.Machine
end

section
/-! The enable of a frame, unit by unit (R16, R21, R38, R50, R54, R117, R140, R156, R167). -/

namespace Sys2Proof.Machine

variable {s t u v : State} {f : FrameId} {e : FrameEntry}

/-! ### The first fault of a frame's speed program (R142, R145) -/

theorem State.flagSet_latch_arith : (s.latch .arith).flagSet .replSetFull = s.flagSet .replSetFull := by
  simp [State.flagSet, LineFlag.bit]

theorem State.flagSet_latch_partLoss : (s.latch .partLoss).flagSet .replSetFull = s.flagSet .replSetFull := by
  simp [State.flagSet, LineFlag.bit]

theorem State.flagSet_offerUp (tel : Telegram) : (s.offerUp tel).flagSet .replSetFull = s.flagSet .replSetFull := by
  unfold State.offerUp
  split
  · rfl
  · exact State.flagSet_latch_partLoss

theorem State.flagSet_alarm (kind : AlarmKind) (cls index detail : Nat) :
    (s.alarm kind cls index detail).flagSet .replSetFull = s.flagSet .replSetFull := by
  unfold State.alarm
  split
  · split
    · rfl
    · exact State.flagSet_offerUp _
  · rfl

theorem State.raiseArith_telling (u : State) (f : FrameId) (before : SpeedRecord) (c : Computation) :
    (s.telling u).raiseArith f before c = (s.raiseArith f before c).telling u := by
  unfold State.raiseArith
  split
  · exact State.alarm_telling (s := s.latch .arith) u _ _ _ _
  · rfl

/-- What a first fault says: an alarm at most, and nothing to the floor. -/
theorem State.raiseArith_spoken (f : FrameId) (before : SpeedRecord) (c : Computation) :
    s.Spoken (s.raiseArith f before c)
      ∧ (s.raiseArith f before c).link.floorQueue = s.link.floorQueue
      ∧ (∃ l, (s.raiseArith f before c).link.upQueue = s.link.upQueue ++ l ∧ ∀ m ∈ l, m.kind = 0x61#8)
      ∧ (s.raiseArith f before c).flagSet .replSetFull = s.flagSet .replSetFull := by
  unfold State.raiseArith
  split
  · exact ⟨(State.spoken_latch .arith).trans (State.spoken_alarm _ _ _ _), State.floorQueue_alarm _ _ _ _,
      State.upQueue_alarm _ _ _ _, (State.flagSet_alarm _ _ _ _).trans State.flagSet_latch_arith⟩
  · exact ⟨.refl, rfl, ⟨[], (List.append_nil _).symm, nofun⟩, rfl⟩

theorem State.recordFirstFault_eq (c : Computation) :
    ∃ first, s.recordFirstFault f c = { s with spu := { s.spu with firstFault := first } } := by
  unfold State.recordFirstFault
  split
  · exact ⟨_, rfl⟩
  · exact ⟨_, rfl⟩

/-! ### The speed program begins anew (R140, R141, R146) -/

/-- The record of a frame whose program has begun anew, computed at fill 0 and sent. -/
def SpeedRecord.begun (r : SpeedRecord) (c : Computation) : SpeedRecord :=
  { ({ r.restart with heldFill := 0, fillStep := 0, lastRpm := none } : SpeedRecord).computed c 0 with lastRpm := some c.rpm }

/-- A speed that is sent whatever was sent before (R146). -/
theorem State.offerSpeed_room {rpm : Nat} (room : s.link.floorQueue.length < 64) : s.offerSpeed f true rpm =
    { s with
      link := { s.link with
        floorSeq := s.link.floorSeq + 1
        floorQueue := s.link.floorQueue ++
          [{ kind := 0x20#8, node := BitVec.ofNat 8 f.val, seq := s.link.floorSeq, payload := beBytes 2 rpm }] }
      spu := { s.spu with records := s.spu.records.set f { s.speed f with lastRpm := some rpm } } } := by
  rw [State.offerSpeed]
  refine (if_pos (.inl rfl)).trans ?_
  rw [sendSpeed, State.sendFloor_room room]
  rfl

theorem State.enableSpeed_room (room : s.link.floorQueue.length < 64) :
    ∃ v first, s.Spoken v ∧ v.link.floorQueue = s.link.floorQueue
      ∧ (∃ l, v.link.upQueue = s.link.upQueue ++ l ∧ ∀ m ∈ l, m.kind = 0x61#8)
      ∧ v.flagSet .replSetFull = s.flagSet .replSetFull
      ∧ s.enableSpeed f =
        { v with
          link := { v.link with
            floorSeq := v.link.floorSeq + 1
            floorQueue := v.link.floorQueue ++ [{ kind := 0x20#8, node := BitVec.ofNat 8 f.val, seq := v.link.floorSeq,
                                                  payload := beBytes 2 ((s.article f).compute 0 0).rpm }] }
          spu := { records := s.spu.records.set f ((s.speed f).begun ((s.article f).compute 0 0)), firstFault := first } } := by
  obtain ⟨c, hc⟩ : ∃ c, c = (s.article f).compute 0 0 := ⟨_, rfl⟩
  obtain ⟨r, hr⟩ : ∃ r : SpeedRecord, r = { (s.speed f).restart with heldFill := 0, fillStep := 0, lastRpm := none } := ⟨_, rfl⟩
  obtain ⟨first, fault⟩ := State.recordFirstFault_eq (s := (s.setSpeed f r).setSpeed f (r.computed c 0)) (f := f) c
  obtain ⟨spoken, queue, alarms, flag⟩ := State.raiseArith_spoken (s := s) f r c
  obtain ⟨v, hv⟩ : ∃ v, v = s.raiseArith f r c := ⟨_, rfl⟩
  obtain ⟨w, hw⟩ : ∃ w : State, w = { s with spu := { records := s.spu.records.set f (r.computed c 0), firstFault := first } } :=
    ⟨_, rfl⟩
  have faulted : ((s.setSpeed f r).setSpeed f (r.computed c 0)).recordFirstFault f c = s.telling w := by
    rw [fault, hw, ← Tab.set_set s.spu.records f r]
    rfl
  have before : (s.setSpeed f r).speed f = r := State.speed_setSpeed s f r
  have level : r.level = 0 := by rw [hr]; rfl
  have computed : s.enableSpeed f = (v.telling w).offerSpeed f true c.rpm := by
    rw [State.enableSpeed, ← hr, State.computeSpeed, before, level, show (s.setSpeed f r).article f = s.article f from rfl, ← hc,
      faulted, State.raiseArith_telling, ← hv]
  have record : { (v.telling w).speed f with lastRpm := some c.rpm } = (s.speed f).begun c := by
    have same : (v.telling w).speed f = r.computed c 0 := by
      rw [hw]
      exact Tab.get_set_self _ _ _
    rw [same, hr]
    rfl
  refine ⟨v, first, by rwa [hv], by rwa [hv], by rwa [hv], by rwa [hv], ?_⟩
  rw [computed, State.offerSpeed_room (s := v.telling w) (by rw [hv]; exact queue ▸ room), record, ← hc,
    ← Tab.set_set s.spu.records f (r.computed c 0)]
  have told : v = v.telling s := by
    rw [hv]
    exact spoken.eq_telling
  rw [hw, told]
  rfl

/-! ### The units before the groups are judged (R21, R38, R50, R54, R117) -/

/-- The groups of a frame that has just been enabled have no roving (R167). -/
def FrameEntry.emptyGroups (e : FrameEntry) : Tab 32 (Option Group) :=
  .build fun g => if e.hasGroup g.val then some { remaining := 0, state := .supplied, sequence := none, carrier := none } else none

/-- The frame with its entry in force, before its groups are judged. -/
def State.enabledFresh (f : FrameId) (e : FrameEntry) (s : State) : State :=
  { s with
    store := { s.store with frames := s.store.frames.set f e }
    dcu := { s.dcu with
      frames := s.dcu.frames.set f { state := .running, cause := none, claim := none, stopTimer := none, startUp := 0 } }
    smu := { s.smu with maps := s.smu.maps.set f (.enabled e) }
    dau := s.dau.set f .initial
    scu := { s.scu with current := s.scu.current.set f { s.count f with massResidue := 0 } }
    rsu := { s.rsu with groups := s.rsu.groups.set f e.emptyGroups }
    inFlight := s.inFlight ++ [.frameRunningNotice f] }

/-- The frame with its entry in force, its groups judged. -/
def State.enabledJudged (f : FrameId) (e : FrameEntry) (s : State) : State :=
  (List.finRange 32).foldl (fun u g => State.judge f g u) (s.enabledFresh f e)

theorem State.enableCycle_stopped (running : s.frameState f ≠ .running) : s.enableCycle f =
    { s with
      dcu := { s.dcu with
        frames := s.dcu.frames.set f { state := .running, cause := none, claim := none, stopTimer := none, startUp := 0 } }
      inFlight := s.inFlight ++ [.frameRunningNotice f] } := by
  rw [State.enableCycle_eq, if_neg running, State.modCycle, State.cycle_setCycle, State.setCycle_setCycle]
  rfl

theorem State.enableGroups_eq (h : s.entry f = e) : s.enableGroups f =
    (List.finRange 32).foldl (fun (u : State) g => u.judge f g)
      { s with rsu := { s.rsu with groups := s.rsu.groups.set f e.emptyGroups } } := by
  subst h
  rfl

theorem State.entry_setEntry_self : (s.setEntry f e).entry f = e := Tab.get_set_self _ _ _

theorem State.link_enabledFresh : (s.enabledFresh f e).link = s.link := rfl

theorem State.enabledJudged_eq :
    s.enabledJudged f e = (List.finRange 32).foldl (fun (u : State) g => u.judge f g) (s.enabledFresh f e) := rfl

/-- The units of an enable in their order; the groups are judged between the delivery record and the speed program (log 16). -/
theorem State.enableFrame_eq (running : s.frameState f ≠ .running) : (s.setEntry f e).enableFrame f =
    sendStateRequest f.val
      (((s.enabledJudged f e).enableSpeed f).enableDispatch f) := by
  have before : (((s.setEntry f e).enableCycle f).enableMap f).enableDelivery f =
      { s.enabledFresh f e with rsu := s.rsu } := by
    rw [State.enableCycle_stopped (s := s.setEntry f e) running]
    refine congrArg (fun m => State.enableDelivery f { s with
      store := { s.store with frames := s.store.frames.set f e }
      dcu := { s.dcu with
        frames := s.dcu.frames.set f { state := .running, cause := none, claim := none, stopTimer := none, startUp := 0 } }
      smu := { s.smu with maps := s.smu.maps.set f (.enabled m) }
      inFlight := s.inFlight ++ [.frameRunningNotice f] }) ?_
    exact State.entry_setEntry_self
  have entry : ({ s.enabledFresh f e with rsu := s.rsu } : State).entry f = e := State.entry_setEntry_self (s := s)
  rw [State.enableFrame, before, State.enableGroups_eq entry]
  rfl

/-! ### The state that an enable leaves -/

theorem State.supplies_enabledJudged : (s.enabledFresh f e).Supplies True (s.enabledJudged f e) :=
  State.supplies_foldl (fun _ _ => State.supplies_judge _ _) _

/-- The admissions leave room for the SPEED and the STATE-REQUEST behind them. -/
theorem State.floorQueue_enabledJudged (room : s.link.floorQueue.length < 16) :
    (s.enabledJudged f e).link.floorQueue.length < 24 := by
  have load : (s.enabledJudged f e).load ≤ (s.enabledFresh f e).load := State.load_foldl (fun _ _ => State.load_judge _ _) _
  have before : (s.enabledFresh f e).load ≤ s.link.floorQueue.length + 8 := State.load_le (s.enabledFresh f e)
  have after := State.length_le_load (s.enabledJudged f e)
  omega

/-- What is said and sent once the groups are judged: the speed, then the request for the state (log 16). -/
theorem State.enable_after {j : State} (supplied : (s.enabledFresh f e).Supplies True j) (few : j.link.floorQueue.length < 62) :
    ∃ link flags held first,
      sendStateRequest f.val ((j.enableSpeed f).enableDispatch f) =
        { s.enabledFresh f e with
          link
          store := { (s.enabledFresh f e).store with flags, heldAlarms := held }
          rsu := j.rsu
          spu := { records := s.spu.records.set f
                     ((s.speed f).begun ((s.store.articles.get (Fin.ofNat 16 e.article)).compute 0 0)), firstFault := first }
          pcd := { s.pcd with enabling := s.pcd.enabling.set f (s.inFlight.count (.frameRunningNotice f) + 1) } }
      ∧ (∃ q q', link.floorQueue = j.link.floorQueue ++
          [{ kind := 0x20#8, node := BitVec.ofNat 8 f.val, seq := q,
             payload := beBytes 2 ((s.store.articles.get (Fin.ofNat 16 e.article)).compute 0 0).rpm },
           { kind := 0x26#8, node := BitVec.ofNat 8 f.val, seq := q', payload := [] }])
      ∧ (∃ alarms, link.upQueue = j.link.upQueue ++ alarms ∧ ∀ m ∈ alarms, m.kind = 0x61#8)
      ∧ flags.getLsbD 6 = j.flagSet .replSetFull := by
  have apart := supplied.apart
  obtain ⟨v, first, spoken, queue, alarms, flag, sped⟩ := State.enableSpeed_room (s := j) (f := f) (by omega)
  have article : j.article f = s.store.articles.get (Fin.ofNat 16 e.article) := by
    rw [apart]
    exact congrArg (fun e : FrameEntry => s.store.articles.get (Fin.ofNat 16 e.article)) State.entry_setEntry_self
  have speed : j.speed f = s.speed f := by
    rw [apart]
    rfl
  have told : v = v.telling j := spoken.eq_telling
  have store : v.store = { (s.enabledFresh f e).store with flags := v.store.flags, heldAlarms := v.store.heldAlarms } := by
    refine (congrArg State.store spoken : v.store = _).trans ?_
    rw [apart]
  have whole : v = { s.enabledFresh f e with
      link := v.link
      store := { (s.enabledFresh f e).store with flags := v.store.flags, heldAlarms := v.store.heldAlarms }
      rsu := j.rsu } := by
    rw [← store]
    refine told.trans ?_
    rw [apart]
    rfl
  have counted : (s.inFlight ++ [Instr.frameRunningNotice f]).count (.frameRunningNotice f) =
      s.inFlight.count (.frameRunningNotice f) + 1 := by
    rw [List.count_append, List.count_singleton_self]
  obtain ⟨c, hc⟩ : ∃ c, c = (s.store.articles.get (Fin.ofNat 16 e.article)).compute 0 0 := ⟨_, rfl⟩
  obtain ⟨sent, hsent⟩ : ∃ m : Telegram,
      m = { kind := 0x20#8, node := BitVec.ofNat 8 f.val, seq := v.link.floorSeq, payload := beBytes 2 c.rpm } := ⟨_, rfl⟩
  have spu : j.spu = s.spu := by
    rw [apart]
    rfl
  rw [article, speed, spu, ← hc, ← hsent] at sped
  have queued : ((j.enableSpeed f).enableDispatch f).link.floorQueue = j.link.floorQueue ++ [sent] := by
    rw [sped, ← queue]
    rfl
  have room : ((j.enableSpeed f).enableDispatch f).link.floorQueue.length < 64 := by
    rw [queued, List.length_append, List.length_singleton]
    omega
  refine ⟨{ v.link with
      floorSeq := v.link.floorSeq + 1 + 1
      floorQueue := j.link.floorQueue ++ [sent] ++
        [{ kind := 0x26#8, node := BitVec.ofNat 8 f.val, seq := v.link.floorSeq + 1, payload := [] }] },
    v.store.flags, v.store.heldAlarms, first, ?_, ⟨v.link.floorSeq, v.link.floorSeq + 1, ?_⟩, alarms, flag⟩
  · rw [sendStateRequest, State.sendFloor_room room, queued, sped, ← hc, ← counted, whole]
    rfl
  · rw [List.append_assoc, hsent, hc]
    rfl

/-! ### The obligation -/

theorem lt_ceilDiv_iff {a b n : Nat} (h : 0 < b) : n < ceilDiv a b ↔ n * b < a := by
  rw [ceilDiv, Nat.lt_iff_add_one_le, Nat.le_div_iff_mul_le h, Nat.add_mul]
  omega

/-- The groups that a frame has (R56). -/
theorem FrameEntry.hasGroup_iff_mul_lt (ha : 0 < e.groupA) (hb : 0 < e.groupB) (g : GroupId) : e.hasGroup g.val = true ↔
      (g.val < 16 ∧ g.val * e.groupA < e.lengthA) ∨ (16 ≤ g.val ∧ (g.val - 16) * e.groupB < e.lengthB) := by
  rw [FrameEntry.hasGroup_iff, ← lt_ceilDiv_iff ha, ← lt_ceilDiv_iff hb]
  simp only [FrameEntry.groupCount]
  omega

theorem State.frameConds_groups (h : ∀ b ∈ s.frameConds e, b = true) : 0 < e.groupA ∧ 0 < e.groupB := by
  rw [State.frameConds_eq] at h
  simp only [List.forall_mem_cons, decide_eq_true_eq] at h
  omega

theorem State.groupRecord_enabledFresh (g : GroupId) : (s.enabledFresh f e).groupRecord f g =
    if e.hasGroup g.val = true then some { remaining := 0, state := .supplied, sequence := none, carrier := none } else none := by
  show ((s.rsu.groups.set f e.emptyGroups).get f).get g = _
  rw [Tab.get_set_self, FrameEntry.emptyGroups, Tab.get_build]

theorem State.groupRecord_enabledFresh_ne {f' : FrameId} (h : f' ≠ f) (g : GroupId) :
    (s.enabledFresh f e).groupRecord f' g = s.groupRecord f' g :=
  congrArg (fun tab : Tab 32 (Option Group) => tab.get g) (Tab.get_set_ne _ (Ne.symm h) _)

/-- An offer to the uplink leaves what waits there before it (R13). -/
theorem State.prefix_offerUp (tel : Telegram) : s.link.upQueue <+: (s.offerUp tel).link.upQueue := by
  unfold State.offerUp
  split
  · exact List.prefix_append _ _
  · exact List.prefix_refl _

/-- The write that enables a frame. -/
theorem exec_frameEnable_taken {seq mask : Nat} {values : List Byte} (h : s.Manages) (off : (s.entry f).enabled = 0)
    (form : mask % 2 = 0 ∧ mask + 1 < 2 ^ frameWidths.length ∧ values.length + 1 = selectedWidth (mask + 1) 0 frameWidths)
    (passes : ∀ b ∈ s.frameConds (FrameEntry.ofFields
      (overlay (mask + 1) 0 frameWidths (s.entry f).fields (1#8 :: values))), b = true) :
    exec (.frameEnable seq f.val mask values) s = .next (State.offerUp (replyTelegram seq .ok 0 [])
      ((s.setEntry f (FrameEntry.ofFields (overlay (mask + 1) 0 frameWidths (s.entry f).fields (1#8 :: values)))).enableFrame f)) := by
  have on : (FrameEntry.ofFields (overlay (mask + 1) 0 frameWidths (s.entry f).fields (1#8 :: values))).enabled = 1 :=
    congrArg (fun l => l.getD 0 0) (overlay_first form.1 1#8 frameWidths.tail _ _ values)
  have disabled : s.enabled f = false := by
    rw [State.enabled, off]
    rfl
  refine (exec_frameTableWrite_formed h (form_of_enable form)).trans ?_
  rw [disabled, Bool.false_and, off, show ((0 : Nat) == 1) = false from rfl, Bool.false_and, Bool.false_and,
    State.judgeWrite_passes passes]
  exact congrArg (fun u => Host.Outcome.next (State.offerUp (replyTelegram seq .ok 0 []) u)) (if_pos ⟨off, on⟩)

/-- Settles O47: the write's effects unit by unit, with the groups judged over the frame as the other units have it. -/
theorem enableStartsFrame : Obligations.EnableStartsFrame := by
  unfold Obligations.EnableStartsFrame
  intro seq mask values f s c e unknown a manages off even fits sized passes running starting room
  have supplied : (s.enabledFresh f e).Supplies True (s.enabledJudged f e) := State.supplies_enabledJudged
  have few := State.floorQueue_enabledJudged (f := f) (e := e) room
  obtain ⟨link, flags, held, first, asked, ⟨q, q', floor⟩, ⟨alarms, up, raised⟩, flag⟩ :=
    State.enable_after supplied (by omega)
  obtain ⟨alarms', up', raised'⟩ := supplied.alarms
  refine ⟨_, exec_frameEnable_taken manages off ⟨even, fits, sized⟩ passes, ?_⟩
  obtain ⟨t, ht⟩ : ∃ t : State, t = { s.enabledFresh f e with
      link
      store := { (s.enabledFresh f e).store with flags, heldAlarms := held }
      rsu := (s.enabledJudged f e).rsu
      spu := { records := s.spu.records.set f ((s.speed f).begun (a.compute 0 0)), firstFault := first }
      pcd := { s.pcd with enabling := s.pcd.enabling.set f (s.inFlight.count (.frameRunningNotice f) + 1) } } := ⟨_, rfl⟩
  have after : (s.setEntry f e).enableFrame f = t := by
    rw [State.enableFrame_eq running, ht]
    exact asked
  rw [after]
  have rsu : (State.offerUp (replyTelegram seq .ok 0 []) t).rsu = (s.enabledJudged f e).rsu := by rw [State.offerUp_rsu, ht]
  have record (g : GroupId) : ((State.offerUp (replyTelegram seq .ok 0 []) t).groupRecord f g).map Group.remaining =
      if e.hasGroup g.val = true then some 0 else none := by
    rw [State.groupRecord, rsu, ← State.groupRecord, supplied.remaining, State.groupRecord_enabledFresh]
    split <;> rfl
  obtain ⟨sideA, sideB⟩ := State.frameConds_groups passes
  have entries : (State.offerUp (replyTelegram seq .ok 0 []) t).store.frames = s.store.frames.set f e := by
    rw [State.offerUp_store_frames, ht]
    rfl
  have cycles : (State.offerUp (replyTelegram seq .ok 0 []) t).dcu.frames = s.dcu.frames.set f
      { state := .running, cause := none, claim := none, stopTimer := none, startUp := 0 } := by
    rw [State.offerUp_dcu, ht]
    rfl
  have smu : (State.offerUp (replyTelegram seq .ok 0 []) t).smu = { s.smu with maps := s.smu.maps.set f (.enabled e) } := by
    rw [State.offerUp_smu, ht]
    rfl
  have dau : (State.offerUp (replyTelegram seq .ok 0 []) t).dau = s.dau.set f .initial := by
    rw [State.offerUp_dau, ht]
    rfl
  have speeds : (State.offerUp (replyTelegram seq .ok 0 []) t).spu.records =
      s.spu.records.set f ((s.speed f).begun (a.compute 0 0)) := by rw [State.offerUp_spu, ht]
  have speed : (State.offerUp (replyTelegram seq .ok 0 []) t).speed f = (s.speed f).begun (a.compute 0 0) := by
    rw [State.speed, speeds, Tab.get_set_self]
  have linked : t.link = link := by rw [ht]
  have queue : (State.offerUp (replyTelegram seq .ok 0 []) t).link.floorQueue = link.floorQueue := by
    rw [State.offerUp_floorQueue, ht]
  refine ⟨by rw [State.entry, entries, Tab.get_set_self],
    fun f' other => by rw [State.entry, entries, Tab.get_set_ne _ (Ne.symm other), State.entry],
    by rw [State.cycle, cycles, Tab.get_set_self], by rw [State.map, smu, Tab.get_set_self]; rfl,
    by rw [State.deliveryRecord, dau, Tab.get_set_self], record, FrameEntry.hasGroup_iff_mul_lt sideA sideB,
    ⟨s.enabledFresh f e, rfl, rfl, rfl, rfl, State.groupRecord_enabledFresh,
      fun f' g other => State.groupRecord_enabledFresh_ne other g, rsu, ?_, ?_, ?_⟩,
    by rw [speed]; rfl, by rw [speed]; rfl, by rw [speed]; rfl, by rw [speed]; rfl, by rw [speed]; rfl, by rw [speed]; rfl,
    by rw [speed]; rfl, ?_, ?_,
    fun f' other => ⟨by rw [State.map, smu, Tab.get_set_ne _ (Ne.symm other), State.map],
      by rw [State.cycle, cycles, Tab.get_set_ne _ (Ne.symm other), State.cycle],
      by rw [State.speed, speeds, Tab.get_set_ne _ (Ne.symm other), State.speed],
      by rw [State.deliveryRecord, dau, Tab.get_set_ne _ (Ne.symm other), State.deliveryRecord]⟩,
    by rw [State.offerUp_scu, ht]; rfl, by rw [State.offerUp_pcd, ht], by rw [State.offerUp_aou, ht]; rfl,
    by rw [State.offerUp_retention, ht]; rfl, by rw [smu], t, alarms' ++ alarms, ?_, ?_, rfl⟩
  · rw [State.flagSet_offerUp, ht]
    exact flag
  · rw [queue, floor, List.length_append, List.length_cons, List.length_singleton, Nat.add_sub_cancel, List.take_left,
      State.enabledJudged_eq]
  · have grown : (s.enabledJudged f e).link.upQueue <+: t.link.upQueue := by
      rw [linked, up]
      exact List.prefix_append _ _
    rw [← State.enabledJudged_eq]
    exact grown.trans (State.prefix_offerUp (s := t) _)
  · rw [queue, floor, List.length_append, List.length_cons, List.length_singleton, Nat.add_sub_cancel, List.drop_left]
    rfl
  · rw [State.offerUp_inFlight, ht]
    rfl
  · exact fun m hm => (List.mem_append.mp hm).elim (fun h => (raised' m h).2) (raised m)
  · rw [linked, up, up', List.append_assoc, State.link_enabledFresh]

end Sys2Proof.Machine
end

section
/-! The disable of a frame, unit by unit (R22, R49, R54, R100, R117, R140, R158, R168). -/

namespace Sys2Proof.Machine

variable {s t u : State} {f : FrameId} {e : FrameEntry} {g : GroupId} {k : RobotId} {d : DofferId} {c : CarrierId}

/-! ### Part commands in their order (R13) -/

/-- A part command without its sequence number. -/
def Telegram.command (m : Telegram) : Byte × Byte × List Byte := (m.kind, m.node, m.payload)

/-- Part commands offered to the floor: they stand behind those that wait while there is room for all, and nothing else is
said or stored but the flag of a loss. -/
structure State.Commanded (s t : State) (l : List (Byte × Byte × List Byte)) : Prop where
  store : t.store = { s.store with flags := t.store.flags }
  up : t.link.upQueue = s.link.upQueue
  grown : s.link.floorQueue <+: t.link.floorQueue
  sent : s.link.floorQueue.length + l.length ≤ 64 →
    ∃ m : List Telegram, m.map Telegram.command = l ∧ t.link.floorQueue = s.link.floorQueue ++ m

theorem State.Commanded.of_same (link : t.link = s.link) (store : t.store = s.store) : s.Commanded t [] :=
  ⟨by rw [store], by rw [link], by rw [link], fun _ => ⟨[], rfl, by rw [link, List.append_nil]⟩⟩

theorem State.Commanded.trans {l l' : List (Byte × Byte × List Byte)} (h : s.Commanded t l) (h' : t.Commanded u l') :
    s.Commanded u (l ++ l') where
  store := by rw [h'.store, h.store]
  up := h'.up.trans h.up
  grown := h.grown.trans h'.grown
  sent room := by
    rw [List.length_append] at room
    obtain ⟨m, e, queue⟩ := h.sent (by omega)
    have length : t.link.floorQueue.length = s.link.floorQueue.length + l.length := by
      rw [queue, List.length_append, ← e, List.length_map]
    obtain ⟨m', e', queue'⟩ := h'.sent (by omega)
    exact ⟨m ++ m', by rw [List.map_append, e, e'], by rw [queue', queue, List.append_assoc]⟩

theorem State.commanded_sendFloor (node kind : Nat) (payload : List Byte) :
    s.Commanded (s.sendFloor node kind payload) [(BitVec.ofNat 8 kind, BitVec.ofNat 8 node, payload)] := by
  obtain room | full := Nat.lt_or_ge s.link.floorQueue.length 64
  · rw [State.sendFloor_room room]
    exact ⟨rfl, rfl, List.prefix_append _ _, fun _ => ⟨_, rfl, rfl⟩⟩
  · rw [State.sendFloor_full full]
    refine ⟨rfl, rfl, List.prefix_refl _, fun room => ?_⟩
    rw [List.length_singleton] at room
    omega

/-- What stands aside of the link and the store has no part in it. -/
theorem State.Commanded.aside {l : List (Byte × Byte × List Byte)} (h : s.Commanded t l) (link : u.link = t.link)
    (store : u.store = t.store) : s.Commanded u l := by
  have all := h.trans (State.Commanded.of_same link store)
  rwa [List.append_nil] at all

theorem State.Commanded.before {l : List (Byte × Byte × List Byte)} (h : s.Commanded t l) (link : u.link = s.link)
    (store : u.store = s.store) : u.Commanded t l :=
  (State.Commanded.of_same (s := u) (t := s) link.symm store.symm).trans h

/-! ### The robots at work on the frame (R99, R100) -/

/-- A robot that has been sent ABANDON. -/
def Robot.abandoned (r : Robot) : Robot := { r with state := .idle, assignment := none, deadline := none }

/-- ABANDON to the robots of a list, in its order. -/
structure State.Abandoned (s t : State) (l : List RobotId) : Prop where
  apart : t = { s with link := t.link, store := t.store, pcd := { s.pcd with robots := t.pcd.robots } }
  commanded : s.Commanded t (l.map fun k => (0x29#8, BitVec.ofNat 8 (0x40 + k.val), []))
  robots : ∀ k, t.robot k = if k ∈ l then (s.robot k).abandoned else s.robot k

theorem State.Abandoned.trans {l l' : List RobotId} (h : s.Abandoned t l) (h' : t.Abandoned u l') : s.Abandoned u (l ++ l') where
  apart := by
    refine Eq.trans h'.apart ?_
    conv_lhs => rw [h.apart]
  commanded := by
    rw [List.map_append]
    exact h.commanded.trans h'.commanded
  robots k := by
    rw [h'.robots, h.robots]
    by_cases first : k ∈ l
    · rw [if_pos first, if_pos (List.mem_append_left _ first)]
      split <;> rfl
    · simp only [List.mem_append, first, false_or, if_false]

theorem State.abandoned_one : s.Abandoned ((sendAbandon k s).modRobot k Robot.abandoned) [k] where
  apart := by
    have spoken : sendAbandon k s = State.telling (sendAbandon k s) s := (State.spoken_sendFloor _ _ _).eq_telling
    rw [spoken]
    rfl
  commanded := (State.commanded_sendFloor (0x40 + k.val) 0x29 []).aside rfl rfl
  robots j := by
    have same : (sendAbandon k s).pcd = s.pcd := State.sendFloor_pcd s _ _ _
    rw [State.modRobot]
    by_cases e : j = k
    · rw [e, State.robot_setRobot, if_pos (List.mem_singleton_self k), State.robot, same, State.robot]
    · rw [State.robot_setRobot_ne _ (Ne.symm e), if_neg (fun h => e (List.mem_singleton.mp h)), State.robot, same, State.robot]

theorem State.abandoned_foldl (l : List RobotId) :
    s.Abandoned (l.foldl (fun s k => (sendAbandon k s).modRobot k Robot.abandoned) s) l := by
  induction l generalizing s with
  | nil => exact ⟨rfl, .of_same rfl rfl, fun k => (if_neg (List.not_mem_nil)).symm⟩
  | cons j rest ih => exact State.Abandoned.trans State.abandoned_one ih

theorem State.abandonFrame_eq : s.abandonFrame f =
    (((s.robotsOn f).foldl (fun s k => (sendAbandon k s).modRobot k Robot.abandoned) s)).setVerify
      (s.pcd.verify.filter fun e => e.frame != f) := by
  have apart := (State.abandoned_foldl (s := s) (s.robotsOn f)).apart
  have verify : ((s.robotsOn f).foldl (fun s k => (sendAbandon k s).modRobot k Robot.abandoned) s).pcd.verify = s.pcd.verify := by
    rw [apart]
  rw [← verify]
  rfl

/-! ### The frame's cycle, and the claim on it (R117) -/

/-- The doffer that is freed of a claim (R121). -/
def Doffer.freed (r : Doffer) : Doffer :=
  { state := .idle, frame := none, held := false, reach := r.reachPending.getD r.reach, reachPending := none, timer := none }

theorem State.disableCycle_free (h : (s.cycle f).claim = none) : s.disableCycle f =
    { s with dcu := { s.dcu with
      frames := s.dcu.frames.set f .initial, queue := s.dcu.queue.filter fun g => g != f } } := by
  have claim : ((s.leaveQueue f).cycle f).claim = none := h
  rw [State.disableCycle, State.cancelClaim, claim]
  rfl

theorem State.pick_none (h : ∀ g ∈ s.dcu.queue, (s.doffer d).reaches g = false) : s.pick d = s := by
  have found : s.dcu.queue.find? (s.doffer d).reaches = none := List.find?_eq_none.mpr fun g hg => by rw [h g hg]; decide
  rw [State.pick, found]

/-- A CLAIMING doffer that finds no other frame in its reach is cancelled, IDLE and released. -/
theorem State.disableCycle_claimed (h : (s.cycle f).claim = some d) (claiming : (s.doffer d).state = .claiming)
    (alone : ∀ g ∈ s.dcu.queue, g ≠ f → (s.doffer d).freed.reaches g = false) : s.disableCycle f =
    { sendDoffCancel d s with
      dcu := { s.dcu with
        frames := s.dcu.frames.set f .initial
        doffers := s.dcu.doffers.set d (s.doffer d).freed
        queue := s.dcu.queue.filter fun g => g != f }
      inFlight := s.inFlight ++ [.dofferRelease d] } := by
  obtain ⟨v, hv⟩ : ∃ v : State, v = { sendDoffCancel d s with
      dcu := { s.dcu with
        frames := s.dcu.frames.set f { s.cycle f with claim := none }
        doffers := s.dcu.doffers.set d (s.doffer d).freed
        queue := s.dcu.queue.filter fun g => g != f }
      inFlight := s.inFlight ++ [.dofferRelease d] } := ⟨_, rfl⟩
  have claimed : ((s.leaveQueue f).cycle f).claim = some d := h
  have cancelling : ((s.leaveQueue f).doffer d).state = .claiming := claiming
  have told : sendDoffCancel d (s.leaveQueue f) = (sendDoffCancel d s).telling (s.leaveQueue f) :=
    State.sendFloor_telling (s := s) (s.leaveQueue f) _ _ _
  have spoken : sendDoffCancel d s = (sendDoffCancel d s).telling s := (State.spoken_sendFloor _ _ _).eq_telling
  have idle : ((((sendDoffCancel d (s.leaveQueue f)).modCycle f fun r => { r with claim := none }).makeIdle d).emit
      (.dofferRelease d)) = v := by
    rw [told, hv, spoken]
    rfl
  have still : v.pick d = v := by
    refine State.pick_none fun g hg => ?_
    have freed : v.doffer d = (s.doffer d).freed := by
      rw [hv]
      exact Tab.get_set_self _ _ _
    rw [hv] at hg
    obtain ⟨queued, other⟩ := List.mem_filter.mp hg
    rw [freed]
    exact alone g queued (bne_iff_ne.mp other)
  rw [State.disableCycle, State.cancelClaim, claimed]
  dsimp only
  rw [if_pos cancelling, idle, still, hv, ← Tab.set_set s.dcu.frames f { s.cycle f with claim := none } FrameCycle.initial]
  rfl

/-! ### The trips to the frame's groups (R22, R168) -/

/-- A carrier that has been sent CARRIER-ABORT. -/
def Carrier.aborted (r : Carrier) : Carrier := { r with state := .returning, trip := none, timer := none }

/-- CARRIER-ABORT to the carriers of a list, in its order. -/
structure State.Aborted (s t : State) (l : List CarrierId) : Prop where
  apart : t = { s with link := t.link, store := t.store, rsu := { s.rsu with carriers := t.rsu.carriers } }
  commanded : s.Commanded t (l.map fun c => (0x30#8, BitVec.ofNat 8 (0x58 + c.val), []))
  carriers : ∀ c, t.carrier c = if c ∈ l then (s.carrier c).aborted else s.carrier c

theorem State.Aborted.trans {l l' : List CarrierId} (h : s.Aborted t l) (h' : t.Aborted u l') : s.Aborted u (l ++ l') where
  apart := by
    refine Eq.trans h'.apart ?_
    conv_lhs => rw [h.apart]
  commanded := by
    rw [List.map_append]
    exact h.commanded.trans h'.commanded
  carriers c := by
    rw [h'.carriers, h.carriers]
    by_cases first : c ∈ l
    · rw [if_pos first, if_pos (List.mem_append_left _ first)]
      split <;> rfl
    · simp only [List.mem_append, first, false_or, if_false]

theorem State.aborted_one : s.Aborted ((sendCarrierAbort c s).modCarrier c Carrier.aborted) [c] where
  apart := by
    have spoken : sendCarrierAbort c s = State.telling (sendCarrierAbort c s) s := (State.spoken_sendFloor _ _ _).eq_telling
    rw [spoken]
    rfl
  commanded := (State.commanded_sendFloor (0x58 + c.val) 0x30 []).aside rfl rfl
  carriers x := by
    have same : (sendCarrierAbort c s).rsu = s.rsu := State.sendFloor_rsu s _ _ _
    rw [State.modCarrier]
    by_cases e : x = c
    · rw [e, State.carrier_setCarrier, if_pos (List.mem_singleton_self c), State.carrier, same, State.carrier]
    · rw [State.carrier_setCarrier_ne _ (Ne.symm e), if_neg (fun h => e (List.mem_singleton.mp h)), State.carrier, same,
        State.carrier]

theorem State.aborted_abortTrip : s.Aborted (s.abortTrip f g) ((s.groupRecord f g).bind Group.carrier).toList := by
  unfold State.abortTrip
  cases s.groupRecord f g with
  | none => exact ⟨rfl, .of_same rfl rfl, fun _ => (if_neg List.not_mem_nil).symm⟩
  | some r =>
    dsimp only [Option.bind_some]
    cases r.carrier with
    | none => exact ⟨rfl, .of_same rfl rfl, fun _ => (if_neg List.not_mem_nil).symm⟩
    | some c => exact State.aborted_one

theorem State.Aborted.groupRecord {l : List CarrierId} (h : s.Aborted t l) (f : FrameId) (g : GroupId) :
    t.groupRecord f g = s.groupRecord f g := by
  rw [h.apart]
  rfl

theorem State.aborted_foldl (l : List GroupId) :
    s.Aborted (l.foldl (fun s g => s.abortTrip f g) s) (l.filterMap fun g => (s.groupRecord f g).bind Group.carrier) := by
  induction l generalizing s with
  | nil => exact ⟨rfl, .of_same rfl rfl, fun _ => (if_neg List.not_mem_nil).symm⟩
  | cons g rest ih =>
    have first : s.Aborted (s.abortTrip f g) ((s.groupRecord f g).bind Group.carrier).toList := State.aborted_abortTrip
    have later := ih (s := s.abortTrip f g)
    simp only [first.groupRecord] at later
    have split : (g :: rest).filterMap (fun g => (s.groupRecord f g).bind Group.carrier) =
        ((s.groupRecord f g).bind Group.carrier).toList ++ rest.filterMap fun g => (s.groupRecord f g).bind Group.carrier := by
      rw [List.filterMap_cons]
      cases (s.groupRecord f g).bind Group.carrier <;> rfl
    rw [split]
    exact first.trans later

/-! ### The groups of the frame (R22, R158) -/

/-- The frame's groups without record, its entries gone from the set and its carriers called back. -/
def State.groupsGone (f : FrameId) (s : State) : State :=
  let aborted := (List.finRange 32).foldl (fun s g => State.abortTrip f g s) (s.setSet (s.rsu.set.filter fun e => e.frame != f))
  { aborted with rsu := { aborted.rsu with groups := aborted.rsu.groups.set f (.fill 32 none) } }

theorem State.disableGroups_eq : s.disableGroups f =
    (s.groupsGone f).fillPlaces (s.rsu.set.filter fun e => e.frame == f).length := by
  rw [State.disableGroups, State.groupsGone]

/-- The carriers sent to groups of a frame, in ascending group number. -/
def State.sentTo (s : State) (f : FrameId) : List CarrierId :=
  (List.finRange 32).filterMap fun g => (s.groupRecord f g).bind Group.carrier

theorem State.groupsGone_spec :
    s.groupsGone f = { s with link := (s.groupsGone f).link, store := (s.groupsGone f).store, rsu :=
      { s.rsu with
        groups := s.rsu.groups.set f (.fill 32 none)
        set := s.rsu.set.filter fun e => e.frame != f
        carriers := (s.groupsGone f).rsu.carriers } }
    ∧ s.Commanded (s.groupsGone f) ((s.sentTo f).map fun c => (0x30#8, BitVec.ofNat 8 (0x58 + c.val), []))
    ∧ ∀ c, (s.groupsGone f).carrier c = if c ∈ s.sentTo f then (s.carrier c).aborted else s.carrier c := by
  have aborted := State.aborted_foldl (s := s.setSet (s.rsu.set.filter fun e => e.frame != f)) (f := f) (List.finRange 32)
  obtain ⟨v, hv⟩ : ∃ v, v = (List.finRange 32).foldl (fun s g => State.abortTrip f g s)
    (s.setSet (s.rsu.set.filter fun e => e.frame != f)) := ⟨_, rfl⟩
  have gone : s.groupsGone f = { v with rsu := { v.rsu with groups := v.rsu.groups.set f (.fill 32 none) } } := by
    rw [hv]
    rfl
  rw [← hv] at aborted
  rw [gone]
  refine ⟨?_, ?_, aborted.carriers⟩
  · rw [aborted.apart]
    rfl
  · exact (aborted.commanded.before (u := s) rfl rfl).aside rfl rfl

/-! ### The map of the frame (R22, R54, R57) -/

theorem State.disableMap_eq : ∃ lost : List Instr,
    s.disableMap f =
      { s with
        smu := { maps := s.smu.maps.set f .empty, rogues := s.smu.rogues.filter fun e => e.frame != f }
        inFlight := s.inFlight ++ lost }
    ∧ ∀ h ∈ lost, aouFirst h = false := by
  refine ⟨_, rfl, fun h hh => ?_⟩
  obtain hh | hh := List.mem_append.mp hh
  · obtain ⟨c, -, hc⟩ := List.mem_filterMap.mp hh
    split at hc
    · cases hc
      rfl
    · cases hc
  · obtain ⟨g, -, rfl⟩ := List.mem_map.mp hh
    rfl

end Sys2Proof.Machine
end

section
/-! The disable of a frame: its units together, and the obligation (R22, R49, R54, R100, R117, R140, R158, R168). -/

namespace Sys2Proof.Machine

variable {s t u : State} {f : FrameId} {e : FrameEntry} {g : GroupId} {k : RobotId} {d : DofferId} {c : CarrierId}

/-! ### The claim on a frame that is disabled (R117) -/

/-- The doffers, with the one that has claimed the frame freed. -/
def State.freedDoffers (s : State) (f : FrameId) : Tab 8 Doffer :=
  match (s.cycle f).claim with
  | none => s.dcu.doffers
  | some d => s.dcu.doffers.set d (s.doffer d).freed

/-- The release that the freed doffer asks. -/
def State.claimReleases (s : State) (f : FrameId) : List Instr :=
  match (s.cycle f).claim with
  | none => []
  | some d => [.dofferRelease d]

/-- The DOFF-CANCEL to it. -/
def State.claimCancels (s : State) (f : FrameId) : List (Byte × Byte × List Byte) :=
  match (s.cycle f).claim with
  | some d => [(0x2D#8, BitVec.ofNat 8 (0x50 + d.val), [])]
  | none => []

/-- A claim, if any, is that of a CLAIMING doffer that will find no other frame in its reach. -/
def State.ClaimsAlone (s : State) (f : FrameId) : Prop :=
  ∀ d, (s.cycle f).claim = some d →
    (s.doffer d).state = .claiming ∧ ∀ g ∈ s.dcu.queue, g ≠ f → (s.doffer d).freed.reaches g = false

theorem State.disableCycle_spec (h : s.ClaimsAlone f) :
    s.disableCycle f =
      { s with
        link := (s.disableCycle f).link
        store := (s.disableCycle f).store
        dcu := { frames := s.dcu.frames.set f .initial, doffers := s.freedDoffers f,
                 queue := s.dcu.queue.filter fun g => g != f }
        inFlight := s.inFlight ++ s.claimReleases f }
    ∧ s.Commanded (s.disableCycle f) (s.claimCancels f) := by
  unfold State.freedDoffers State.claimReleases State.claimCancels
  cases claim : (s.cycle f).claim with
  | none =>
    rw [State.disableCycle_free claim]
    exact ⟨by rw [List.append_nil], .of_same rfl rfl⟩
  | some d =>
    obtain ⟨claiming, alone⟩ := h d claim
    have spoken : sendDoffCancel d s = (sendDoffCancel d s).telling s := (State.spoken_sendFloor _ _ _).eq_telling
    rw [State.disableCycle_claimed claim claiming alone]
    refine ⟨?_, (State.commanded_sendFloor (0x50 + d.val) 0x2D []).aside rfl rfl⟩
    rw [spoken]
    rfl

/-! ### The units together -/

theorem State.abandonFrame_spec :
    s.abandonFrame f =
      { s with
        link := (s.abandonFrame f).link
        store := (s.abandonFrame f).store
        pcd := { s.pcd with robots := (s.abandonFrame f).pcd.robots, verify := s.pcd.verify.filter fun e => e.frame != f } }
    ∧ s.Commanded (s.abandonFrame f) ((s.robotsOn f).map fun k => (0x29#8, BitVec.ofNat 8 (0x40 + k.val), []))
    ∧ ∀ k, (s.abandonFrame f).robot k = if k ∈ s.robotsOn f then (s.robot k).abandoned else s.robot k := by
  have abandoned := State.abandoned_foldl (s := s) (s.robotsOn f)
  rw [State.abandonFrame_eq]
  refine ⟨?_, abandoned.commanded.aside rfl rfl, abandoned.robots⟩
  conv_lhs => rw [abandoned.apart]
  rfl

theorem State.ClaimsAlone.abandonFrame (h : s.ClaimsAlone f) : (s.abandonFrame f).ClaimsAlone f := by
  have dcu : (s.abandonFrame f).dcu = s.dcu := by rw [(State.abandonFrame_spec (s := s)).1]
  unfold State.ClaimsAlone State.cycle State.doffer
  rw [dcu]
  exact h

/-- The frame gone from the PCD, the DCU and the RSU, before the places that it leaves in the set are filled. -/
def State.frameGone (f : FrameId) (s : State) : State := ((s.abandonFrame f).disableCycle f).groupsGone f

theorem State.frameGone_spec (h : s.ClaimsAlone f) :
    s.frameGone f =
      { s with
        link := (s.frameGone f).link
        store := (s.frameGone f).store
        pcd := { s.pcd with robots := (s.frameGone f).pcd.robots, verify := s.pcd.verify.filter fun e => e.frame != f }
        dcu := { frames := s.dcu.frames.set f .initial, doffers := s.freedDoffers f,
                 queue := s.dcu.queue.filter fun g => g != f }
        rsu := { s.rsu with
          groups := s.rsu.groups.set f (.fill 32 none)
          set := s.rsu.set.filter fun e => e.frame != f
          carriers := (s.frameGone f).rsu.carriers }
        inFlight := s.inFlight ++ s.claimReleases f }
    ∧ (∃ told : State,
        s.Commanded told (((s.robotsOn f).map fun k => (0x29#8, BitVec.ofNat 8 (0x40 + k.val), [])) ++ s.claimCancels f)
        ∧ told.Commanded (s.frameGone f) ((s.sentTo f).map fun c => (0x30#8, BitVec.ofNat 8 (0x58 + c.val), [])))
    ∧ (∀ k, (s.frameGone f).robot k = if k ∈ s.robotsOn f then (s.robot k).abandoned else s.robot k)
    ∧ ∀ c, (s.frameGone f).carrier c = if c ∈ s.sentTo f then (s.carrier c).aborted else s.carrier c := by
  obtain ⟨a, ha⟩ : ∃ a, a = s.abandonFrame f := ⟨_, rfl⟩
  obtain ⟨b, hb⟩ : ∃ b, b = a.disableCycle f := ⟨_, rfl⟩
  obtain ⟨abandoned, abandons, robots⟩ := State.abandonFrame_spec (s := s) (f := f)
  rw [← ha] at abandoned abandons robots
  have dcu : a.dcu = s.dcu := by rw [abandoned]
  have alone : a.ClaimsAlone f := by
    rw [ha]
    exact h.abandonFrame
  obtain ⟨freed, cancels⟩ := State.disableCycle_spec alone
  obtain ⟨z, hz⟩ : ∃ z, z = b.groupsGone f := ⟨_, rfl⟩
  obtain ⟨gone, aborts, carriers⟩ := State.groupsGone_spec (s := b) (f := f)
  rw [← hb] at freed cancels
  rw [← hz] at gone aborts carriers
  have whole : s.frameGone f = z := by rw [State.frameGone, ← ha, ← hb, hz]
  have releases : a.claimReleases f = s.claimReleases f := by
    unfold State.claimReleases State.cycle
    rw [dcu]
  have cancels' : a.claimCancels f = s.claimCancels f := by
    unfold State.claimCancels State.cycle
    rw [dcu]
  have doffers : a.freedDoffers f = s.freedDoffers f := by
    unfold State.freedDoffers State.cycle State.doffer
    rw [dcu]
  have groups : b.rsu = s.rsu := by rw [freed, abandoned]
  have sent : b.sentTo f = s.sentTo f := by
    unfold State.sentTo State.groupRecord
    rw [groups]
  have pcd : z.pcd = a.pcd := by rw [gone, freed]
  rw [releases, doffers] at freed
  rw [cancels'] at cancels
  rw [sent] at aborts carriers
  rw [whole]
  refine ⟨?_, ⟨b, abandons.trans cancels, aborts⟩, fun k => ?_, fun c => ?_⟩
  · refine gone.trans ?_
    rw [freed, abandoned, pcd]
  · rw [State.robot, pcd, ← State.robot, robots]
  · rw [carriers, State.carrier, groups, State.carrier]

/-- The places of the set that the frame leaves, filled (R158). -/
def State.frameFilled (f : FrameId) (s : State) : State :=
  (s.frameGone f).fillPlaces (s.rsu.set.filter fun e => e.frame == f).length

theorem State.supplies_frameFilled : (s.frameGone f).Supplies False (s.frameFilled f) := State.supplies_fillPlaces _

/-- The robots sent on find no BROKEN spindle, as the line has none (R80, R99). -/
theorem State.disableFrame_spec (alone : s.ClaimsAlone f) (calm : s.NoBroken) (idle : s.NoneFlying aouFirst) :
    ∃ lost, s.disableFrame f =
      { s.frameFilled f with
        smu := { maps := s.smu.maps.set f .empty, rogues := s.smu.rogues.filter fun e => e.frame != f }
        inFlight := (s.inFlight ++ s.claimReleases f ++ lost).filter fun h => !discardedBy f h } := by
  have gone := (State.frameGone_spec alone).1
  have filled := (State.supplies_frameFilled (s := s) (f := f)).apart
  have smu : (s.frameFilled f).smu = s.smu := by rw [filled, gone]
  have flying : (s.frameFilled f).inFlight = s.inFlight ++ s.claimReleases f := by rw [filled, gone]
  have groups : ((s.abandonFrame f).disableCycle f).rsu.set = s.rsu.set := by
    rw [(State.disableCycle_spec alone.abandonFrame).1, (State.abandonFrame_spec (s := s)).1]
  have released : ∀ h ∈ s.claimReleases f, aouFirst h = false := by
    unfold State.claimReleases
    split
    · exact nofun
    · exact fun h hh => by rw [List.mem_singleton.mp hh]; rfl
  obtain ⟨lost, mapped, quiet⟩ := State.disableMap_eq (s := s.frameFilled f) (f := f)
  refine ⟨lost, ?_⟩
  have units : (((s.abandonFrame f).disableCycle f).disableGroups f).disableMap f = (s.frameFilled f).disableMap f := by
    rw [State.disableGroups_eq, groups]
    rfl
  rw [State.disableFrame, units, mapped, smu, flying]
  refine State.reevaluateZones_noBroken (fun f' side i => ?_) (fun h hh => ?_) _
  · by_cases same : f' = f
    · have gone : ∀ m : FrameMap, m = .empty → ((m.side side)[i]?.getD .vacant).state ≠ .broken := by
        rintro _ rfl
        cases side <;> exact SpindleState.noConfusion
      exact gone _ (by rw [same]; exact Tab.get_set_self _ _ _)
    · have kept : (s.smu.maps.set f .empty).get f' = s.smu.maps.get f' := Tab.get_set_ne _ (Ne.symm same) _
      have calm' := calm f' side i
      rw [State.spindle, State.map, ← kept] at calm'
      exact calm'
  · have member := (List.mem_filter.mp hh).1
    rw [List.mem_append, List.mem_append] at member
    obtain (h | h) | h := member
    · exact idle _ h
    · exact released _ h
    · exact quiet _ h

/-! ### The obligation -/

/-- The write that disables a frame, judged. -/
theorem exec_frameDisable_judged {seq mask : Nat} {values : List Byte} (h : s.Manages) (on : s.enabled f = true)
    (form : mask % 2 = 0 ∧ mask + 1 < 2 ^ frameWidths.length ∧ values.length + 1 = selectedWidth (mask + 1) 0 frameWidths)
    (unlocked : locksFrame (mask + 1) = false)
    (passes : ∀ b ∈ s.frameConds (FrameEntry.ofFields
      (overlay (mask + 1) 0 frameWidths (s.entry f).fields (0#8 :: values))), b = true) :
    exec (.frameDisable seq f.val mask values) s = .next
      (if s.frameState f = .doffing then s.offerUp (replyTelegram seq .badState 0 [])
       else State.offerUp (replyTelegram seq .ok 0 []) (((s.readyToDisable f).setEntry f
        (FrameEntry.ofFields (overlay (mask + 1) 0 frameWidths (s.entry f).fields (0#8 :: values)))).disableFrame f)) := by
  have off : (FrameEntry.ofFields (overlay (mask + 1) 0 frameWidths (s.entry f).fields (0#8 :: values))).enabled = 0 :=
    congrArg (fun l => l.getD 0 0) (overlay_first form.1 0#8 frameWidths.tail _ _ values)
  have enabled : (s.entry f).enabled = 1 := beq_iff_eq.mp on
  refine (exec_frameTableWrite_formed h (form_of_enable form)).trans (congrArg Host.Outcome.next ?_)
  rw [unlocked, Bool.and_false, enabled, off]
  by_cases doffing : s.frameState f = .doffing
  · rw [if_pos doffing, doffing]
    exact State.judgeWrite_badState passes
  · rw [if_neg doffing, show (1 == 1 && (0 : Nat) == 0 && s.frameState f == .doffing) = false by simp [doffing],
      State.judgeWrite_passes passes]
    exact congrArg (State.offerUp (replyTelegram seq .ok 0 [])) ((if_neg fun h => absurd (enabled.symm.trans h.1) (by decide)).trans
      (if_pos ⟨enabled, off⟩))

/-- A robot at work on a frame (R99). -/
theorem State.robotsOn_eq : s.robotsOn f = (List.finRange 12).filter fun k =>
    decide ((s.robot k).state = .piecing) && decide ((s.robot k).assignment.map Assignment.frame = some f) := by
  refine List.filter_congr fun k _ => ?_
  cases (s.robot k).assignment with
  | none => simp
  | some x => simp [beq_eq_decide]

/-- Settles O48: the units of the disable together, before and after the places that the frame leaves in the set are filled. -/
theorem disableEndsFrame : Obligations.DisableEndsFrame := by
  unfold Obligations.DisableEndsFrame
  intro seq mask values f s c e freed working sent manages on even fits unlocked sized passes
  have taken := exec_frameDisable_judged (seq := seq) manages on ⟨even, fits, sized⟩ unlocked passes
  refine ⟨fun doffing => by rw [taken, if_pos doffing], fun standing quiet dau spu smu claims => ?_⟩
  have ready : s.readyToDisable f = s := by
    rw [State.readyToDisable, State.spuReady_none dau spu, State.smuReady_none smu, State.pcdReadyFor_none quiet.2.2]
  rw [if_neg standing, ready] at taken
  obtain ⟨v, hv⟩ : ∃ v, v = s.setEntry f e := ⟨_, rfl⟩
  have alone : v.ClaimsAlone f := by
    rw [hv]
    exact claims
  have calm : v.NoBroken := quiet.1.of_smu (by rw [hv]; rfl)
  have idle : v.NoneFlying aouFirst := quiet.2.1.of_inFlight (by rw [hv]; rfl)
  obtain ⟨lost, disabled⟩ := State.disableFrame_spec alone calm idle
  obtain ⟨gone, ⟨told, cancelled, aborts⟩, robots, carriers⟩ := State.frameGone_spec alone
  have filled := State.supplies_frameFilled (s := v) (f := f)
  have fills : v.frameFilled f = (v.frameGone f).fillPlaces (v.rsu.set.filter fun e => e.frame == f).length := by
    rw [State.frameFilled]
  obtain ⟨left, hleft⟩ : ∃ left, left = v.frameGone f := ⟨_, rfl⟩
  obtain ⟨full, hfull⟩ : ∃ full, full = v.frameFilled f := ⟨_, rfl⟩
  obtain ⟨ended, hended⟩ : ∃ ended, ended = v.disableFrame f := ⟨_, rfl⟩
  rw [← hv, ← hended] at taken
  rw [← hended, ← hfull] at disabled
  rw [← hleft] at gone aborts robots carriers filled fills
  rw [← hfull] at filled fills
  have commanded := cancelled.trans aborts
  have store : left.store = { s.store with frames := s.store.frames.set f e, flags := left.store.flags } := by
    rw [commanded.store, hv]
    rfl
  have frames : ended.store.frames = s.store.frames.set f e := by rw [disabled, filled.apart, store]
  have pcd : ended.pcd = left.pcd := by rw [disabled, filled.apart]
  have dcu : ended.dcu = { frames := s.dcu.frames.set f .initial, doffers := s.freedDoffers f,
                           queue := s.dcu.queue.filter fun g => g != f } := by
    rw [disabled, filled.apart, gone, hv]
    rfl
  have rsu : ended.rsu = full.rsu := by rw [disabled]
  have maps : ended.smu = { maps := s.smu.maps.set f .empty, rogues := s.smu.rogues.filter fun e => e.frame != f } := by
    rw [disabled, hv]
    rfl
  have records (f' : FrameId) (g : GroupId) : left.groupRecord f' g = if f' = f then none else s.groupRecord f' g := by
    rw [gone, hv]
    by_cases same : f' = f
    · rw [if_pos same, same]
      exact (congrArg (fun tab : Tab 32 (Option Group) => tab.get g) (Tab.get_set_self _ _ _)).trans (Tab.get_fill _ _)
    · rw [if_neg same]
      exact congrArg (fun tab : Tab 32 (Option Group) => tab.get g) (Tab.get_set_ne _ (Ne.symm same) _)
  have emptied (g : GroupId) : full.groupRecord f g = none := by
    have none := filled.isSome f g
    rw [records, if_pos rfl] at none
    exact Option.not_isSome_iff_eq_none.mp (by rw [none]; exact Bool.false_ne_true)
  have link : ended.link = full.link := by rw [disabled]
  have flying : ended.inFlight = (s.inFlight ++ s.claimReleases f ++ lost).filter fun h => !discardedBy f h := by
    rw [disabled, hv]
    rfl
  have works (k : RobotId) : k ∈ v.robotsOn f ↔ working k = true := by
    rw [State.robotsOn_eq, List.mem_filter, hv]
    exact ⟨fun h => h.2, fun h => ⟨List.mem_finRange k, h⟩⟩
  obtain ⟨gos, queue, kinds⟩ := filled.gos
  obtain ⟨alarms, up, silent⟩ := filled.alarms
  have quietUp : alarms = [] := List.eq_nil_iff_forall_not_mem.mpr fun m hm => (silent m hm).1
  have atWork : (v.robotsOn f).length ≤ 12 := (List.length_filter_le _ _).trans (by simp)
  have sentOut : (v.sentTo f).length ≤ 32 := (List.length_filterMap_le _ _).trans (by simp)
  have cancels : (v.claimCancels f).length ≤ 1 := by
    unfold State.claimCancels
    split
    · exact Nat.le_refl _
    · exact Nat.zero_le _
  have length : v.link.floorQueue.length = s.link.floorQueue.length := by rw [hv]; rfl
  refine ⟨_, taken, ?_, ?_, ?_, fun g => ?_, ?_, ?_, ?_, ?_, fun x hx => ?_, fun h hh => ?_, fun free => ?_, fun d claim => ?_,
    fun k => ?_, ⟨left, ?_, store, records, ?_, ?_, fun c => ?_, ?_, fun room => ?_⟩, ?_, ?_, ?_, ?_, ?_,
    fun f' other => ⟨?_, ?_, ?_⟩, ended, ?_, rfl⟩
  · rw [State.entry, State.offerUp_store_frames, frames, Tab.get_set_self]
  · rw [State.cycle, State.offerUp_dcu, dcu, Tab.get_set_self]
  · rw [State.map, State.offerUp_smu, maps, Tab.get_set_self]
  · rw [State.groupRecord, State.offerUp_rsu, rsu, ← State.groupRecord, emptied]
  · rw [State.offerUp_smu, maps]
  · rw [State.offerUp_pcd, pcd, gone, hv]
    rfl
  · rw [State.offerUp_pcd, pcd, gone, hv]
    rfl
  · rw [State.offerUp_dcu, dcu]
  · rw [State.offerUp_rsu, rsu] at hx
    obtain kept | some := filled.entries x hx
    · rw [gone] at kept
      exact bne_iff_ne.mp (List.mem_filter.mp kept).2
    · intro same
      rw [records, if_pos same] at some
      cases some
  · rw [State.offerUp_inFlight, flying] at hh
    simpa using (List.mem_filter.mp hh).2
  · rw [State.offerUp_dcu, dcu, State.freedDoffers, free]
  · have doffers : s.freedDoffers f = s.dcu.doffers.set d (freed d) := by rw [State.freedDoffers, claim]; rfl
    have released : .dofferRelease d ∈ s.claimReleases f := by
      rw [State.claimReleases, claim]
      exact List.mem_singleton_self _
    refine ⟨?_, fun d' other => ?_, ?_, fun room => ?_⟩
    · rw [State.doffer, State.offerUp_dcu, dcu, doffers, Tab.get_set_self]
    · rw [State.doffer, State.offerUp_dcu, dcu, doffers, Tab.get_set_ne _ (Ne.symm other), State.doffer]
    · rw [State.offerUp_inFlight, flying]
      exact List.mem_filter.mpr ⟨List.mem_append_left _ (List.mem_append_right _ released), rfl⟩
    · have cancels : v.claimCancels f = [(0x2D#8, BitVec.ofNat 8 (0x50 + d.val), [])] := by
        rw [State.claimCancels, hv, show ((s.setEntry f e).cycle f).claim = some d from claim]
      rw [cancels] at cancelled
      obtain ⟨m, said, behind⟩ := cancelled.sent (by
        rw [List.length_append, List.length_map, List.length_singleton]
        omega)
      obtain ⟨more, left'⟩ := aborts.grown
      have whole : (State.offerUp (replyTelegram seq .ok 0 []) ended).link.floorQueue.drop s.link.floorQueue.length =
          m ++ (more ++ gos) := by
        rw [State.offerUp_floorQueue, link, queue, ← left', behind, ← length, List.append_assoc, List.append_assoc, List.drop_left]
      have member : ((0x2D#8, BitVec.ofNat 8 (0x50 + d.val), []) : Byte × Byte × List Byte) ∈ m.map Telegram.command := by
        rw [said]
        exact List.mem_append_right _ (List.mem_singleton_self _)
      obtain ⟨x, hx, command⟩ := List.mem_map.mp member
      obtain ⟨kind, node, payload⟩ : x.kind = 0x2D#8 ∧ x.node = BitVec.ofNat 8 (0x50 + d.val) ∧ x.payload = [] := by
        simpa [Telegram.command] using command
      exact ⟨x, by rw [whole]; exact List.mem_append_left _ hx, kind, node, payload⟩
  · rw [State.robot, State.offerUp_pcd, pcd, ← State.robot, robots, hv]
    by_cases at_work : working k = true
    · rw [if_pos at_work, if_pos (by rw [← hv]; exact (works k).mpr at_work)]
      rfl
    · rw [if_neg at_work, if_neg (by rw [← hv]; exact fun h => at_work ((works k).mp h))]
      rfl
  · rw [gone, hv]
    rfl
  · rw [gone, hv]
    rfl
  · rw [gone, hv]
    rfl
  · rw [carriers, hv]
    rfl
  · rw [State.offerUp_rsu, rsu, fills, hv]
    rfl
  · obtain ⟨m, said, behind⟩ := commanded.sent (by
      rw [List.length_append, List.length_append, List.length_map, List.length_map]
      omega)
    have fits : left.link.floorQueue.length ≤ 56 := by
      have total := congrArg List.length said
      rw [List.length_append, List.length_append, List.length_map, List.length_map, List.length_map] at total
      rw [behind, List.length_append]
      omega
    refine ⟨fits, gos, kinds, ?_, ?_, ?_⟩
    · rw [← queue, fills, hv]
      rfl
    · rw [State.offerUp_floorQueue, link, queue]
    · rw [behind, ← length, List.drop_left]
      refine said.trans ?_
      rw [State.robotsOn_eq, hv]
      rfl
  · rw [State.offerUp_dau, disabled, filled.apart, gone, hv]
    rfl
  · rw [State.offerUp_spu, disabled, filled.apart, gone, hv]
    rfl
  · rw [State.offerUp_scu, disabled, filled.apart, gone, hv]
    rfl
  · rw [State.offerUp_aou, disabled, filled.apart, gone, hv]
    rfl
  · rw [State.offerUp_retention, disabled, filled.apart, gone, hv]
    rfl
  · rw [State.entry, State.offerUp_store_frames, frames, Tab.get_set_ne _ (Ne.symm other), State.entry]
  · rw [State.map, State.offerUp_smu, maps, Tab.get_set_ne _ (Ne.symm other), State.map]
  · rw [State.cycle, State.offerUp_dcu, dcu, Tab.get_set_ne _ (Ne.symm other), State.cycle]
  · rw [link, up, quietUp, List.append_nil, commanded.up, hv]
    rfl

end Sys2Proof.Machine
end

section
/-! The ledger of R179: the counts of the current and closed records and of the images, the production items in flight and the
commands that wait. Every operation of the units but the few that count, close, copy or restore leaves it as it is. -/

namespace Sys2Proof.Machine

variable {t : State}

/-- Whether a hand-off is a production item (R46). -/
def isProduction : Instr → Bool
  | .scuDeliveryHandoff .. => true
  | _ => false

/-- What R179 reads of a state, but for the maps. -/
structure Ledger where
  current : Tab 48 Counts
  closed : Tab 48 ClosedRecord
  images : Tab 48 Image
  items : List Instr
  waiting : List Instr

def State.ledger (s : State) : Ledger :=
  { current := s.scu.current.map CountRecord.counts, closed := s.scu.closed, images := s.retention.images,
    items := s.inFlight.filter isProduction, waiting := s.pending }

/-! ### The state's own updates -/

@[simp] theorem State.ledger_setUpQueue (q : List Telegram) : (t.setUpQueue q).ledger = t.ledger := (rfl)
@[simp] theorem State.ledger_setFloorQueue (q : List Telegram) : (t.setFloorQueue q).ledger = t.ledger := (rfl)
@[simp] theorem State.ledger_bump (c : LinkCounter) : (t.bump c).ledger = t.ledger := (rfl)
@[simp] theorem State.ledger_latch (x : LineFlag) : (t.latch x).ledger = t.ledger := (rfl)
@[simp] theorem State.ledger_holdAlarm (a : Alarm) : (t.holdAlarm a).ledger = t.ledger := (rfl)
@[simp] theorem State.ledger_setEntry (f : FrameId) (e : FrameEntry) : (t.setEntry f e).ledger = t.ledger := (rfl)
@[simp] theorem State.ledger_setDelivery (f : FrameId) (r : Delivery) : (t.setDelivery f r).ledger = t.ledger := (rfl)
@[simp] theorem State.ledger_keepFormer (f : FrameId) (a : Article) : (t.keepFormer f a).ledger = t.ledger := (rfl)
@[simp] theorem State.ledger_setMap (f : FrameId) (m : FrameMap) : (t.setMap f m).ledger = t.ledger := (rfl)
@[simp] theorem State.ledger_setRogues (l : List RogueEntry) : (t.setRogues l).ledger = t.ledger := (rfl)
@[simp] theorem State.ledger_setVerify (l : List VerifyEntry) : (t.setVerify l).ledger = t.ledger := (rfl)
@[simp] theorem State.ledger_setEnabling (f : FrameId) (n : Nat) : (t.setEnabling f n).ledger = t.ledger := (rfl)
@[simp] theorem State.ledger_modRobot (k : RobotId) (upd : Robot → Robot) : (t.modRobot k upd).ledger = t.ledger := (rfl)
@[simp] theorem State.ledger_setHolder (a : AisleId) (h : Holder) : (t.setHolder a h).ledger = t.ledger := (rfl)
@[simp] theorem State.ledger_setReserved (a : AisleId) (d : Option DofferId) : (t.setReserved a d).ledger = t.ledger := (rfl)
@[simp] theorem State.ledger_setWaiting (l : List PendingReservation) : (t.setWaiting l).ledger = t.ledger := (rfl)
@[simp] theorem State.ledger_setClaimed (d : DofferId) (f : Option FrameId) : (t.setClaimed d f).ledger = t.ledger := (rfl)
@[simp] theorem State.ledger_setCycle (f : FrameId) (r : FrameCycle) : (t.setCycle f r).ledger = t.ledger := (rfl)
@[simp] theorem State.ledger_modCycle (f : FrameId) (upd : FrameCycle → FrameCycle) :
    (t.modCycle f upd).ledger = t.ledger := (rfl)
@[simp] theorem State.ledger_modDoffer (d : DofferId) (upd : Doffer → Doffer) : (t.modDoffer d upd).ledger = t.ledger := (rfl)
@[simp] theorem State.ledger_setQueue (q : List FrameId) : (t.setQueue q).ledger = t.ledger := (rfl)
@[simp] theorem State.ledger_setSpeed (f : FrameId) (r : SpeedRecord) : (t.setSpeed f r).ledger = t.ledger := (rfl)
@[simp] theorem State.ledger_setGroup (f : FrameId) (g : GroupId) (r : Option Group) : (t.setGroup f g r).ledger = t.ledger := (rfl)
@[simp] theorem State.ledger_setSet (l : List SetEntry) : (t.setSet l).ledger = t.ledger := (rfl)
@[simp] theorem State.ledger_setCarrier (c : CarrierId) (r : Carrier) : (t.setCarrier c r).ledger = t.ledger := (rfl)
@[simp] theorem State.ledger_modCarrier (c : CarrierId) (upd : Carrier → Carrier) :
    (t.modCarrier c upd).ledger = t.ledger := (rfl)
@[simp] theorem State.ledger_setSupervision (r : Supervision) : (t.setSupervision r).ledger = t.ledger := (rfl)
@[simp] theorem State.ledger_setValid (v : Bool) : (t.setValid v).ledger = t.ledger := (rfl)
@[simp] theorem State.ledger_reach (n : Nat) : (t.reach n).ledger = t.ledger := (rfl)
@[simp] theorem State.ledger_drew (n : Nat) : (t.drew n).ledger = t.ledger := (rfl)
@[simp] theorem State.ledger_clearCounters : t.clearCounters.ledger = t.ledger := (rfl)
@[simp] theorem State.ledger_clearFlags : t.clearFlags.ledger = t.ledger := (rfl)

@[simp] theorem State.ledger_ite {p : Prop} [Decidable p] (a b : State) :
    (if p then a else b).ledger = if p then a.ledger else b.ledger := apply_ite _ _ _ _

/-! ### Hand-offs other than production items -/

/-- A list of hand-offs in flight with the same production items leaves the ledger. -/
theorem State.ledger_fly {l : List Instr} (h : l.filter isProduction = t.inFlight.filter isProduction) :
    State.ledger { t with inFlight := l } = t.ledger := by
  simp [State.ledger, h]

@[simp] theorem State.ledger_emitAll {l : List Instr} (h : ∀ c ∈ l, isProduction c = false) :
    (t.emitAll l).ledger = t.ledger := by
  refine State.ledger_fly ?_
  have none : l.filter isProduction = [] := List.filter_eq_nil_iff.2 fun c hc => by simp [h c hc]
  rw [List.filter_append, none, List.append_nil]

@[simp] theorem State.ledger_emit {c : Instr} (h : ∀ f dL r n mtex, c ≠ .scuDeliveryHandoff f dL r n mtex) :
    (t.emit c).ledger = t.ledger :=
  State.ledger_emitAll (l := [c]) fun x hx => by
    rw [List.mem_singleton.1 hx]
    cases c with
    | scuDeliveryHandoff f dL r n mtex => exact absurd rfl (h f dL r n mtex)
    | _ => rfl

@[simp] theorem State.ledger_drop {c : Instr} (h : isProduction c = false) : (t.drop c).ledger = t.ledger := by
  refine State.ledger_fly ?_
  rw [← List.erase_filter, List.erase_of_not_mem (by simp [h])]

/-- What passes a test that no production item fails leaves the ledger. -/
theorem State.ledger_keep {p : Instr → Bool} (h : ∀ f dL r n mtex, p (.scuDeliveryHandoff f dL r n mtex) = true) :
    State.ledger { t with inFlight := t.inFlight.filter p } = t.ledger := by
  refine State.ledger_fly ?_
  rw [List.filter_filter]
  refine List.filter_congr fun c _ => ?_
  cases c <;> simp [isProduction, h]

theorem State.ledger_foldl_mem {α : Type} {op : State → α → State} (l : List α)
    (h : ∀ a ∈ l, ∀ u, (op u a).ledger = u.ledger) : (l.foldl op t).ledger = t.ledger := by
  induction l generalizing t with
  | nil => rfl
  | cons a rest ih =>
    rw [List.foldl_cons, ih fun b hb => h b (List.mem_cons_of_mem _ hb), h a List.mem_cons_self]

@[simp] theorem State.ledger_foldl {α : Type} {op : State → α → State} (h : ∀ u a, (op u a).ledger = u.ledger)
    (l : List α) : (l.foldl op t).ledger = t.ledger := State.ledger_foldl_mem l fun a _ u => h u a

/-- A unit takes hand-offs that are no production items. -/
theorem State.ledger_takeMatching {p : Instr → Bool} {app : Instr → State → State}
    (h : ∀ f dL r n mtex, p (.scuDeliveryHandoff f dL r n mtex) = false) (happ : ∀ c u, (app c u).ledger = u.ledger) :
    (t.takeMatching p app).ledger = t.ledger :=
  (State.ledger_foldl (op := fun u c => app c u) (fun u c => happ c u) _).trans
    (State.ledger_keep fun f dL r n mtex => by simp [h])

/-- No hand-off ahead of another one on a lane is a production item, where the lane has none. -/
theorem isProduction_of_lane {lane : Instr → Bool} (h : ∀ f dL r n mtex, lane (.scuDeliveryHandoff f dL r n mtex) = false)
    {c : Instr} (hc : lane c = true) : isProduction c = false := by
  cases c with
  | scuDeliveryHandoff => rw [h] at hc; cases hc
  | _ => rfl

/-- Neither a hand-off on such a lane nor one ahead of it is a production item. -/
theorem isProduction_of_turn {lane : Instr → Bool} {c : Instr}
    (h : ∀ f dL r n mtex, lane (.scuDeliveryHandoff f dL r n mtex) = false) (hc : isProduction c = false) {x : Instr}
    (hx : x ∈ t.ahead lane c ++ [c]) : isProduction x = false := by
  rcases List.mem_append.1 hx with ahead | last
  · unfold State.ahead at ahead
    split at ahead
    · exact isProduction_of_lane h (List.mem_filter.1 ahead).2
    · cases ahead
  · rwa [List.mem_singleton.1 last]

theorem State.ledger_takeInOrder {lane : Instr → Bool} {app : Instr → State → State} {c : Instr}
    (h : ∀ f dL r n mtex, lane (.scuDeliveryHandoff f dL r n mtex) = false) (hc : isProduction c = false)
    (happ : ∀ c u, (app c u).ledger = u.ledger) : (t.takeInOrder lane app c).ledger = t.ledger :=
  (State.ledger_foldl (op := fun u x => app x u) (fun u x => happ x u) _).trans
    (State.ledger_foldl_mem (op := fun u x => u.drop x) _ fun _ hx _ => State.ledger_drop (isProduction_of_turn h hc hx))

theorem State.ledger_whenOn {k : State → State} (h : (k t).ledger = t.ledger) : (t.whenOn k).ledger = t.ledger := by
  unfold State.whenOn
  split
  · exact h
  · rfl

theorem State.ledger_handoff {k : State → State} {c : Instr} (hc : isProduction c = false)
    (h : ∀ u, (k u).ledger = u.ledger) : (t.handoff c k).ledger = t.ledger :=
  State.ledger_whenOn ((h _).trans (State.ledger_drop hc))

theorem State.ledger_handoffInOrder {lane : Instr → Bool} {app : Instr → State → State} {c : Instr}
    (h : ∀ f dL r n mtex, lane (.scuDeliveryHandoff f dL r n mtex) = false) (hc : isProduction c = false)
    (happ : ∀ c u, (app c u).ledger = u.ledger) : (t.handoffInOrder lane app c).ledger = t.ledger :=
  State.ledger_whenOn (State.ledger_takeInOrder h hc happ)

/-! ### Telegrams -/

@[simp] theorem State.ledger_offerCopy (tel : Telegram) : (t.offerCopy tel).ledger = t.ledger := by simp [State.offerCopy]

@[simp] theorem State.ledger_offerUp (tel : Telegram) : (t.offerUp tel).ledger = t.ledger := by simp [State.offerUp]

@[simp] theorem State.ledger_offerPass (tel : Telegram) : (t.offerPass tel).ledger = t.ledger := by simp [State.offerPass]

@[simp] theorem State.ledger_offerFloor (tel : Telegram) : (t.offerFloor tel).ledger = t.ledger := by simp [State.offerFloor]

@[simp] theorem State.ledger_sendFloor (node kind : Nat) (p : List Byte) : (t.sendFloor node kind p).ledger = t.ledger :=
  State.ledger_offerFloor _

@[simp] theorem State.ledger_sendUp (kind : Nat) (p : List Byte) : (t.sendUp kind p).ledger = t.ledger :=
  State.ledger_offerUp _

@[simp] theorem State.ledger_alarm (k : AlarmKind) (c i d : Nat) : (t.alarm k c i d).ledger = t.ledger := by
  simp [State.alarm, sendAlarm]

@[simp] theorem State.ledger_copyReport (c : Instr) : (t.copyReport c).ledger = t.ledger := by
  rcases t.copyReport_cases c with e | ⟨tel, -, e⟩ <;> simp [e]

/-- What the ports deliver is counted or ignored, or a unit takes it. -/
theorem State.ledger_report {c : Instr} {owner : State → State} (h : ∀ u, (owner u).ledger = u.ledger) :
    (t.report c owner).ledger = t.ledger := by
  refine State.ledger_whenOn ?_
  dsimp only
  split
  · rfl
  · split
    · rfl
    · rfl
    · rw [h, State.ledger_copyReport]

theorem State.ledger_management {k : State → State} (h : ∀ u, (k u).ledger = u.ledger) :
    (t.management k).ledger = t.ledger := by
  rcases t.management_cases k with e | e <;> rw [e]
  exact h t

end Sys2Proof.Machine
end

section
/-! The units among themselves leave the ledger of R179: those of the aisles, of the spindle map and of piecing. -/

namespace Sys2Proof.Machine

variable {t : State}

/-! ### The Aisle Occupancy Unit -/

@[simp] theorem State.ledger_holdStep (d : DofferId) : (t.holdStep d).ledger = t.ledger := by
  unfold State.holdStep
  dsimp only
  split
  · split <;> simp
  · rfl

@[simp] theorem State.ledger_takeRobotRelease (k : RobotId) (a : AisleId) : (t.takeRobotRelease k a).ledger = t.ledger := by
  unfold State.takeRobotRelease
  dsimp only
  split
  · split <;> simp
  · rfl

theorem State.ledger_aouTakeRobot (c : Instr) : (aouTakeRobot t c).ledger = t.ledger := by
  unfold aouTakeRobot
  split <;> simp

@[simp] theorem State.ledger_aouReady : t.aouReady.ledger = t.ledger :=
  State.ledger_takeMatching (fun _ _ _ _ _ => rfl) fun c _ => State.ledger_aouTakeRobot c

@[simp] theorem State.ledger_robotGrant (k : RobotId) (a : AisleId) : (t.robotGrant k a).2.ledger = t.ledger := by
  unfold State.robotGrant
  dsimp only
  split
  · simp
  · split
    · split <;> simp
    · simp

@[simp] theorem State.ledger_reserveSet (d : DofferId) (f : FrameId) (set : List AisleId) :
    (t.reserveSet d f set).ledger = t.ledger := by
  unfold State.reserveSet
  dsimp only
  rw [State.ledger_holdStep, State.ledger_emitAll]
  · simp
  · simp only [List.mem_filterMap]
    rintro c ⟨a, -, recalled⟩
    split at recalled
    · obtain rfl := Option.some.inj recalled
      rfl
    · cases recalled

@[simp] theorem State.ledger_scan : t.scan.ledger = t.ledger := by simp [State.scan]

@[simp] theorem State.ledger_endClaim (d : DofferId) : (t.endClaim d).ledger = t.ledger := by simp [State.endClaim]

@[simp] theorem State.ledger_emit_freeNotices (u : State) (l : List AisleId) :
    (t.emitAll (u.freeNotices l)).ledger = t.ledger :=
  State.ledger_emitAll fun c hc => by
    obtain ⟨a, -, rfl⟩ := List.mem_map.1 hc
    rfl

@[simp] theorem State.ledger_placeClaim (d : DofferId) (f : FrameId) : (t.placeClaim d f).ledger = t.ledger := by
  simp [State.placeClaim]

theorem State.ledger_takeReservation (d : DofferId) (f : FrameId) : (t.takeReservation d f).ledger = t.ledger := by
  have kept : State.ledger { t with inFlight := t.inFlight.filter fun h => !heldNoticeOf d h } = t.ledger :=
    State.ledger_keep fun _ _ _ _ _ => rfl
  unfold State.takeReservation
  dsimp only
  split <;> simpa using kept

theorem State.ledger_aouTakeDoffer (c : Instr) : (aouTakeDoffer t c).ledger = t.ledger := by
  unfold aouTakeDoffer
  split
  · exact State.ledger_takeReservation _ _
  · simp [State.takeDofferRelease]
  · rfl

/-! ### The Line Link Unit -/

@[simp] theorem State.ledger_countMalformed : t.countMalformed.ledger = t.ledger := rfl

@[simp] theorem State.ledger_countStale : t.countStale.ledger = t.ledger := rfl

@[simp] theorem State.ledger_countDuplicate : t.countDuplicate.ledger = t.ledger := rfl

@[simp] theorem State.ledger_countStoppedFrame : t.countStoppedFrame.ledger = t.ledger := rfl

@[simp] theorem State.ledger_replyOk (seq : Nat) (data : List Byte) : (t.replyOk seq data).ledger = t.ledger :=
  State.ledger_offerUp _

@[simp] theorem State.ledger_refuse (seq : Nat) (r : Result) : (t.refuse seq r).ledger = t.ledger := State.ledger_offerUp _

@[simp] theorem State.ledger_badValue (seq n : Nat) : (t.badValue seq n).ledger = t.ledger := State.ledger_offerUp _

/-! ### The Spindle Map Unit -/

@[simp] theorem State.ledger_notices (f : FrameId) (l : List Change) : (t.notices f l).ledger = t.ledger := by
  unfold State.notices
  dsimp only
  refine State.ledger_emitAll fun c hc => ?_
  rcases List.mem_append.1 hc with broken | last
  · obtain ⟨x, -, made⟩ := List.mem_filterMap.1 broken
    split at made
    · obtain rfl := Option.some.inj made
      rfl
    · cases made
  · obtain ⟨g, -, rfl⟩ := List.mem_map.1 last
    rfl

@[simp] theorem State.ledger_change (f : FrameId) (side : Side) (i : Nat) (sp : Spindle) :
    (t.change f side i sp).ledger = t.ledger := State.ledger_notices f _

@[simp] theorem State.ledger_changeMany (f : FrameId) (upd : Side → Nat → Spindle → Spindle) :
    (t.changeMany f upd).ledger = t.ledger := State.ledger_notices f _

@[simp] theorem State.ledger_makeBroken (f : FrameId) (side : Side) (i : Nat) (sp : Spindle) :
    (t.makeBroken f side i sp).ledger = t.ledger := State.ledger_change _ _ _ _

@[simp] theorem State.ledger_makeRogue (f : FrameId) (side : Side) (i : Nat) (cause : RogueCause) (sp : Spindle) :
    (t.makeRogue f side i cause sp).ledger = t.ledger := by
  simp [State.makeRogue, State.listRogue, sendRovingStop]

@[simp] theorem State.ledger_unlistRogue (f : FrameId) (side : Side) (i : Nat) : (t.unlistRogue f side i).ledger = t.ledger :=
  rfl

@[simp] theorem State.ledger_failAttempt (f : FrameId) (side : Side) (i : Nat) : (t.failAttempt f side i).ledger = t.ledger := by
  simp [State.failAttempt]

theorem State.ledger_smuTakeFirst (c : Instr) : (smuTakeFirst t c).ledger = t.ledger := by
  unfold smuTakeFirst
  split <;> simp [State.cancelSpindles, State.doffSpindles]

@[simp] theorem State.ledger_smuReady (f : FrameId) : (t.smuReady f).ledger = t.ledger :=
  State.ledger_takeMatching (fun _ _ _ _ _ => rfl) fun c _ => State.ledger_smuTakeFirst c

theorem State.ledger_takeBreak (f : FrameId) (side : Side) (i : Nat) : (t.takeBreak f side i).ledger = t.ledger := by
  unfold State.takeBreak
  dsimp only
  split <;> simp

theorem State.ledger_takeRun (f : FrameId) (side : Side) (i : Nat) : (t.takeRun f side i).ledger = t.ledger := by
  unfold State.takeRun
  dsimp only
  split <;> simp

theorem State.ledger_spindleReport {take : State → State} (f : FrameId) (side : Side) (i : Nat)
    (h : ∀ u, (take u).ledger = u.ledger) : (t.spindleReport f side i take).ledger = t.ledger := by
  simp [State.spindleReport, h]

theorem State.ledger_takeSideState (f : FrameId) (side : Side) (first count : Nat) (bits : List Byte) :
    (t.takeSideState f side first count bits).ledger = t.ledger := by
  simp [State.takeSideState]

theorem State.ledger_smuTake (c : Instr) : (smuTake t c).ledger = t.ledger := by
  unfold smuTake
  split <;> simp [State.takePiecing, State.takeFailure, State.takeWithdraw, State.takeVerifyExpiry]

@[simp] theorem State.ledger_assignRequest (f : FrameId) (side : Side) (i : Nat) :
    (t.assignRequest f side i).2.ledger = t.ledger := by
  have asked : (t.takeMatching (pcdToSmu f) fun c u => smuTake u c).ledger = t.ledger :=
    State.ledger_takeMatching (fun _ _ _ _ _ => rfl) fun c _ => State.ledger_smuTake c
  unfold State.assignRequest
  dsimp only
  split <;> simpa using asked

theorem State.ledger_starve (f : FrameId) (g : GroupId) : (t.starve f g).ledger = t.ledger := by simp [State.starve]

@[simp] theorem State.ledger_unstarve (f : FrameId) (g : GroupId) : (t.unstarve f g).ledger = t.ledger := by
  simp [State.unstarve]

theorem State.ledger_release (f : FrameId) (side : Side) (i : Nat) : (t.release f side i).2.ledger = t.ledger := by
  unfold State.release
  dsimp only
  split <;> simp [sendRovingFree]

@[simp] theorem State.ledger_disableMap (f : FrameId) : (t.disableMap f).ledger = t.ledger := by
  simp [State.disableMap]

/-! ### The Piecing Dispatcher -/

@[simp] theorem State.ledger_removeVerify (f : FrameId) (side : Side) (i : Nat) : (t.removeVerify f side i).ledger = t.ledger :=
  rfl

@[simp] theorem State.ledger_takeSatisfied (f : FrameId) (side : Side) (i : Nat) :
    (t.takeSatisfied f side i).ledger = t.ledger := by
  unfold State.takeSatisfied
  dsimp only
  split <;> simp

theorem State.ledger_pcdTakeAbout (c : Instr) : (pcdTakeAbout t c).ledger = t.ledger := by
  unfold pcdTakeAbout
  split <;> simp

@[simp] theorem State.ledger_assign (k : RobotId) (c : Candidate) : (t.assign k c).ledger = t.ledger := by
  have told : (t.takeMatching (aboutSpindle c.frame c.side c.index) fun x u => pcdTakeAbout u x).ledger = t.ledger :=
    State.ledger_takeMatching (fun _ _ _ _ _ => rfl) fun x _ => State.ledger_pcdTakeAbout x
  simpa [State.assign, sendAssign] using told

@[simp] theorem State.ledger_grantAlong (k : RobotId) (l : List AisleId) : (t.grantAlong k l).2.ledger = t.ledger := by
  induction l generalizing t with
  | nil => rfl
  | cons a rest ih =>
    have granted := State.ledger_robotGrant (t := t.aouReady) k a
    rw [State.grantAlong]
    split
    · split <;> rename_i e <;> simpa [e, ih] using granted
    · simp [ih]

@[simp] theorem State.ledger_startMove (k : RobotId) (a : AisleId) : (t.startMove k a).ledger = t.ledger := rfl

@[simp] theorem State.ledger_aisleChoice (k : RobotId) : (t.aisleChoice k).ledger = t.ledger := by
  have granted := State.ledger_grantAlong (t := t) k
    (cycleAfter (t.patrol (t.robotZone k)) (if (t.robot k).state = .idle then (t.robot k).aisle else none))
  unfold State.aisleChoice
  dsimp only
  split <;> rename_i e <;> simpa [e, sendMove] using granted

@[simp] theorem State.ledger_inAisle (k : RobotId) (a : AisleId) (fuel : Nat) (refused : List Candidate) :
    (t.inAisle k a fuel refused).ledger = t.ledger := by
  induction fuel generalizing t refused with
  | zero => exact State.ledger_aisleChoice k
  | succ fuel ih =>
    rw [State.inAisle]
    dsimp only
    split
    · simp
    · rename_i dir c _
      have asked := State.ledger_assignRequest (t := t.modRobot k fun r => { r with sweep := dir }) c.frame c.side c.index
      split <;> rename_i e <;> simpa [e, ih] using asked

@[simp] theorem State.ledger_turn (k : RobotId) : (t.turn k).ledger = t.ledger := by
  unfold State.turn
  dsimp only
  split <;> simp

@[simp] theorem State.ledger_reevaluate (z : ZoneId) : (t.reevaluate z).ledger = t.ledger := by simp [State.reevaluate]

@[simp] theorem State.ledger_reevaluateZones (zs : List ZoneId) : (t.reevaluateZones zs).ledger = t.ledger := by
  simp [State.reevaluateZones]

@[simp] theorem State.ledger_reevaluateAisles (as : List AisleId) : (t.reevaluateAisles as).ledger = t.ledger :=
  State.ledger_reevaluateZones _

@[simp] theorem State.ledger_giveUpAisle (k : RobotId) : (t.giveUpAisle k).ledger = t.ledger := by
  unfold State.giveUpAisle
  split <;> simp

@[simp] theorem State.ledger_withdraw (k : RobotId) : (t.withdraw k).ledger = t.ledger := by
  unfold State.withdraw
  split <;> simp

@[simp] theorem State.ledger_leave (k : RobotId) (a : AisleId) : (t.leave k a).ledger = t.ledger := by
  simp [State.leave, sendLeave]

@[simp] theorem State.ledger_recall (k : RobotId) (a : AisleId) : (t.recall k a).ledger = t.ledger := by
  unfold State.recall
  dsimp only
  split <;> simp [sendAbandon]

theorem State.ledger_pcdTakeRecall (c : Instr) : (pcdTakeRecall t c).ledger = t.ledger := by
  unfold pcdTakeRecall
  split <;> simp

@[simp] theorem State.ledger_takeRecalls : t.takeRecalls.ledger = t.ledger :=
  State.ledger_takeMatching (fun _ _ _ _ _ => rfl) fun c _ => State.ledger_pcdTakeRecall c

@[simp] theorem State.ledger_abandonFrame (f : FrameId) : (t.abandonFrame f).ledger = t.ledger := by
  simp [State.abandonFrame, sendAbandon]

@[simp] theorem State.ledger_cancelFrames (fs : List FrameId) : (t.cancelFrames fs).ledger = t.ledger := by
  simp [State.cancelFrames]

@[simp] theorem State.ledger_takeCancels (fs : List FrameId) (also : FrameId → Bool) :
    (t.takeCancels fs also).ledger = t.ledger :=
  (State.ledger_cancelFrames _).trans (State.ledger_keep fun _ _ _ _ _ => rfl)

@[simp] theorem State.ledger_pcdReady : t.pcdReady.ledger = t.ledger := by simp [State.pcdReady]

@[simp] theorem State.ledger_pcdReadyFor (f : FrameId) : (t.pcdReadyFor f).ledger = t.ledger := by simp [State.pcdReadyFor]

@[simp] theorem State.ledger_pcdReadyRobot (k : RobotId) : (t.pcdReadyRobot k).ledger = t.ledger := by
  unfold State.pcdReadyRobot
  split <;> simp

theorem State.ledger_readyForNotice (c : Instr) : (State.readyForNotice c t).ledger = t.ledger := by
  unfold State.readyForNotice
  split <;> simp

theorem State.ledger_pcdTake (c : Instr) : (pcdTake t c).ledger = t.ledger := by
  unfold pcdTake
  split <;> simp [State.takeCancel, State.noteRunning]

/-- A notice that is no production item is taken, or stays in flight. -/
theorem State.ledger_takeNotice (flying : Bool) {c : Instr} (hc : isProduction c = false) :
    (t.takeNotice flying c).ledger = t.ledger := by
  unfold State.takeNotice
  dsimp only
  split
  · rfl
  · split
    · exact State.ledger_readyForNotice c
    · rw [State.ledger_pcdTake, State.ledger_drop hc, State.ledger_readyForNotice]

theorem State.ledger_takeNotices {lane : Instr → Bool} {c : Instr}
    (h : ∀ f dL r n mtex, lane (.scuDeliveryHandoff f dL r n mtex) = false) (hc : isProduction c = false) :
    (t.takeNotices lane c).ledger = t.ledger :=
  State.ledger_whenOn <| State.ledger_foldl_mem (op := fun u x => u.takeNotice (t.inFlight.contains c) x) _
    fun _ hx _ => State.ledger_takeNotice _ (isProduction_of_turn h hc hx)

@[simp] theorem State.ledger_enableApplied (f : FrameId) : (t.enableApplied f).ledger = t.ledger :=
  State.ledger_foldl_mem (op := fun u x => u.takeNotices (dcuToPcd f) x) _ fun _ hx _ =>
    State.ledger_takeNotices (fun _ _ _ _ _ => rfl) (by rw [List.eq_of_mem_replicate hx]; rfl)

@[simp] theorem State.ledger_pcdReadyForReport (f : FrameId) : (t.pcdReadyForReport f).ledger = t.ledger := by
  simp [State.pcdReadyForReport]

@[simp] theorem State.ledger_robotIsReady (k : RobotId) (a : AisleId) (p : Nat) : (t.robotIsReady k a p).ledger = t.ledger := by
  unfold State.robotIsReady
  dsimp only
  generalize placed : t.modRobot k (fun r => { r with position := p, sweep := .up }) = v
  have same : v.ledger = t.ledger := by rw [← placed, State.ledger_modRobot]
  have granted : (if (v.patrol (v.robotZone k)).contains a = true then v.robotGrant k a else (false, v)).2.ledger = t.ledger := by
    split <;> simpa using same
  split <;> rename_i w e <;> rw [e] at granted
  · simpa using granted
  · have sent := State.ledger_grantAlong (t := w) k (cycleAfter (v.patrol (v.robotZone k)) (some a))
    split <;> rename_i e' <;> rw [e'] at sent <;> simpa [sendLeave, sent] using granted

theorem State.ledger_takeRobotReady (k : RobotId) (a : AisleId) (p : Nat) : (t.takeRobotReady k a p).ledger = t.ledger := by
  unfold State.takeRobotReady
  dsimp only
  split <;> simp

theorem State.ledger_takeRobotPos (k : RobotId) (a : AisleId) (p : Nat) : (t.takeRobotPos k a p).ledger = t.ledger := by
  unfold State.takeRobotPos
  dsimp only
  split
  · split <;> simp
  · simp

@[simp] theorem State.ledger_placeVerify (f : FrameId) (side : Side) (i deadline : Nat) :
    (t.placeVerify f side i deadline).2.ledger = t.ledger := by
  unfold State.placeVerify
  split <;> rfl

@[simp] theorem State.ledger_endAssignment (k : RobotId) (f : FrameId) (side : Side) (i : Nat) :
    (t.endAssignment k f side i).ledger = t.ledger := rfl

theorem State.ledger_takePieced (k : RobotId) (f : FrameId) (side : Side) (i : Nat) :
    (t.takePieced k f side i).ledger = t.ledger := by
  unfold State.takePieced
  dsimp only
  split <;> simp

@[simp] theorem State.ledger_failPiecing (f : FrameId) (side : Side) (i : Nat) : (t.failPiecing f side i).ledger = t.ledger := by
  unfold State.failPiecing
  rw [State.ledger_takeMatching (fun _ _ _ _ _ => rfl) fun c _ => State.ledger_smuTake c]
  simp

theorem State.ledger_takeNotPieced (k : RobotId) (f : FrameId) (side : Side) (i : Nat) :
    (t.takeNotPieced k f side i).ledger = t.ledger := by
  unfold State.takeNotPieced
  dsimp only
  split <;> simp

/-- A robot that has left is sent along its patrol, or parked (R102). -/
theorem State.ledger_sentOn (k : RobotId) :
    (match t.grantAlong k (t.patrol (t.robotZone k)) with
      | (some b, u) => (sendMove k b u).startMove k b
      | (none, u) => ((sendLeave k none u).modRobot k fun r => { r with state := .parked }).reevaluate (u.robotZone k)).ledger
      = t.ledger := by
  have sent := State.ledger_grantAlong (t := t) k (t.patrol (t.robotZone k))
  split <;> rename_i e <;> simpa [e, sendMove, sendLeave] using sent

theorem State.ledger_takeRobotLeft (k : RobotId) : (t.takeRobotLeft k).ledger = t.ledger := by
  unfold State.takeRobotLeft
  dsimp only
  split
  · have left : ((t.pcdReady.modRobot k fun r => { r with deadline := none, leaveTarget := none }).giveUpAisle k).ledger
        = t.ledger := by simp
    generalize (t.pcdReady.modRobot k _).giveUpAisle k = v at left ⊢
    cases (t.pcdReady.robot k).leaveTarget with
    | none => exact (State.ledger_sentOn k).trans left
    | some b =>
      have granted := State.ledger_robotGrant (t := v) k b
      dsimp only
      generalize v.robotGrant k b = p at granted ⊢
      obtain ⟨yes, w⟩ := p
      cases yes
      · exact (State.ledger_sentOn k).trans (granted.trans left)
      · simpa using granted.trans left
  · simp

theorem State.ledger_deadlinePasses {app : State → State} (k : RobotId) (st : RobotState)
    (h : ∀ u, (app u).ledger = u.ledger) : (t.deadlinePasses k st app).ledger = t.ledger := by
  refine State.ledger_whenOn ?_
  dsimp only
  split <;> simp [h]

@[simp] theorem State.ledger_unresponsive (k : RobotId) (record : FaultRecord) (detail : Nat) :
    (t.unresponsive k record detail).ledger = t.ledger := by
  simp [State.unresponsive]

@[simp] theorem State.ledger_verifyPasses (e : VerifyEntry) : (t.verifyPasses e).ledger = t.ledger := by
  simp [State.verifyPasses]

@[simp] theorem State.ledger_disableRobot (k : RobotId) : (t.disableRobot k).ledger = t.ledger := by
  simp [State.disableRobot, sendAbandon, sendLeave]

end Sys2Proof.Machine
end

section
/-! The ledger of R179 under the Delivery Arithmetic, Speed Program, Doff Cycle, Roving Supply and Supply Supervision Units and
the Table Store. -/

namespace Sys2Proof.Machine

variable {t : State}

/-! ### The doff completion at the Delivery Arithmetic Unit -/

theorem State.ledger_dauTake (c : Instr) : (dauTake t c).ledger = t.ledger := by
  unfold dauTake
  split <;> simp [State.takeDauDoff]

@[simp] theorem State.ledger_dauReady (f : FrameId) : (t.dauReady f).ledger = t.ledger :=
  State.ledger_takeMatching (fun _ _ _ _ _ => rfl) fun c _ => State.ledger_dauTake c

/-! ### The Speed Program Unit -/

@[simp] theorem State.ledger_recordFirstFault (f : FrameId) (c : Computation) : (t.recordFirstFault f c).ledger = t.ledger := by
  unfold State.recordFirstFault
  split <;> rfl

@[simp] theorem State.ledger_offerSpeed (f : FrameId) (always : Bool) (rpm : Nat) :
    (t.offerSpeed f always rpm).ledger = t.ledger := by
  simp [State.offerSpeed, sendSpeed]

@[simp] theorem State.ledger_computeSpeed (f : FrameId) (fill : Nat) (always : Bool) :
    (t.computeSpeed f fill always).ledger = t.ledger := by
  simp [State.computeSpeed, State.raiseArith]

theorem State.ledger_spuTakeFirst (c : Instr) : (spuTakeFirst t c).ledger = t.ledger := by
  unfold spuTakeFirst
  split <;> simp [State.takeSpuDoff, State.takeResumeSpeed, sendRestart]

@[simp] theorem State.ledger_spuReady (f : FrameId) : (t.spuReady f).ledger = t.ledger :=
  (State.ledger_takeMatching (fun _ _ _ _ _ => rfl) fun c _ => State.ledger_spuTakeFirst c).trans (State.ledger_dauReady f)

theorem State.ledger_takeSpeedDelivery (f : FrameId) (dL : Nat) (fill : Option Nat) :
    (t.takeSpeedDelivery f dL fill).ledger = t.ledger := by
  unfold State.takeSpeedDelivery
  cases fill <;> simp

theorem State.ledger_spuTake (c : Instr) : (spuTake t c).ledger = t.ledger := by
  unfold spuTake
  split
  · exact State.ledger_takeSpeedDelivery _ _ _
  · rfl

theorem State.ledger_takeMonitoredBreak (f : FrameId) : (t.takeMonitoredBreak f).ledger = t.ledger := by
  simp [State.takeMonitoredBreak]

/-! ### The Doff Cycle Unit -/

@[simp] theorem State.ledger_enterFrameState (f : FrameId) (st : FrameState) : (t.enterFrameState f st).ledger = t.ledger := by
  simp [State.enterFrameState, State.noticeCancel]

@[simp] theorem State.ledger_dcuReady (f : FrameId) : (t.dcuReady f).ledger = t.ledger := State.ledger_spuReady f

@[simp] theorem State.ledger_makeIdle (d : DofferId) : (t.makeIdle d).ledger = t.ledger := rfl

@[simp] theorem State.ledger_pick (d : DofferId) : (t.pick d).ledger = t.ledger := by
  unfold State.pick
  dsimp only
  split <;> simp

@[simp] theorem State.ledger_offerFrame (f : FrameId) : (t.offerFrame f).ledger = t.ledger := by
  unfold State.offerFrame
  split <;> simp

@[simp] theorem State.ledger_leaveQueue (f : FrameId) : (t.leaveQueue f).ledger = t.ledger := rfl

@[simp] theorem State.ledger_cancelClaim (f : FrameId) : (t.cancelClaim f).ledger = t.ledger := by
  unfold State.cancelClaim
  split <;> simp [sendDoffCancel]

@[simp] theorem State.ledger_trigger (f : FrameId) : (t.trigger f).ledger = t.ledger := by
  simp [State.trigger, sendStopDoff]

@[simp] theorem State.ledger_startUp (f : FrameId) (dL : Nat) : (t.startUp f dL).ledger = t.ledger := by
  simp [State.startUp]

theorem State.ledger_dcuTake (c : Instr) : (dcuTake t c).ledger = t.ledger := by
  unfold dcuTake
  split <;> simp [State.takeDcuDelivery]

@[simp] theorem State.ledger_alarmHeld (f : FrameId) (cause : HoldCause) : (t.alarmHeld f cause).ledger = t.ledger := by
  cases cause <;> simp [State.alarmHeld]

@[simp] theorem State.ledger_enterHeld (f : FrameId) (cause : HoldCause) : (t.enterHeld f cause).ledger = t.ledger := by
  simp [State.enterHeld, sendHoldFrame]

@[simp] theorem State.ledger_startDoff (d : DofferId) (f : FrameId) : (t.startDoff d f).ledger = t.ledger := by
  simp [State.startDoff, sendDoffGo]

theorem State.ledger_takeStopped (f : FrameId) : (t.takeStopped f).ledger = t.ledger := by
  unfold State.takeStopped
  dsimp only
  split
  · split <;> simp
  · simp

theorem State.ledger_takeHeldNotice (d : DofferId) (f : FrameId) : (t.takeHeldNotice d f).ledger = t.ledger := by
  simp [State.takeHeldNotice]

@[simp] theorem State.ledger_completeFrame (f : FrameId) : (t.completeFrame f).ledger = t.ledger := by
  unfold State.completeFrame State.switchArticle
  by_cases next : (t.entry f).nextArticle = 0xFF <;> simp [next]

theorem State.ledger_takeDoffDone (d : DofferId) (f : FrameId) : (t.takeDoffDone d f).ledger = t.ledger := by
  simp [State.takeDoffDone]

@[simp] theorem State.ledger_makeFaulted (d : DofferId) : (t.makeFaulted d).ledger = t.ledger := by
  simp [State.makeFaulted]

@[simp] theorem State.ledger_returnToQueue (f : FrameId) : (t.returnToQueue f).ledger = t.ledger := by
  simp [State.returnToQueue]

theorem State.ledger_takeDofferFault (d : DofferId) : (t.takeDofferFault d).ledger = t.ledger := by
  unfold State.takeDofferFault
  dsimp only
  split <;> simp

theorem State.ledger_takeHold (f : FrameId) : (t.takeHold f).2.ledger = t.ledger := by
  unfold State.takeHold
  dsimp only
  split <;> simp

theorem State.ledger_takeResume (f : FrameId) : (t.takeResume f).2.ledger = t.ledger := by
  unfold State.takeResume
  dsimp only
  split
  · split <;> simp
  · simp

theorem State.ledger_takeDoffNow (f : FrameId) : (t.takeDoffNow f).2.ledger = t.ledger := by
  unfold State.takeDoffNow
  dsimp only
  split <;> simp

@[simp] theorem State.ledger_disableCycle (f : FrameId) : (t.disableCycle f).ledger = t.ledger := by
  simp [State.disableCycle]

@[simp] theorem State.ledger_disableDoffer (d : DofferId) : (t.disableDoffer d).ledger = t.ledger := by
  unfold State.disableDoffer
  dsimp only
  split <;> simp [sendDoffCancel]

@[simp] theorem State.ledger_writeReach (d : DofferId) (reach : BitVec 48) : (t.writeReach d reach).ledger = t.ledger := by
  unfold State.writeReach
  split <;> simp

/-! ### The Roving Supply Unit -/

@[simp] theorem State.ledger_modGroup (f : FrameId) (g : GroupId) (upd : Group → Group) :
    (t.modGroup f g upd).ledger = t.ledger := by
  unfold State.modGroup
  split <;> rfl

@[simp] theorem State.ledger_enqueue (f : FrameId) (g : GroupId) : (t.enqueue f g).ledger = t.ledger :=
  State.ledger_modGroup f g _

@[simp] theorem State.ledger_dispatch (fuel : Nat) (c : CarrierId) : (t.dispatch fuel c).ledger = t.ledger := by
  induction fuel generalizing t c with
  | zero => rfl
  | succ fuel ih =>
    rw [State.dispatch]
    split
    · rfl
    · dsimp only
      split
      · simp [sendCarrierGo]
      · split <;> simp [sendCarrierGo, ih]

@[simp] theorem State.ledger_dispatchIdle : t.dispatchIdle.ledger = t.ledger := by
  unfold State.dispatchIdle
  split <;> simp

theorem State.ledger_judgeWith {full : State → State} (h : ∀ u, (full u).ledger = u.ledger) (f : FrameId) (g : GroupId) :
    (t.judgeWith full f g).ledger = t.ledger := by
  unfold State.judgeWith
  split <;> simp [h, State.unqueue]

@[simp] theorem State.ledger_judge (f : FrameId) (g : GroupId) : (t.judge f g).ledger = t.ledger :=
  State.ledger_judgeWith (fun _ => State.ledger_alarm _ _ _ _) f g

@[simp] theorem State.ledger_judgeSilently (f : FrameId) (g : GroupId) : (t.judgeSilently f g).ledger = t.ledger :=
  State.ledger_judgeWith (fun _ => rfl) f g

@[simp] theorem State.ledger_fillPlace : t.fillPlace.ledger = t.ledger := by
  unfold State.fillPlace
  split <;> simp

@[simp] theorem State.ledger_fillPlaces (n : Nat) : (t.fillPlaces n).ledger = t.ledger := by
  induction n generalizing t with
  | zero => rfl
  | succ n ih => exact ih.trans State.ledger_fillPlace

@[simp] theorem State.ledger_lowerGroup (f : FrameId) (dR : Nat) (g : GroupId) : (State.lowerGroup f dR t g).ledger = t.ledger := by
  unfold State.lowerGroup
  split <;> simp

theorem State.ledger_rsuTake (c : Instr) : (rsuTake t c).ledger = t.ledger := by
  unfold rsuTake
  split <;> simp [State.takeRoving]

@[simp] theorem State.ledger_startChange (c : CarrierId) (f : FrameId) (g : GroupId) : (t.startChange c f g).ledger = t.ledger := by
  simp [State.startChange, sendChangeGo]

@[simp] theorem State.ledger_takeLastAssigned (f : FrameId) (g : GroupId) : (t.takeLastAssigned f g).ledger = t.ledger := by
  unfold State.takeLastAssigned
  split <;> simp

theorem State.ledger_rsuTakeNotice (c : Instr) : (rsuTakeNotice t c).ledger = t.ledger := by
  unfold rsuTakeNotice
  split <;> simp

theorem State.ledger_takeArrived (c : CarrierId) (f : FrameId) (g : GroupId) : (t.takeArrived c f g).ledger = t.ledger := by
  have told : (t.takeMatching (lastAssignedOf f g) fun x u => rsuTakeNotice u x).ledger = t.ledger :=
    State.ledger_takeMatching (fun _ _ _ _ _ => rfl) fun x _ => State.ledger_rsuTakeNotice x
  simp [State.takeArrived, told]

@[simp] theorem State.ledger_refill (f : FrameId) (g : GroupId) (length : Nat) : (t.refill f g length).ledger = t.ledger := by
  simp [State.refill]

theorem State.ledger_takeChangeDone (c : CarrierId) (f : FrameId) (g : GroupId) :
    (t.takeChangeDone c f g).ledger = t.ledger := by
  simp [State.takeChangeDone]

@[simp] theorem State.ledger_leaveTrip (c : CarrierId) (st : CarrierState) (f : FrameId) (g : GroupId) :
    (t.leaveTrip c st f g).ledger = t.ledger := by
  simp [State.leaveTrip]

theorem State.ledger_takeCarrierFault (c : CarrierId) : (t.takeCarrierFault c).ledger = t.ledger := by
  unfold State.takeCarrierFault
  dsimp only
  split <;> simp [State.failTrip]

theorem State.ledger_tripExpires (c : CarrierId) (st : CarrierState) (detail : Nat) :
    (t.tripExpires c st detail).ledger = t.ledger := by
  refine State.ledger_whenOn ?_
  dsimp only
  split <;> simp [State.failTrip, sendCarrierAbort]

@[simp] theorem State.ledger_abortTrip (f : FrameId) (g : GroupId) : (t.abortTrip f g).ledger = t.ledger := by
  unfold State.abortTrip
  split
  · split <;> simp [sendCarrierAbort]
  · rfl

theorem State.ledger_takeGroupLoaded (f : FrameId) (g : GroupId) (length : Nat) :
    (t.takeGroupLoaded f g length).2.ledger = t.ledger := by
  unfold State.takeGroupLoaded
  split <;> simp [State.leaveSet]

/-- The groups of a frame are replaced. -/
@[simp] theorem State.ledger_setGroups (groups : Tab 48 (Tab 32 (Option Group))) :
    State.ledger { t with rsu := { t.rsu with groups } } = t.ledger := (rfl)

@[simp] theorem State.ledger_enableGroups (f : FrameId) : (t.enableGroups f).ledger = t.ledger := by
  simp [State.enableGroups]

@[simp] theorem State.ledger_disableGroups (f : FrameId) : (t.disableGroups f).ledger = t.ledger := by
  have aborted : ((List.finRange 32).foldl (fun u g => u.abortTrip f g)
      (t.setSet (t.rsu.set.filter fun e => e.frame != f))).ledger = t.ledger := by simp
  unfold State.disableGroups
  dsimp only
  rw [State.ledger_fillPlaces, State.ledger_setGroups, aborted]

@[simp] theorem State.ledger_disableCarrier (c : CarrierId) : (t.disableCarrier c).ledger = t.ledger := by
  unfold State.disableCarrier
  dsimp only
  split <;> simp [sendCarrierAbort]

/-! ### The crossings of the Supply Supervision Unit -/

@[simp] theorem State.ledger_warn : t.warn.ledger = t.ledger := by simp [State.warn]

@[simp] theorem State.ledger_settleSupply : t.settleSupply.ledger = t.ledger := by
  have fall : t.takeFall.ledger = t.ledger := by
    unfold State.takeFall
    split <;> simp [State.startSnapshot]
  unfold State.settleSupply
  split
  · simp [fall]
  · simp [State.takeRise]

theorem State.ledger_supplyAt (mv : Nat) : (t.supplyAt mv).ledger = t.ledger :=
  State.ledger_whenOn (t := { t with supply := mv }) State.ledger_settleSupply

/-! ### Reads and requests -/

@[simp] theorem State.ledger_replyDrawing (seq n : Nat) (data : List Byte → List Byte) :
    (t.replyDrawing seq n data).ledger = t.ledger := State.ledger_replyOk _ _

theorem State.ledger_readTable (seq table index : Nat) : (t.readTable seq table index).ledger = t.ledger := by
  unfold State.readTable
  split
  · simp
  · split <;> simp

theorem State.ledger_readState (seq cls index : Nat) : (t.readState seq cls index).ledger = t.ledger := by
  unfold State.readState
  dsimp only
  split
  case h_7 => simp
  all_goals split <;> simp

theorem State.ledger_readMap (seq frame side first count : Nat) : (t.readMap seq frame side first count).ledger = t.ledger := by
  unfold State.readMap
  dsimp only
  generalize (if side < 0x80 then 64 else 19) = most
  simp

theorem State.ledger_readList (seq list first count : Nat) : (t.readList seq list first count).ledger = t.ledger := by
  simp [State.readList]

theorem State.ledger_answer {p : Result × State} (h : p.2.ledger = t.ledger) (seq : Nat) :
    (State.answer seq p).ledger = t.ledger := (State.ledger_offerUp _).trans h

theorem State.ledger_releaseSpindle (seq frame side index : Nat) :
    (t.releaseSpindle seq frame side index).ledger = t.ledger := by
  have released := State.ledger_answer (State.ledger_release (t := t) (frameAt frame) (sideAt side) index) seq
  simp [State.releaseSpindle, released]

theorem State.ledger_readCounts (seq frame record clear : Nat) : (t.readCounts seq frame record clear).ledger = t.ledger := by
  simp [State.readCounts]

theorem State.ledger_frameCmd {k : FrameId → State → State} (seq frame command : Nat)
    (h : ∀ f u, (k f u).ledger = u.ledger) : (t.frameCmd seq frame command k).ledger = t.ledger := by
  simp [State.frameCmd, h]

end Sys2Proof.Machine
end

section
/-! The ledger of R179 under the commands: most leave it as it is. -/

namespace Sys2Proof.Machine

variable {s t : State} {c : Instr}

/-- The rows by which the SCU takes an item (R174). -/
def takesItem : Instr → Bool
  | .scuDeliveryHandoff .. | .scuBreak _ | .scuRovingEndBreak _ | .scuRogueEvent _ | .scuSuccessfulPiecing _
  | .scuFailedPiecing _ | .scuDoff _ | .scuStoppedSecond _ | .scuDoffWaitSecond _ => true
  | _ => false

/-- The commands that leave the ledger: all but the DELIVERY, the items of the SCU, SHIFT-CLOSE, the writes, the snapshot and the
resets. -/
def keepsLedger : Instr → Bool
  | .delivery .. | .shiftClose .. | .snapshotRead | .vretLoss | .lineReset _ | .pinReset _ | .supplyFail _
  | .supplyResetExit .. | .rstnRises _ => false
  | c => !writesTable c && !takesItem c

/-! ### Telegrams, reports and timers -/

theorem State.ledger_hears {k : State → State} (h : (k t).ledger = t.ledger) : (t.hears k).ledger = t.ledger := by
  refine State.ledger_whenOn ?_
  split
  · rfl
  · exact h

theorem State.ledger_malformed (port : Port) (bytes : List Byte) : (s.after (execMalformed port bytes s)).ledger = s.ledger := by
  refine State.ledger_hears ?_
  split
  · rfl
  · split <;> simp [State.discardMalformed]

theorem State.ledger_unknownNode (port : Port) (bytes : List Byte) :
    (s.after (execUnknownNode port bytes s)).ledger = s.ledger := by
  have counted : s.countUnknownNode.ledger = s.ledger := rfl
  refine State.ledger_hears ?_
  split
  · rfl
  · split <;> simp [counted]

theorem State.ledger_floorMaintenance (bytes : List Byte) : (s.after (execFloorMaintenance bytes s)).ledger = s.ledger := by
  have counted : s.countUnknownNode.ledger = s.ledger := rfl
  refine State.ledger_hears ?_
  split <;> simp [State.copyTelegram, counted]

theorem State.ledger_downTelegram (bytes : List Byte) : (s.after (execDownTelegram bytes s)).ledger = s.ledger := by
  have counted : s.countUnknownNode.ledger = s.ledger := rfl
  refine State.ledger_hears ?_
  split <;> simp [State.relayDown, counted]

theorem State.ledger_transmitComplete (port : Port) : (s.after (execTransmitComplete port s)).ledger = s.ledger := by
  have sent : ∀ u : State, u.replySent.ledger = u.ledger := fun u => by
    unfold State.replySent
    split <;> rfl
  unfold execTransmitComplete State.after
  refine State.ledger_whenOn ?_
  cases port <;> simp [sent]

theorem State.ledger_dofferReady (node seq : Nat) : (s.after (execDofferReady node seq s)).ledger = s.ledger := by
  unfold execDofferReady State.after
  refine State.ledger_report fun u => ?_
  split <;> simp

theorem State.ledger_carrierReady (node seq load : Nat) : (s.after (execCarrierReady node seq load s)).ledger = s.ledger := by
  unfold execCarrierReady State.after
  refine State.ledger_report fun u => ?_
  split <;> simp

theorem State.ledger_stopTimerExpiry (f : FrameId) : (s.after (execStopTimerExpiry f s)).ledger = s.ledger := by
  unfold execStopTimerExpiry State.after
  refine State.ledger_whenOn ?_
  dsimp only
  split <;> simp

theorem State.ledger_doffTimerExpiry (d : DofferId) : (s.after (execDoffTimerExpiry d s)).ledger = s.ledger := by
  unfold execDoffTimerExpiry State.after
  refine State.ledger_whenOn ?_
  dsimp only
  split <;> simp [sendDoffCancel]

theorem State.ledger_verifyDeadlineExpiry : (s.after (execVerifyDeadlineExpiry s)).ledger = s.ledger := by
  unfold execVerifyDeadlineExpiry State.after
  refine State.ledger_whenOn ?_
  split <;> simp

/-- The items of a seconds tick are of stopped time (R138). -/
theorem State.ledger_secondsTick : (s.after (execSecondsTick s)).ledger = s.ledger := by
  unfold execSecondsTick State.after
  refine State.ledger_whenOn ?_
  dsimp only
  rw [State.ledger_emitAll]
  · rfl
  · intro c hc
    obtain ⟨f, -, made⟩ := List.mem_flatMap.1 hc
    split at made
    · rcases List.mem_append.1 made with stopped | waits
      · split at stopped <;> simp_all [isProduction]
      · split at waits <;> simp_all [isProduction]
    · cases made

theorem State.ledger_groupLoaded (seq frame group length : Nat) :
    (s.after (execGroupLoaded seq frame group length s)).ledger = s.ledger :=
  State.ledger_management fun _ => State.ledger_frameCmd _ _ _ fun f u => by
    split
    · simp
    · split
      · simp
      · exact State.ledger_answer (State.ledger_takeGroupLoaded _ _ _) _

theorem State.ledger_flagsRead (seq clear : Nat) : (s.after (execFlagsRead seq clear s)).ledger = s.ledger :=
  State.ledger_management fun u => by simp

theorem State.ledger_partReset (seq : Nat) : (s.after (execPartReset seq s)).ledger = s.ledger :=
  State.ledger_management fun _ => State.ledger_replyOk _ _

/-! ### All of them -/

theorem State.ledger_exec (hc : keepsLedger c = true) : (s.after (exec c s)).ledger = s.ledger := by
  have next : ∀ {c : Instr} {t : State}, exec c s = .next t → t.ledger = s.ledger → (s.after (exec c s)).ledger = s.ledger :=
    fun e kept => by rw [e]; exact kept
  cases c with
  | checkError port bytes => exact State.ledger_hears (by split <;> rfl)
  | malformed port bytes => exact State.ledger_malformed port bytes
  | unknownNode port bytes => exact State.ledger_unknownNode port bytes
  | floorMaintenance bytes => exact State.ledger_floorMaintenance bytes
  | downTelegram bytes => exact State.ledger_downTelegram bytes
  | transmitComplete port => exact State.ledger_transmitComplete port
  | breakReport => exact next rfl (State.ledger_report fun _ => State.ledger_spindleReport _ _ _ fun _ =>
      State.ledger_takeBreak _ _ _)
  | runReport => exact next rfl (State.ledger_report fun _ => State.ledger_spindleReport _ _ _ fun _ => State.ledger_takeRun _ _ _)
  | sideState => exact next rfl (State.ledger_report fun _ => State.ledger_takeSideState _ _ _ _ _)
  | stopped => exact next rfl (State.ledger_report fun _ => State.ledger_takeStopped _)
  | robotReady => exact next rfl (State.ledger_report fun _ => State.ledger_takeRobotReady _ _ _)
  | robotPos => exact next rfl (State.ledger_report fun _ => State.ledger_takeRobotPos _ _ _)
  | pieced => exact next rfl (State.ledger_report fun _ => State.ledger_takePieced _ _ _ _)
  | notPieced => exact next rfl (State.ledger_report fun _ => State.ledger_takeNotPieced _ _ _ _)
  | robotLeft => exact next rfl (State.ledger_report fun _ => State.ledger_takeRobotLeft _)
  | dofferReady node seq => exact State.ledger_dofferReady node seq
  | doffDone => exact next rfl (State.ledger_report fun _ => State.ledger_takeDoffDone _ _)
  | dofferFault => exact next rfl (State.ledger_report fun _ => State.ledger_takeDofferFault _)
  | carrierReady node seq load => exact State.ledger_carrierReady node seq load
  | arrived => exact next rfl (State.ledger_report fun _ => State.ledger_takeArrived _ _ _)
  | changeDone => exact next rfl (State.ledger_report fun _ => State.ledger_takeChangeDone _ _ _)
  | carrierFault => exact next rfl (State.ledger_report fun _ => State.ledger_takeCarrierFault _)
  | tableRead => exact next rfl (State.ledger_management fun _ => State.ledger_readTable _ _ _)
  | stateRead => exact next rfl (State.ledger_management fun _ => State.ledger_readState _ _ _)
  | mapRead => exact next rfl (State.ledger_management fun _ => State.ledger_readMap _ _ _ _ _)
  | listRead => exact next rfl (State.ledger_management fun _ => State.ledger_readList _ _ _ _)
  | releaseSpindle => exact next rfl (State.ledger_management fun _ => State.ledger_releaseSpindle _ _ _ _)
  | countsRead => exact next rfl (State.ledger_management fun _ => State.ledger_readCounts _ _ _ _)
  | hold => exact next rfl (State.ledger_management fun _ => State.ledger_frameCmd _ _ _ fun _ _ =>
      State.ledger_answer (State.ledger_takeHold _) _)
  | resume => exact next rfl (State.ledger_management fun _ => State.ledger_frameCmd _ _ _ fun _ _ =>
      State.ledger_answer (State.ledger_takeResume _) _)
  | doffNow => exact next rfl (State.ledger_management fun _ => State.ledger_frameCmd _ _ _ fun _ _ =>
      State.ledger_answer (State.ledger_takeDoffNow _) _)
  | groupLoaded seq frame group length => exact State.ledger_groupLoaded seq frame group length
  | flagsRead seq clear => exact State.ledger_flagsRead seq clear
  | partReset seq => exact State.ledger_partReset seq
  | supplyFall mv => exact next rfl (State.ledger_supplyAt mv)
  | supplyRise mv => exact next rfl (State.ledger_supplyAt mv)
  | secondsTick => exact State.ledger_secondsTick
  | piecingDeadlineExpiry k => exact next rfl (State.ledger_deadlinePasses k _ fun u => by simp)
  | moveDeadlineExpiry k => exact next rfl (State.ledger_deadlinePasses k _ fun u => by simp)
  | leavingDeadlineExpiry k => exact next rfl (State.ledger_deadlinePasses k _ fun u => by simp)
  | verifyDeadlineExpiry => exact State.ledger_verifyDeadlineExpiry
  | stopTimerExpiry f => exact State.ledger_stopTimerExpiry f
  | doffTimerExpiry d => exact State.ledger_doffTimerExpiry d
  | travelTimerExpiry c => exact next rfl (State.ledger_tripExpires c _ _)
  | changeTimerExpiry c => exact next rfl (State.ledger_tripExpires c _ _)
  | dcuDeliveryHandoff => exact next rfl (State.ledger_handoffInOrder (fun _ _ _ _ _ => rfl) rfl fun c _ => State.ledger_dcuTake c)
  | spuDeliveryHandoff => exact next rfl (State.ledger_handoffInOrder (fun _ _ _ _ _ => rfl) rfl fun c _ => State.ledger_spuTake c)
  | rsuRovingHandoff => exact next rfl (State.ledger_handoffInOrder (fun _ _ _ _ _ => rfl) rfl fun c _ => State.ledger_rsuTake c)
  | verifyExpiry | piecingRequest | failureRequest | withdrawRequest =>
    exact next rfl (State.ledger_handoffInOrder (fun _ _ _ _ _ => rfl) rfl fun c _ => State.ledger_smuTake c)
  | smuPiecingCancel | spindleDoffCompletion =>
    exact next rfl (State.ledger_handoffInOrder (fun _ _ _ _ _ => rfl) rfl fun c _ => State.ledger_smuTakeFirst c)
  | starveGroup f g => exact next rfl (State.ledger_handoff rfl fun _ => State.ledger_starve f g)
  | pcdPiecingCancel | verifyEntryRemove | satisfiedNotice | brokenNotice | frameRunningNotice | groupReevaluation
  | freeAisleNotice => exact next rfl (State.ledger_takeNotices (fun _ _ _ _ _ => rfl) rfl)
  | robotRelease => exact next rfl (State.ledger_handoffInOrder (fun _ _ _ _ _ => rfl) rfl fun c _ => State.ledger_aouTakeRobot c)
  | lastAssignedNotice f g => exact next rfl (State.ledger_handoff rfl fun _ => State.ledger_takeLastAssigned f g)
  | robotRecall => exact next rfl (State.ledger_handoffInOrder (fun _ _ _ _ _ => rfl) rfl fun c _ => State.ledger_pcdTakeRecall c)
  | dofferReservation | dofferRelease =>
    exact next rfl (State.ledger_handoffInOrder (fun _ _ _ _ _ => rfl) rfl fun c _ => State.ledger_aouTakeDoffer c)
  | aislesHeldNotice d f => exact next rfl (State.ledger_handoff rfl fun _ => State.ledger_takeHeldNotice d f)
  | dauDoffCompletion => exact next rfl (State.ledger_handoffInOrder (fun _ _ _ _ _ => rfl) rfl fun c _ => State.ledger_dauTake c)
  | spuDoffCompletion f switched =>
    exact next rfl <| State.ledger_whenOn <| (State.ledger_takeInOrder (fun _ _ _ _ _ => rfl) rfl fun c _ =>
      State.ledger_spuTakeFirst c).trans (State.ledger_dauReady f)
  | spuResumeRequest =>
    exact next rfl (State.ledger_handoffInOrder (fun _ _ _ _ _ => rfl) rfl fun c _ => State.ledger_spuTakeFirst c)
  | monitoredBreak f => exact next rfl (State.ledger_handoff rfl fun _ => State.ledger_takeMonitoredBreak f)
  | _ => cases hc

end Sys2Proof.Machine
end

section
/-! Produced never exceeds possible (R179): the operations that make a production item, count, close, copy, restore or discard
keep the ledger lawful, and so does every step. -/

namespace Sys2Proof.Machine

variable {s t u : State} {c : Instr}

/-- Produced does not exceed possible in any record or image, and no production item would break that (R179). -/
structure Ledger.Lawful (l : Ledger) : Prop where
  current : ∀ f, (l.current.get f).lawful
  closed : ∀ f, (l.closed.get f).counts.lawful
  images : ∀ f, (l.images.get f).counts.lawful
  items : ∀ c ∈ l.items, lawfulItem c
  waiting : ∀ c ∈ l.waiting, lawfulItem c

theorem lawfulItem_of_not_production (h : isProduction c = false) : lawfulItem c := by
  cases c with
  | scuDeliveryHandoff => cases h
  | _ => trivial

theorem State.items_lawful_iff : (∀ c ∈ t.ledger.items, lawfulItem c) ↔ ∀ c ∈ t.inFlight, lawfulItem c := by
  refine ⟨fun h c hc => ?_, fun h c hc => h c (List.mem_filter.1 hc).1⟩
  cases production : isProduction c
  · exact lawfulItem_of_not_production production
  · exact h c (List.mem_filter.2 ⟨hc, production⟩)

/-- The law of R179 is that of the ledger, with the maps counted. -/
theorem State.productionLawful_iff : s.productionLawful ↔ s.mapsCounted ∧ s.ledger.Lawful := by
  have current : (∀ f, (s.ledger.current.get f).lawful) ↔ ∀ f, (s.count f).counts.lawful :=
    forall_congr' fun f => by rw [State.ledger, Tab.get_map]; rfl
  constructor
  · rintro ⟨maps, records, closed, images, items, waiting⟩
    exact ⟨maps, current.2 records, closed, images, State.items_lawful_iff.2 items, waiting⟩
  · rintro ⟨maps, records, closed, images, items, waiting⟩
    exact ⟨maps, current.1 records, closed, images, State.items_lawful_iff.1 items, waiting⟩

theorem Ledger.Lawful.inFlight (h : t.ledger.Lawful) : ∀ c ∈ t.inFlight, lawfulItem c := State.items_lawful_iff.1 h.items

theorem Ledger.Lawful.count (h : t.ledger.Lawful) (f : FrameId) : (t.count f).counts.lawful := by
  have := h.current f
  rwa [State.ledger, Tab.get_map] at this

theorem Ledger.Lawful.of_eq (h : t.ledger.Lawful) (e : u.ledger = t.ledger) : u.ledger.Lawful := e ▸ h

/-- Lawful hand-offs may be made, and any may be taken or discarded. -/
theorem Ledger.Lawful.fly (h : t.ledger.Lawful) {l : List Instr} (hl : ∀ c ∈ l, lawfulItem c) :
    (State.ledger { t with inFlight := l }).Lawful :=
  ⟨h.current, h.closed, h.images, State.items_lawful_iff.2 hl, h.waiting⟩

theorem Ledger.Lawful.drop (h : t.ledger.Lawful) (c : Instr) : (t.drop c).ledger.Lawful :=
  h.fly fun x hx => h.inFlight x (List.mem_of_mem_erase hx)

theorem Ledger.Lawful.filter (h : t.ledger.Lawful) (p : Instr → Bool) :
    (State.ledger { t with inFlight := t.inFlight.filter p }).Lawful :=
  h.fly fun x hx => h.inFlight x (List.mem_filter.1 hx).1

/-! ### A DELIVERY makes a lawful item (R46) -/

/-- No more spindles run than stand on a counted map (R55). -/
theorem FrameMap.counted.running_le {m : FrameMap} (h : m.counted) : m.running ≤ m.populated := by
  have a : runningIn m.sideA ≤ m.sideA.length := List.countP_le_length
  have b : runningIn m.sideB ≤ m.sideB.length := List.countP_le_length
  rw [h.1, h.2]
  omega

theorem Ledger.Lawful.deliver (h : t.ledger.Lawful) (f : FrameId) (pulse : Nat) (counted : (t.map f).counted) :
    (t.deliver f pulse).ledger.Lawful := by
  have emitted : ∀ (r : Delivery) (a b : Instr) (dL mtex : Nat), lawfulItem a → lawfulItem b →
      ((t.setDelivery f r).emitAll
        [a, b, .scuDeliveryHandoff f dL (t.map f).running (t.map f).populated mtex]).ledger.Lawful := by
    intro r a b dL mtex ha hb
    refine (h.of_eq (State.ledger_setDelivery f r)).fly fun c hc => ?_
    rcases List.mem_append.1 hc with old | new
    · exact h.inFlight c old
    · simp only [List.mem_cons, List.not_mem_nil, or_false] at new
      rcases new with rfl | rfl | rfl
      · exact ha
      · exact hb
      · exact counted.running_le
  unfold State.deliver
  dsimp only
  split
  · exact h
  · split
    · exact h
    · split
      · exact (emitted _ _ _ _ _ (by trivial) (by trivial)).of_eq (State.ledger_emit fun _ _ _ _ _ => nofun)
      · exact emitted _ _ _ _ _ (by trivial) (by trivial)

/-! ### The Shift Count Unit (R46, R174, R177) -/

theorem raise_le_raise {bits n d n' d' : Nat} (hn : n ≤ n') (hd : d ≤ d') : raise bits n d ≤ raise bits n' d' := by
  unfold raise
  omega

/-- Raised by no more spindles than possible is, and pegged at the same value, produced stays within possible. -/
theorem CountRecord.deliver_lawful {r : CountRecord} (h : r.counts.lawful) {n p : Nat} (hn : n ≤ p) (dL mtex : Nat) :
    (r.deliver dL n p mtex).counts.lawful := raise_le_raise h (Nat.mul_le_mul_left dL hn)

/-- An event raises neither produced nor possible (R174). -/
theorem CountRecord.count_lawful {r : CountRecord} (h : r.counts.lawful) (e : Event) : (r.count e).counts.lawful := by
  cases e <;> exact h

theorem Ledger.Lawful.setCount (h : t.ledger.Lawful) (f : FrameId) {r : CountRecord} (hr : r.counts.lawful) :
    (t.setCount f r).ledger.Lawful := by
  refine ⟨fun g => ?_, h.closed, h.images, h.items, h.waiting⟩
  rw [State.ledger, Tab.get_map]
  by_cases same : f = g
  · subst same
    simpa using hr
  · simpa [Tab.get_set_ne _ same, State.count] using h.count g

theorem Ledger.Lawful.scuTake (h : t.ledger.Lawful) (hc : lawfulItem c) : (scuTake t c).ledger.Lawful := by
  unfold Machine.scuTake
  split
  case h_1 =>
    unfold State.takeCountDelivery
    split
    · exact h.setCount _ (CountRecord.deliver_lawful (h.count _) hc _ _)
    · exact h
  case h_10 => exact h
  all_goals exact h.setCount _ (CountRecord.count_lawful (h.count _) _)

theorem Ledger.Lawful.foldl {α : Type} {op : State → α → State} (h : t.ledger.Lawful) (l : List α)
    (hop : ∀ a ∈ l, ∀ u : State, u.ledger.Lawful → (op u a).ledger.Lawful) : (l.foldl op t).ledger.Lawful := by
  induction l generalizing t with
  | nil => exact h
  | cons a rest ih => exact ih (hop a List.mem_cons_self t h) fun b hb => hop b (List.mem_cons_of_mem _ hb)

/-- The SCU takes an item, and those of its channel made before it, which are in flight and so are lawful. -/
theorem Ledger.Lawful.takeItem (h : t.ledger.Lawful) (hc : lawfulItem c) (lane : Instr → Bool) :
    (t.handoffInOrder lane (fun c u => Machine.scuTake u c) c).ledger.Lawful := by
  have lawful : ∀ x ∈ t.ahead lane c ++ [c], lawfulItem x := fun x hx => by
    rcases List.mem_append.1 hx with ahead | last
    · unfold State.ahead at ahead
      split at ahead
      · exact h.inFlight x (List.takeWhile_subset _ (List.mem_filter.1 ahead).1)
      · cases ahead
    · rwa [List.mem_singleton.1 last]
  unfold State.handoffInOrder State.whenOn
  split
  · exact (h.foldl (op := fun u x => u.drop x) _ fun x _ _ k => k.drop x).foldl (op := fun u x => Machine.scuTake u x) _
      fun x hx _ k => k.scuTake (lawful x hx)
  · exact h

theorem Ledger.Lawful.exec_item (h : s.ledger.Lawful) (item : takesItem c = true) (hc : lawfulItem c) :
    (s.after (exec c s)).ledger.Lawful := by
  cases c with
  | scuDeliveryHandoff | scuBreak | scuRovingEndBreak | scuRogueEvent | scuSuccessfulPiecing | scuFailedPiecing | scuDoff
  | scuStoppedSecond | scuDoffWaitSecond => exact h.takeItem hc _
  | _ => cases item

/-- A close makes closed records of the current ones and begins them anew (R177). -/
theorem Ledger.Lawful.closeShift (h : t.ledger.Lawful) (n : Nat) : (t.closeShift n).ledger.Lawful := by
  refine ⟨fun f => ?_, fun f => ?_, h.images, h.items, h.waiting⟩
  · simp [State.ledger, State.closeShift, CountRecord.fresh, Counts.lawful, Counts.zero]
  · simpa [State.ledger, State.closeShift, CountRecord.close, State.count] using h.count f

theorem Ledger.Lawful.exec_shiftClose (h : s.ledger.Lawful) (seq shift : Nat) :
    (s.after (exec (.shiftClose seq shift) s)).ledger.Lawful := by
  show (s.management _).ledger.Lawful
  rcases s.management_cases _ with e | e <;> rw [e]
  · exact h
  · split
    · exact h.of_eq (State.ledger_refuse _ _)
    · exact (h.closeShift shift).of_eq (State.ledger_replyOk _ _)

/-! ### The images (R184, R187) -/

theorem Ledger.Lawful.copyImage (h : t.ledger.Lawful) (f : FrameId) : (t.copyImage f).ledger.Lawful := by
  refine ⟨h.current, h.closed, fun g => ?_, h.items, h.waiting⟩
  show (((t.retention.images.set f _).get g).counts).lawful
  rw [Tab.get_set]
  split
  · exact h.count f
  · exact h.images g

theorem Ledger.Lawful.exec_snapshotRead (h : s.ledger.Lawful) : (s.after (exec .snapshotRead s)).ledger.Lawful := by
  have copied : s.copyFrame.ledger = (s.copyImage s.ssu.nextFrame).ledger := by
    unfold State.copyFrame
    dsimp only
    split <;> simp
  show (s.whenOn _).ledger.Lawful
  unfold State.whenOn
  split
  · split
    · exact (h.copyImage _).of_eq copied
    · exact h
  · exact h

theorem Counts.zero_lawful : Counts.zero.lawful := Nat.le_refl 0

theorem Ledger.Lawful.exec_vretLoss (h : s.ledger.Lawful) : (s.after (exec .vretLoss s)).ledger.Lawful :=
  ⟨h.current, h.closed, fun f => by
    show ((Tab.fill 48 Image.empty).get f).counts.lawful
    rw [Tab.get_fill]
    exact Counts.zero_lawful, h.items, h.waiting⟩

/-- The reset values leave the images and the commands that wait (R186). -/
theorem Ledger.Lawful.blank (h : t.ledger.Lawful) (line : Fin 32) (r : Retention) (power : Power) (low : Bool) (mv uses : Nat)
    (images : r.images = t.retention.images) : (State.blank line r power low mv uses t.pending).ledger.Lawful := by
  refine ⟨fun f => ?_, fun f => ?_, fun f => ?_, nofun, h.waiting⟩
  · simp [State.ledger, State.blank, CountRecord.lostRecord, Counts.zero_lawful]
  · simp [State.ledger, State.blank, ClosedRecord.initial, Counts.zero_lawful]
  · show (r.images.get f).counts.lawful
    rw [images]
    exact h.images f

/-- The current records are restored from the images, or lost (R171, R187). -/
theorem Ledger.Lawful.restore (h : t.ledger.Lawful) (dip : Bool) : (t.restore dip).ledger.Lawful := by
  unfold State.restore
  split
  · refine ⟨fun f => ?_, h.closed, h.images, h.items, h.waiting⟩
    simpa [State.ledger, Image.restore] using h.images f
  · refine ⟨fun f => ?_, h.closed, h.images, h.items, h.waiting⟩
    simp [State.ledger, CountRecord.lostRecord, Counts.zero_lawful]

theorem State.ledger_announce (outcome : Nat) : (t.announce outcome).ledger = t.ledger := by
  simp [State.announce, sendStateRequest]

theorem Ledger.Lawful.finishSupplyReset (h : t.ledger.Lawful) (dip : Bool) (pins : Fin 32) :
    (t.finishSupplyReset dip pins).ledger.Lawful :=
  ((h.blank pins t.retention .on false t.supply t.freeUses rfl).restore dip).of_eq
    (State.ledger_settleSupply.trans (State.ledger_announce _))

theorem Ledger.Lawful.exec_supplyFail (h : s.ledger.Lawful) (mv : Nat) : (s.after (exec (.supplyFail mv) s)).ledger.Lawful := by
  show (if mv < Config.failLevel then (s.supplyAt mv).loseVolatile else s).ledger.Lawful
  split
  · exact (h.of_eq (State.ledger_supplyAt mv)).blank _ _ _ _ _ _ rfl
  · exact h

theorem Ledger.Lawful.exec_supplyResetExit (h : s.ledger.Lawful) (mv : Nat) (pins : Fin 32) :
    (s.after (exec (.supplyResetExit mv pins) s)).ledger.Lawful := by
  have classed : (State.ledger { s with supply := mv, retention := s.retention.classed s.retention.intact }).Lawful :=
    ⟨h.current, h.closed, fun f => by
      show (((s.retention.classed _).images.get f).counts).lawful
      rw [Retention.classed_images]
      exact h.images f, h.items, h.waiting⟩
  unfold exec execSupplyResetExit State.after
  dsimp only
  split
  · split
    · exact classed
    · exact classed.finishSupplyReset _ _
  · exact h

theorem Ledger.Lawful.exec_rstnRises (h : s.ledger.Lawful) (pins : Fin 32) :
    (s.after (exec (.rstnRises pins) s)).ledger.Lawful := by
  have risen : (State.ledger { s with rstnLow := false }).Lawful := h
  unfold exec execRstnRises State.after
  dsimp only
  split
  · exact risen.finishSupplyReset _ _
  all_goals exact risen

/-! ### The line reset (R188) -/

/-- A hand-off is an item of the SCU, or its taking leaves the ledger. -/
theorem keepsLedger_of_isHandOff (h : isHandOff c = true) (item : takesItem c = false) : keepsLedger c = true := by
  cases c <;> simp_all [keepsLedger, writesTable, isHandOff, takesItem]

theorem Ledger.Lawful.receive (h : t.ledger.Lawful) (hc : lawfulItem c) : (t.receive c).ledger.Lawful := by
  cases handOff : isHandOff c
  · rw [State.receive_other handOff]
    exact h.drop c
  · rw [State.receive_handOff handOff]
    cases item : takesItem c
    · exact h.of_eq (State.ledger_exec (keepsLedger_of_isHandOff handOff item))
    · exact h.exec_item item hc

theorem Ledger.Lawful.drain (h : t.ledger.Lawful) (fuel : Nat) : (t.drain fuel).ledger.Lawful := by
  induction fuel generalizing t with
  | zero => exact h
  | succ fuel ih =>
    rw [State.drain]
    split
    · exact h
    · rename_i c rest flying
      exact ih (h.receive (h.inFlight c (flying ▸ List.mem_cons_self)))

theorem Ledger.Lawful.lineReset (h : t.ledger.Lawful) (cause : ResetCause) (pins : Fin 32) :
    (t.lineReset cause pins).ledger.Lawful := by
  have settled : t.beginReset.settleHandoffs.ledger.Lawful := Ledger.Lawful.drain (t := t.beginReset) h _
  have applied : (t.beginReset.settleHandoffs.applyLineReset cause pins).ledger.Lawful := settled
  refine applied.of_eq ?_
  have held : ∀ u : State, u.offerHeld.ledger = u.ledger := fun u => by
    unfold State.offerHeld
    rw [State.ledger_foldl fun v a => by simp [sendAlarm]]
    rfl
  have readmitted : ∀ u : State, u.readmit.ledger = u.ledger := fun u => by simp [State.readmit]
  unfold State.lineReset
  rw [readmitted, held, State.ledger_announce]

theorem Ledger.Lawful.takeBegun (h : t.ledger.Lawful) (pins : Fin 32) : (t.takeBegun pins).ledger.Lawful := by
  unfold State.takeBegun
  split
  · exact h.lineReset _ _
  · exact h

theorem Ledger.Lawful.exec_lineReset (h : s.ledger.Lawful) (pins : Fin 32) :
    (s.after (exec (.lineReset pins) s)).ledger.Lawful := by
  show (s.whenOn _).ledger.Lawful
  unfold State.whenOn
  split
  · exact h.takeBegun pins
  · exact h

theorem Ledger.Lawful.exec_pinReset (h : s.ledger.Lawful) (pins : Fin 32) :
    (s.after (exec (.pinReset pins) s)).ledger.Lawful := by
  have low : (State.ledger { s with rstnLow := true }).Lawful := h
  unfold exec execPinReset State.after State.whenOn
  dsimp only
  split
  · exact (low.takeBegun pins).lineReset _ _
  · exact low

/-! ### The writes (R18) -/

theorem Ledger.Lawful.maskedWrite (h : s.ledger.Lawful) {seq : Nat} {widths old : List Nat} {mask : Nat} {values : List Byte}
    {rest : List Nat → State → State} (hr : ∀ vals, (rest vals s).ledger.Lawful) :
    (s.maskedWrite seq widths old mask values rest).ledger.Lawful := by
  rcases s.maskedWrite_cases seq widths old mask values rest with ⟨r, n, e⟩ | e <;> rw [e]
  · exact h.of_eq (State.ledger_offerUp _)
  · exact hr _

theorem Ledger.Lawful.judgeWrite (h : s.ledger.Lawful) {seq : Nat} {inUse : Bool} {conds : List Bool} {badState : Bool}
    {commit : State → State} (hk : (commit s).ledger.Lawful) :
    (s.judgeWrite seq inUse conds badState commit).ledger.Lawful := by
  rcases s.judgeWrite_cases seq inUse conds badState commit with ⟨r, n, e⟩ | ⟨-, -, e⟩ <;> rw [e]
  · exact h.of_eq (State.ledger_offerUp _)
  · exact hk.of_eq (State.ledger_offerUp _)

theorem Ledger.Lawful.refuse (h : s.ledger.Lawful) (seq : Nat) (r : Result) : (s.refuse seq r).ledger.Lawful :=
  h.of_eq (State.ledger_refuse _ _)

/-- The tables are no part of the ledger. -/
theorem State.ledger_setStore (store : Store) : State.ledger { t with store } = t.ledger := rfl

/-- The enable of a frame clears its mass residue and keeps its counts (log 46). -/
theorem Ledger.Lawful.enableFrame (h : t.ledger.Lawful) (f : FrameId) : (t.enableFrame f).ledger.Lawful := by
  have running : ((t.enableCycle f).enableMap f).ledger = t.ledger := by simp [State.enableMap, State.enableCycle]
  have cleared : ((((t.enableCycle f).enableMap f).enableDelivery f)).ledger.Lawful :=
    ((h.of_eq running).of_eq (State.ledger_setDelivery f .initial)).setCount f ((h.of_eq running).count f)
  exact cleared.of_eq (by simp [State.enableFrame, State.enableSpeed, State.enableDispatch, sendStateRequest])

theorem Ledger.Lawful.disableFrame (h : t.ledger.Lawful) (f : FrameId) : (t.disableFrame f).ledger.Lawful := by
  have disabled : ((((t.abandonFrame f).disableCycle f).disableGroups f).disableMap f).ledger.Lawful := h.of_eq (by simp)
  exact (disabled.filter _).of_eq (State.ledger_reevaluateZones _)

theorem Ledger.Lawful.commitFrame (h : t.ledger.Lawful) (f : FrameId) (e : FrameEntry) : (t.commitFrame f e).ledger.Lawful := by
  unfold State.commitFrame
  dsimp only
  split
  · exact Ledger.Lawful.enableFrame (t := t.setEntry f e) h f
  · split
    · exact Ledger.Lawful.disableFrame (h.of_eq (by simp [State.readyToDisable])) f
    · exact h

theorem Ledger.Lawful.writeTable (h : s.ledger.Lawful) (seq table index mask : Nat) (values : List Byte) :
    (s.writeTable seq table index mask values).ledger.Lawful := by
  unfold State.writeTable
  split
  · unfold State.writeFrame
    split
    · exact h.maskedWrite fun _ => h.judgeWrite (h.commitFrame _ _)
    · exact h.refuse _ _
  · unfold State.writeArticle
    split
    · exact h.maskedWrite fun _ => h.judgeWrite h
    · exact h.refuse _ _
  · unfold State.writeZone
    split
    · exact h.maskedWrite fun _ => h.judgeWrite h
    · exact h.refuse _ _
  · unfold State.writeRobot
    split
    · rename_i fits
      refine h.maskedWrite fun _ => ?_
      have ready : (s.pcdReadyRobot ⟨index, fits⟩).ledger.Lawful := h.of_eq (State.ledger_pcdReadyRobot _)
      exact ready.judgeWrite (ready.of_eq (by simp [State.commitRobot, sendStateRequest, State.ledger_setStore]))
    · exact h.refuse _ _
  · unfold State.writeDoffer
    split
    · exact h.maskedWrite fun _ => h.judgeWrite
        (h.of_eq (by simp [State.commitDoffer, sendStateRequest, State.ledger_setStore]))
    · exact h.refuse _ _
  · unfold State.writeCarrier
    split
    · exact h.maskedWrite fun _ => h.judgeWrite
        (h.of_eq (by simp [State.commitCarrier, sendStateRequest, State.ledger_setStore]))
    · exact h.refuse _ _
  · unfold State.writeSettings
    split
    · exact h.maskedWrite fun _ => h.judgeWrite (h.of_eq (State.ledger_settleSupply.trans (State.ledger_setStore _)))
    · exact h.refuse _ _
  · unfold State.writeDisposition
    split
    · exact h.maskedWrite fun _ => h.judgeWrite h
    · exact h.refuse _ _
  · exact h.refuse _ _

theorem Ledger.Lawful.exec_write (h : s.ledger.Lawful) (write : writesTable c = true) :
    (s.after (exec c s)).ledger.Lawful := by
  have managed : ∀ {c : Instr} {table index mask : Nat} {seq : Nat} {values : List Byte},
      exec c s = .next (s.management (State.writeTable seq table index mask values)) → (s.after (exec c s)).ledger.Lawful := by
    intro c table index mask seq values e
    rw [e]
    rcases s.management_cases (State.writeTable seq table index mask values) with k | k <;> simp only [State.after, k]
    · exact h
    · exact h.writeTable _ _ _ _ _
  cases c with
  | tableWrite | frameEnable | frameDisable | frameTableWrite | articleTableWrite | zoneTableWrite | robotEnable | robotDisable
  | robotZoneChange | dofferEnable | dofferDisable | dofferReachWrite | carrierEnable | carrierDisable | lineSettingsWrite
  | dispositionTableWrite => exact managed rfl
  | _ => cases write

/-! ### Every step -/

theorem Ledger.Lawful.exec_delivery (h : s.ledger.Lawful) (maps : s.mapsCounted) (node seq pulse : Nat) :
    (s.after (exec (.delivery node seq pulse) s)).ledger.Lawful := by
  show (s.report _ (State.takeDelivery (frameAt node) pulse)).ledger.Lawful
  unfold State.report State.hears State.whenOn
  dsimp only
  split
  · split
    · exact h
    · split
      · exact h
      · exact h
      · refine Ledger.Lawful.deliver (h.of_eq (State.ledger_copyReport _)) _ _ ?_
        rw [State.map_copyReport]
        exact maps _
  · exact h

/-- Every command that is no unlawful item keeps the ledger lawful. -/
theorem Ledger.Lawful.exec (h : s.ledger.Lawful) (maps : s.mapsCounted) (hc : lawfulItem c) :
    (s.after (exec c s)).ledger.Lawful := by
  by_cases keeps : keepsLedger c = true
  · exact h.of_eq (State.ledger_exec keeps)
  · by_cases write : writesTable c = true
    · exact h.exec_write write
    · by_cases item : takesItem c = true
      · exact h.exec_item item hc
      · cases c with
        | delivery node seq pulse => exact h.exec_delivery maps node seq pulse
        | shiftClose seq shift => exact h.exec_shiftClose seq shift
        | snapshotRead => exact h.exec_snapshotRead
        | vretLoss => exact h.exec_vretLoss
        | lineReset pins => exact h.exec_lineReset pins
        | pinReset pins => exact h.exec_pinReset pins
        | supplyFail mv => exact h.exec_supplyFail mv
        | supplyResetExit mv pins => exact h.exec_supplyResetExit mv pins
        | rstnRises pins => exact h.exec_rstnRises pins
        | _ => simp_all [keepsLedger]

/-- No timer is the taking of a production item. -/
theorem State.lawfulItem_of_timers {p : Nat × Instr} (timer : p ∈ s.timers) : lawfulItem p.2 := by
  have robots : ∀ k, ∀ q ∈ s.robotDue k, lawfulItem q.2 := fun k q hq => by
    unfold State.robotDue at hq
    split at hq <;> simp_all [lawfulItem]
  have stops : ∀ f, ∀ q ∈ s.stopDue f, lawfulItem q.2 := fun f q hq => by
    unfold State.stopDue at hq
    split at hq <;> simp_all [lawfulItem]
  have doffers : ∀ d, ∀ q ∈ s.doffDue d, lawfulItem q.2 := fun d q hq => by
    unfold State.doffDue at hq
    split at hq <;> simp_all [lawfulItem]
  have carriers : ∀ k, ∀ q ∈ s.carrierDue k, lawfulItem q.2 := fun k q hq => by
    unfold State.carrierDue at hq
    split at hq <;> simp_all [lawfulItem]
  simp only [State.timers, List.mem_cons, List.mem_append, List.mem_flatMap, List.mem_finRange, true_and] at timer
  rcases timer with rfl | (((⟨k, hk⟩ | verify) | ⟨f, hf⟩) | ⟨d, hd⟩) | ⟨k, hk⟩
  · trivial
  · exact robots k p hk
  · split at verify
    · cases verify
    · rw [List.mem_singleton.1 verify]
      trivial
  · exact stops f p hf
  · exact doffers d p hd
  · exact carriers k p hk

/-- What the part does next of itself is no item, or one that is in flight. -/
theorem Ledger.Lawful.nextInternal (h : s.ledger.Lawful) (next : s.nextInternal = some c) : lawfulItem c := by
  unfold State.nextInternal at next
  split at next
  · cases next
    trivial
  · split at next
    · rename_i flying
      cases next
      exact h.inFlight c (flying ▸ List.mem_cons_self)
    · split at next
      · cases next
        trivial
      · obtain ⟨p, first, rfl⟩ := Option.map_eq_some_iff.1 next
        exact State.lawfulItem_of_timers (List.mem_filter.1 (firstLeast_mem first)).1

theorem Ledger.Lawful.idle (h : s.ledger.Lawful) (maps : s.mapsCounted) (e : s.idle = .next t) : t.ledger.Lawful := by
  unfold State.idle at e
  split at e
  · split at e
    · rename_i c next
      have drawn : s.drawPins.ledger = s.ledger ∧ s.drawPins.smu = s.smu := by
        unfold State.drawPins
        split <;> exact ⟨rfl, rfl⟩
      rw [← State.after_of_next (s := s.drawPins) e]
      refine (h.of_eq drawn.1).exec (fun f => ?_) (h.nextInternal next)
      rw [State.map, drawn.2]
      exact maps f
    · cases e
      exact h
  · cases e
    exact h

theorem Ledger.Lawful.step (h : s.ledger.Lawful) (maps : s.mapsCounted) (e : step s = .next t) : t.ledger.Lawful := by
  unfold Machine.step at e
  split at e
  · rename_i c rest waiting
    have waits : ∀ x ∈ c :: rest, lawfulItem x := fun x hx => h.waiting x (by rw [← waiting] at hx; exact hx)
    have popped : (State.ledger { s with pending := rest }).Lawful :=
      ⟨h.current, h.closed, h.images, h.items, fun x hx => waits x (List.mem_cons_of_mem _ hx)⟩
    rw [← State.after_of_next (s := { s with pending := rest }) e]
    exact popped.exec maps (waits c List.mem_cons_self)
  · exact h.idle maps e

/-- Settles O59: a production item carries no more running spindles than populated ones, and nothing else raises produced. -/
theorem stepKeepsProductionLawful : Obligations.StepKeepsProductionLawful := by
  intro s t e lawful
  obtain ⟨maps, ledger⟩ := State.productionLawful_iff.1 lawful
  exact State.productionLawful_iff.2 ⟨(State.bounds_step e).maps maps, ledger.step maps e⟩

end Sys2Proof.Machine
end

section
/-! A DELIVERY at the Delivery Accounting Unit (R39 to R43, R48). -/

namespace Sys2Proof.Machine

variable {s : State} {f : FrameId} {pulse : Nat}

/-- The increment is forward by one wrap at most (R40). -/
theorem pulseDifference_eq {now last : Nat} (hn : now < 65536) (hl : last < 65536) :
    pulseDifference now last = (now + (65536 - last)) % 65536 := by
  rw [pulseDifference, Nat.mod_eq_of_lt hn, Nat.mod_eq_of_lt hl]

theorem FrameState.spins_iff {st : FrameState} : st.spins = true ↔ st = .running ∨ st = .starting := by
  cases st <;> simp [FrameState.spins]

/-- The DAU offers by a frame that spins exactly where the frame spins and no doff completion is in flight to the DAU. -/
theorem State.dauFrameState_spins :
    (s.dauFrameState f).spins = true ↔
      (s.frameState f = .running ∨ s.frameState f = .starting) ∧ s.NoneFlying (dauFirst f) := by
  have none : s.inFlight.any (dauFirst f) = false ↔ s.NoneFlying (dauFirst f) := by
    simp [State.NoneFlying]
  unfold State.dauFrameState
  split
  · rename_i flying
    simp [← none, flying, FrameState.spins]
  · rename_i flying
    simp [← none, flying, FrameState.spins_iff]

/-- T of a DELIVERY of counter value `pulse` (R40, R41). -/
def State.pulseLength (s : State) (f : FrameId) (pulse : Nat) : Nat :=
  (pulse + (65536 - (s.deliveryRecord f).lastPulse)) % 65536 * (s.entry f).pulseLength + (s.deliveryRecord f).lengthResidue

theorem State.pulseLength_eq (hp : pulse < 65536) (hl : (s.deliveryRecord f).lastPulse < 65536) :
    pulseLengthSum (pulseDifference pulse (s.deliveryRecord f).lastPulse) (s.entry f).pulseLength
      (s.deliveryRecord f).lengthResidue = s.pulseLength f pulse := by
  rw [pulseLengthSum, pulseDifference_eq hp hl, State.pulseLength]

theorem State.deliver_noBaseline (hp : pulse < 65536) (h : (s.deliveryRecord f).baseline = false) :
    s.deliver f pulse = s.setDelivery f { s.deliveryRecord f with baseline := true, lastPulse := pulse } := by
  simp [State.deliver, h, Nat.mod_eq_of_lt hp]

theorem State.deliver_short (hp : pulse < 65536) (hl : (s.deliveryRecord f).lastPulse < 65536)
    (h : (s.deliveryRecord f).baseline = true) (short : s.pulseLength f pulse / 65536 = 0) :
    s.deliver f pulse = s.setDelivery f
      { s.deliveryRecord f with lastPulse := pulse, lengthResidue := s.pulseLength f pulse % 65536 } := by
  simp only [State.deliver, h, Nat.mod_eq_of_lt hp, State.pulseLength_eq hp hl, short, Bool.not_true, Bool.false_eq_true, if_false,
    if_true]

/-- A DELIVERY with an increment brings cop, fill and residues up to date and makes the hand-offs of Table 3-2. -/
theorem State.deliver_long (hp : pulse < 65536) (hl : (s.deliveryRecord f).lastPulse < 65536)
    (h : (s.deliveryRecord f).baseline = true) (long : 0 < s.pulseLength f pulse / 65536) :
    let r := s.deliveryRecord f
    let a := s.dauArticle f
    let dL := s.pulseLength f pulse / 65536
    let cop := min (r.cop + dL) 4294967295
    let fill := fillOf cop a.doffTarget
    let q := dL * 256 + r.rovingResidue
    s.deliver f pulse =
      { s.setDelivery f { r with lastPulse := pulse, lengthResidue := s.pulseLength f pulse % 65536, cop, fill,
                                 rovingResidue := q % a.draft } with
        inFlight := s.inFlight
          ++ [.dcuDeliveryHandoff f dL (offersTarget (s.dauFrameState f) cop a.doffTarget),
              .spuDeliveryHandoff f dL (offeredFill (s.dauFrameState f) cop a.doffTarget fill (s.speed f).fillStep),
              .scuDeliveryHandoff f dL (s.map f).running (s.map f).populated a.density]
          ++ (if 0 < q / a.draft then [.rsuRovingHandoff f (q / a.draft)] else []) } := by
  intro r a dL cop fill q
  have increment : ¬ s.pulseLength f pulse / 65536 = 0 := long.ne'
  have based : ¬ (!r.baseline) = true := by simp [r, h]
  unfold State.deliver
  dsimp only
  rw [if_neg based, Nat.mod_eq_of_lt hp, State.pulseLength_eq hp hl, if_neg increment]
  split
  · rfl
  · rw [List.append_nil]
    rfl

/-- "Target reached" is offered to a frame that spins whose cop has reached the target (R43). -/
theorem State.offersTarget_iff {cop target : Nat} :
    offersTarget (s.dauFrameState f) cop target = true ↔
      ((s.frameState f = .running ∨ s.frameState f = .starting) ∧ s.NoneFlying (dauFirst f)) ∧ target ≤ cop := by
  rw [offersTarget, Bool.and_eq_true, State.dauFrameState_spins, decide_eq_true_iff]

/-- A fill is offered to a frame that spins short of its target, where its step is another than the SPU's (R43). -/
theorem State.offeredFill_eq {cop target fill step : Nat}
    [Decidable (((s.frameState f = .running ∨ s.frameState f = .starting) ∧ s.NoneFlying (dauFirst f)) ∧ cop < target
      ∧ fill / 1024 ≠ step)] :
    offeredFill (s.dauFrameState f) cop target fill step =
      if ((s.frameState f = .running ∨ s.frameState f = .starting) ∧ s.NoneFlying (dauFirst f)) ∧ cop < target
        ∧ fill / 1024 ≠ step then some fill else none := by
  rw [offeredFill]
  exact if_congr (and_congr_left' State.dauFrameState_spins) rfl rfl

theorem exec_delivery_accepted {node seq : Nat} (h : s.Takes (.delivery node seq pulse)) :
    exec (.delivery node seq pulse) s = .next ((s.copyReport (.delivery node seq pulse)).deliver (frameAt node) pulse) :=
  congrArg Host.Outcome.next (State.report_accepted h)

/-- What a DELIVERY reads is not touched by its copy to the plant controller. -/
theorem State.dauFrameState_copyReport (c : Instr) : (s.copyReport c).dauFrameState f = s.dauFrameState f := by
  simp [State.dauFrameState]

theorem State.pulseLength_copyReport (c : Instr) : (s.copyReport c).pulseLength f pulse = s.pulseLength f pulse := by
  simp [State.pulseLength]

theorem State.dauArticle_copyReport (c : Instr) : (s.copyReport c).dauArticle f = s.dauArticle f := by
  simp [State.dauArticle]

/-- Settles O10: the three cases of `State.deliver`, on the state that the copy to the plant controller leaves. -/
theorem deliveryArithmetic : Obligations.DeliveryArithmetic := by
  refine ⟨fun node seq pulse s takes hp noBaseline => ?_, fun node seq pulse s => ?_⟩
  · rw [exec_delivery_accepted takes, State.deliver_noBaseline hp (by simpa using noBaseline),
      State.deliveryRecord_copyReport]
  · intro c f r a T dL cop fill Q spins takes hp hl baseline
    have last : ((s.copyReport c).deliveryRecord f).lastPulse < 65536 := by simpa using hl
    have based : ((s.copyReport c).deliveryRecord f).baseline = true := by simpa using baseline
    have sum : (s.copyReport c).pulseLength f pulse = T := State.pulseLength_copyReport c
    refine ⟨fun short => ?_, fun long => ?_⟩
    · rw [exec_delivery_accepted takes, State.deliver_short hp last based (by rw [sum]; exact short), sum,
        State.deliveryRecord_copyReport]
    · refine ⟨_, _, State.offersTarget_iff, State.offeredFill_eq, ?_⟩
      rw [exec_delivery_accepted takes, State.deliver_long hp last based (by rw [sum]; exact long)]
      simp only [sum, State.deliveryRecord_copyReport, State.dauArticle_copyReport, State.dauFrameState_copyReport,
        State.speed_copyReport, State.map_copyReport, State.copyReport_inFlight]
      rfl

end Sys2Proof.Machine
end

section
/-! The doff completion at the Delivery Accounting Unit and the requests of a frame to the Speed Program Unit (R51, R150, R151). -/

namespace Sys2Proof.Machine

variable {s t : State} {f : FrameId} {c : Instr} {switched restart : Bool}

/-- The one hand-off in flight that satisfies `p` stands after no other of its channel. -/
theorem State.ahead_alone {p : Instr → Bool} (h : (s.drop c).NoneFlying p) : s.ahead p c = [] := by
  unfold State.ahead
  split
  · refine List.filter_eq_nil_iff.mpr fun d hd => ?_
    have other : d ≠ c := by simpa using List.mem_takeWhile_imp hd
    have left : d ∈ s.inFlight.erase c := (List.mem_erase_of_ne other).2 (List.takeWhile_subset _ hd)
    simp [h d left]
  · rfl

/-- A unit that has one hand-off in flight to take takes that. -/
theorem State.takeMatching_alone {p : Instr → Bool} {app : Instr → State → State} (flying : c ∈ s.inFlight)
    (hc : p c = true) (h : (s.drop c).NoneFlying p) : s.takeMatching p app = app c (s.drop c) := by
  obtain ⟨before, after, split, first⟩ := List.eq_append_cons_of_mem flying
  have dropped : s.inFlight.erase c = before ++ after := by
    rw [split, List.erase_append_right _ first, List.erase_cons_head]
  have none : ∀ d ∈ before ++ after, p d = false := fun d hd => h d (by rw [← dropped] at hd; exact hd)
  have one := State.takeMatching_one (s := { s with inFlight := before }) (app := app) (l := after)
    (fun d hd => none d (List.mem_append_left _ hd)) hc fun d hd => none d (List.mem_append_right _ hd)
  have whole : s = { s with inFlight := before ++ c :: after } := by rw [← split]
  have rest : s.drop c = { s with inFlight := before ++ after } := by rw [← dropped]; rfl
  rw [rest, ← one, ← whole]

/-! ### The completion at the DAU (R51) -/

theorem exec_dauDoffCompletion (h : s.Next (dauFirst f) (.dauDoffCompletion f switched)) :
    exec (.dauDoffCompletion f switched) s = .next ((s.drop (.dauDoffCompletion f switched)).takeDauDoff f switched) :=
  congrArg Host.Outcome.next (State.handoffInOrder_next h)

/-- The request that the completion makes is none of the DAU's own. -/
theorem State.NoneFlying.takeDauDoff (h : s.NoneFlying (dauFirst f)) : (s.takeDauDoff f switched).NoneFlying (dauFirst f) := by
  unfold State.takeDauDoff
  split
  · exact (h.of_inFlight rfl).emit rfl
  · exact h

theorem State.power_takeDauDoff : (s.takeDauDoff f switched).power = s.power := by
  unfold State.takeDauDoff
  split <;> rfl

/-! ### The requests at the SPU (R150, R151) -/

theorem exec_spuDoffCompletion (on : s.power = .on) :
    exec (.spuDoffCompletion f switched) s = .next
      ((s.dauReady f).takeInOrder (spuFirst f) (fun h s => spuTakeFirst s h) (.spuDoffCompletion f switched)) :=
  congrArg Host.Outcome.next (State.whenOn_on _ _ on)

/-- With no completion in flight to the DAU, a doff-completion request that is next of its channel is taken alone. -/
theorem exec_spuDoffCompletion_next (dau : s.NoneFlying (dauFirst f))
    (h : s.Next (spuFirst f) (.spuDoffCompletion f switched)) :
    exec (.spuDoffCompletion f switched) s = .next ((s.drop (.spuDoffCompletion f switched)).takeSpuDoff f switched) := by
  rw [exec_spuDoffCompletion h.1, State.dauReady_none dau, State.takeInOrder, h.2]
  rfl

theorem exec_spuResumeRequest (h : s.Next (spuFirst f) (.spuResumeRequest f restart)) :
    exec (.spuResumeRequest f restart) s = .next ((s.drop (.spuResumeRequest f restart)).takeResumeSpeed f restart) :=
  congrArg Host.Outcome.next (State.handoffInOrder_next h)

/-- Settles O11: each is taken alone, and a doff-completion request commanded while the DAU's completion is in flight starts from
the state that the DAU leaves. -/
theorem doffCompletionRequests : Obligations.DoffCompletionRequests := by
  refine ⟨fun f switched s => ?_, fun f s enabled dau => ⟨fun next => ?_, fun next => ?_, fun restart next => ?_⟩,
    fun f switched s t => ?_⟩
  · intro c r next
    rw [exec_dauDoffCompletion next, State.takeDauDoff, State.enabled_drop]
    exact ⟨fun on => by rw [if_pos on]; rfl, fun off => by rw [if_neg (by simp [off])]⟩
  · rw [exec_spuDoffCompletion_next dau next, State.takeSpuDoff, State.enabled_drop, if_pos enabled]
    rfl
  · rw [exec_spuDoffCompletion_next dau next, State.takeSpuDoff, State.enabled_drop, if_pos enabled]
    rfl
  · rw [exec_spuResumeRequest next, State.takeResumeSpeed, State.enabled_drop, if_pos enabled]
    rfl
  · intro c on flying alone taken
    have ready : s.dauReady f = (s.drop c).takeDauDoff f switched :=
      State.takeMatching_alone flying (by simp [c, dauFirst]) alone
    rw [exec_dauDoffCompletion ⟨on, State.ahead_alone alone⟩, Host.Outcome.next.injEq] at taken
    have readyToo : t.dauReady f = t := State.dauReady_none (taken ▸ State.NoneFlying.takeDauDoff alone)
    have onToo : t.power = .on := by rw [← taken, State.power_takeDauDoff]; exact on
    rw [exec_spuDoffCompletion on, exec_spuDoffCompletion onToo, readyToo, ready, taken]

end Sys2Proof.Machine
end

section
/-! The Shift Count Unit's steps (R46, R47, R173 to R175): pegging, the delivery item and the single items. -/

namespace Sys2Proof.Machine

variable {s : State} {c : Instr} {f : FrameId}

theorem pegs_iff {bits n d : Nat} : pegs bits n d = true ↔ n = 2 ^ bits - 1 ∨ 2 ^ bits - 1 < n + d := by
  rw [pegs, largest, Bool.or_eq_true, decide_eq_true_iff, decide_eq_true_iff]
  omega

/-- Raised by 1 a field pegs exactly where it is found at its largest value. -/
theorem pegs_one {bits n : Nat} : pegs bits n 1 = decide (largest bits ≤ n) := by
  simp only [pegs, ← Bool.decide_or, decide_eq_decide]
  omega

/-- SATURATED after a delivery: it was set, or one of the four amounts pegs (R173). -/
theorem CountRecord.deliver_saturated (r : CountRecord) (dL n p mtex : Nat) :
    (r.deliver dL n p mtex).saturated = true ↔
      r.saturated = true ∨ (pegs 40 r.counts.delivered dL = true ∨ pegs 48 r.counts.possible (dL * p) = true
        ∨ pegs 48 r.counts.produced (dL * n) = true
        ∨ pegs 40 r.counts.mass ((dL * n * mtex + r.massResidue) / 1000000) = true) := by
  simp only [CountRecord.deliver, Bool.or_eq_true, or_assoc]

/-- An item of the SCU that is next of its channel is taken alone. -/
theorem exec_item_next {lane : Instr → Bool} (h : s.Next lane c)
    (e : exec c s = .next (s.handoffInOrder lane (fun h s => scuTake s h) c)) : exec c s = .next (scuTake (s.drop c) c) := by
  rw [e, State.handoffInOrder_next h]

/-- A single item that is next of its channel raises one field of its frame's record. -/
theorem exec_event_next {lane : Instr → Bool} {e : Event} {r : CountRecord} (h : s.Next lane c)
    (exec_eq : exec c s = .next (s.handoffInOrder lane (fun h s => scuTake s h) c))
    (taken : ∀ t, scuTake t c = t.countEvent e f) (counted : (s.count f).count e = r) :
    exec c s = .next ((s.drop c).setCount f r) := by
  rw [exec_item_next h exec_eq, taken, State.countEvent, State.count_drop, counted]

/-- Settles O12: the SCU takes an item that is next of its channel at once, and pegging is `raise` with `pegs`. -/
theorem scuTakesItems : Obligations.ScuTakesItems := by
  refine ⟨fun f dL r p mtex s => ?_, fun f s => ?_⟩
  · intro c old M pegged next
    have taken : exec c s = .next ((s.drop c).takeCountDelivery f dL r p mtex) := exec_item_next next rfl
    refine ⟨fun on => ?_, fun off => ?_⟩
    · refine ⟨(s.drop c).setCount f (old.deliver dL r p mtex), ?_, ?_⟩
      · rw [taken, State.takeCountDelivery, State.enabled_drop, if_pos on, State.count_drop]
      · rw [State.count_setCount]
        refine ⟨rfl, rfl, ?_, rfl, rfl, rfl⟩
        rw [CountRecord.deliver_saturated, pegs_iff, pegs_iff, pegs_iff, pegs_iff]
    · rw [taken, State.takeCountDelivery, State.enabled_drop, if_neg (by simp [off])]
  · intro r n up
    refine ⟨fun h => ?_, fun h => ?_, fun h => ?_, fun h => ?_, fun h => ?_, fun h => ?_, fun h => ?_, fun h => ?_⟩ <;>
      refine exec_event_next h rfl (fun _ => rfl) ?_ <;> rw [CountRecord.count, pegs_one] <;> rfl

end Sys2Proof.Machine
end

section
/-! A roving hand-off at the Roving Supply Unit: the groups are lowered and then judged (R49, R154 to R156). -/

namespace Sys2Proof.Machine

variable {s : State} {f : FrameId} {g : GroupId} {dR : Nat}

theorem exec_rsuRovingHandoff (h : s.Next (rsuLane f) (.rsuRovingHandoff f dR)) :
    exec (.rsuRovingHandoff f dR) s = .next ((s.drop (.rsuRovingHandoff f dR)).takeRoving f dR) :=
  congrArg Host.Outcome.next (State.handoffInOrder_next h)

/-- A group's record with ΔR less roving, and no less than none (R154). -/
def Group.lowered (dR : Nat) (r : Group) : Group := { r with remaining := r.remaining - dR }

/-! ### One group (R154, R155) -/

theorem State.lowerGroup_none (h : s.groupRecord f g = none) : State.lowerGroup f dR s g = s := by
  rw [State.lowerGroup, h]

theorem State.lowerGroup_stays {r : Group} (h : s.groupRecord f g = some r) (stays : r.remaining = 0 ∨ dR < r.remaining) :
    State.lowerGroup f dR s g = s.setGroup f g (some (r.lowered dR)) := by
  have kept : ¬ (0 < r.remaining ∧ r.remaining ≤ dR) := by omega
  rw [State.lowerGroup, h]
  exact if_neg kept

theorem State.lowerGroup_empties {r : Group} (h : s.groupRecord f g = some r) (stocked : 0 < r.remaining)
    (gone : r.remaining ≤ dR) : State.lowerGroup f dR s g =
      ((s.setGroup f g (some (r.lowered dR))).emit (.starveGroup f g)).alarm .starved 4 (f.val * 32 + g.val) 0 := by
  rw [State.lowerGroup, h]
  exact if_pos ⟨stocked, gone⟩

/-! ### The groups of a frame -/

theorem State.article_of_rsu {t : State} {rsu : Supply} (e : t = { s with rsu }) : t.article f = s.article f := by
  rw [e]
  rfl

theorem State.modGroup_groups (upd : Group → Group) :
    s.modGroup f g upd = { s with rsu := { s.rsu with groups := (s.modGroup f g upd).rsu.groups } } := by
  unfold State.modGroup
  split <;> rfl

/-- No group empties: the figures of the frame's groups fall, one after another, and nothing else changes. -/
theorem State.lowerGroups (l : List GroupId) (once : l.Nodup)
    (stays : ∀ g ∈ l, ∀ r, s.groupRecord f g = some r → dR < r.remaining) :
    let t := l.foldl (State.lowerGroup f dR) s
    t = { s with rsu := { s.rsu with groups := t.rsu.groups } }
      ∧ ∀ f' g, t.groupRecord f' g =
          if f = f' ∧ g ∈ l then (s.groupRecord f' g).map (Group.lowered dR) else s.groupRecord f' g := by
  induction l generalizing s with
  | nil => exact ⟨rfl, fun f' g => (if_neg (by simp)).symm⟩
  | cons a rest ih =>
    obtain ⟨fresh, once⟩ := List.nodup_cons.1 once
    have first : State.lowerGroup f dR s a = s.modGroup f a (Group.lowered dR) := by
      unfold State.modGroup
      cases record : s.groupRecord f a with
      | none => exact State.lowerGroup_none record
      | some r => exact State.lowerGroup_stays record (.inr (stays a List.mem_cons_self r record))
    have others : ∀ g ∈ rest, ∀ r, (State.lowerGroup f dR s a).groupRecord f g = some r → dR < r.remaining := by
      intro g mem r record
      have other : ¬ (f = f ∧ a = g) := fun h => fresh (h.2 ▸ mem)
      rw [first, State.groupRecord_modGroup, if_neg other] at record
      exact stays g (List.mem_cons_of_mem _ mem) r record
    obtain ⟨rsu, records⟩ := ih once others
    refine ⟨?_, fun f' g => ?_⟩
    · rw [List.foldl_cons, rsu, first, State.modGroup_groups]
    · rw [List.foldl_cons, records, first, State.groupRecord_modGroup]
      by_cases head : f = f' ∧ a = g
      · obtain ⟨rfl, rfl⟩ := head
        simp [fresh]
      · have same : f = f' ∧ g ∈ a :: rest ↔ f = f' ∧ g ∈ rest := by
          rw [List.mem_cons]
          exact ⟨fun ⟨frame, mem⟩ => ⟨frame, mem.resolve_left fun e => head ⟨frame, e.symm⟩⟩,
            fun ⟨frame, mem⟩ => ⟨frame, .inr mem⟩⟩
        rw [if_neg head, if_congr same rfl rfl]

/-- A group that stays above its low mark is judged neither LOW nor EMPTY. -/
theorem State.judge_ok (above : ∀ r, s.groupRecord f g = some r → (s.article f).lowMark < r.remaining) : s.judge f g = s := by
  unfold State.judge State.judgeWith
  split
  · rename_i r record
    have ok : ¬ (r.state = .supplied ∧ s.level f g ≠ .ok) := fun h =>
      absurd ((State.level_ne_ok_iff record).1 h.2) (Nat.not_le.2 (above r record))
    exact if_neg ok
  · rfl

theorem State.judges_ok (l : List GroupId)
    (above : ∀ g r, s.groupRecord f g = some r → (s.article f).lowMark < r.remaining) :
    l.foldl (fun u g => u.judge f g) s = s := by
  induction l with
  | nil => rfl
  | cons a rest ih => rw [List.foldl_cons, State.judge_ok (above a), ih]

/-- Settles O13: a fold over the groups in which each is lowered once, and a fold of judgements that find nothing. -/
theorem rovingIsLowered : Obligations.RovingIsLowered := by
  refine ⟨fun f dR s => ?_, fun f dR s => ?_, fun f g dR s => ?_⟩
  · intro c next
    rw [exec_rsuRovingHandoff next, State.takeRoving, State.enabled_drop]
    exact ⟨fun on => by rw [if_pos on], fun off => by rw [if_neg (by simp [off])]⟩
  · intro c next on above
    have stays : ∀ g ∈ List.finRange 32, ∀ r, (s.drop c).groupRecord f g = some r → dR < r.remaining :=
      fun g _ r record => by
        have := above g r record
        omega
    obtain ⟨rsu, records⟩ := State.lowerGroups (List.finRange 32) (List.nodup_finRange 32) stays
    have judged : ∀ g r, ((List.finRange 32).foldl (State.lowerGroup f dR) (s.drop c)).groupRecord f g = some r →
        (((List.finRange 32).foldl (State.lowerGroup f dR) (s.drop c)).article f).lowMark < r.remaining := by
      intro g r record
      rw [records, if_pos ⟨rfl, List.mem_finRange g⟩, Option.map_eq_some_iff] at record
      obtain ⟨old, before, rfl⟩ := record
      have mark := above g old before
      have left : (old.lowered dR).remaining = old.remaining - dR := rfl
      rw [State.article_of_rsu rsu, State.article_drop, left]
      omega
    refine ⟨(List.finRange 32).foldl (State.lowerGroup f dR) (s.drop c), ?_, fun g => ?_, fun f' g other => ?_, rsu⟩
    · rw [exec_rsuRovingHandoff next, State.takeRoving, State.enabled_drop, if_pos on]
      exact congrArg Host.Outcome.next (State.judges_ok _ judged)
    · rw [records, if_pos ⟨rfl, List.mem_finRange g⟩]
      rfl
    · rw [records, if_neg fun h => other h.1.symm]
      rfl
  · exact ⟨State.lowerGroup_none, fun r record => ⟨State.lowerGroup_stays record, State.lowerGroup_empties record⟩⟩

end Sys2Proof.Machine
end

section
/-! The delivery hand-off, the monitored break and the interval evaluation at the Speed Program Unit (R45, R147 to R149). -/

namespace Sys2Proof.Machine

variable {s : State} {f : FrameId} {r : SpeedRecord} {a : Article} {dL : Nat} {fill : Option Nat}

theorem exec_spuDeliveryHandoff (h : s.Next (spuLane f) (.spuDeliveryHandoff f dL fill)) :
    exec (.spuDeliveryHandoff f dL fill) s = .next ((s.drop (.spuDeliveryHandoff f dL fill)).takeSpeedDelivery f dL fill) :=
  congrArg Host.Outcome.next (State.handoffInOrder_next h)

theorem exec_monitoredBreak (on : s.power = .on) :
    exec (.monitoredBreak f) s = .next ((s.drop (.monitoredBreak f)).takeMonitoredBreak f) :=
  congrArg Host.Outcome.next (State.handoff_on on)

/-- The record of a frame after a delivery hand-off: the monitor advances in a RUNNING frame alone (R45). -/
def State.monitored (s : State) (f : FrameId) (dL : Nat) : SpeedRecord :=
  if s.frameState f = .running then (s.speed f).advance (s.article f) dL else s.speed f

/-- A delivery hand-off at the SPU with no request of its frame waiting (R45, R49). -/
theorem State.takeSpeedDelivery_ready (on : s.enabled f = true) (ready : s.spuReady f = s) :
    s.takeSpeedDelivery f dL fill =
      let t := s.setSpeed f (s.monitored f dL)
      match fill with
      | some x => t.computeSpeed f x false
      | none => if (s.monitored f dL).level ≠ (s.speed f).level then t.computeSpeed f (s.monitored f dL).heldFill false
          else t := by
  rw [State.takeSpeedDelivery, if_pos on, ready]
  rfl

/-! ### The interval evaluation (R148, R149) -/

theorem SpeedRecord.evaluate_high (h : a.highThreshold ≤ r.count) :
    (r.evaluate a).level = min (r.level + 1) 3 ∧ (r.evaluate a).quiet = 0 := by
  simp [SpeedRecord.evaluate, h]

theorem SpeedRecord.evaluate_quietRun (high : r.count < a.highThreshold) (low : r.count ≤ a.lowThreshold)
    (run : a.quietIntervals ≤ r.quiet + 1) : (r.evaluate a).level = r.level - 1 ∧ (r.evaluate a).quiet = 0 := by
  simp [SpeedRecord.evaluate, Nat.not_le.2 high, low, run]

theorem SpeedRecord.evaluate_quiet (high : r.count < a.highThreshold) (low : r.count ≤ a.lowThreshold)
    (run : r.quiet + 1 < a.quietIntervals) : (r.evaluate a).level = r.level ∧ (r.evaluate a).quiet = r.quiet + 1 := by
  simp [SpeedRecord.evaluate, Nat.not_le.2 high, low, Nat.not_le.2 run]

theorem SpeedRecord.evaluate_between (high : r.count < a.highThreshold) (low : a.lowThreshold < r.count) :
    (r.evaluate a).level = r.level ∧ (r.evaluate a).quiet = 0 := by
  simp [SpeedRecord.evaluate, Nat.not_le.2 high, Nat.not_le.2 low]

theorem SpeedRecord.evaluate_level_le (h : r.level ≤ 3) : (r.evaluate a).level ≤ 3 := by
  simp only [SpeedRecord.evaluate]
  split_ifs <;> omega

theorem SpeedRecord.evaluate_levelChanged :
    (r.evaluate a).levelChanged = true ↔ r.levelChanged = true ∨ (r.evaluate a).level ≠ r.level := by
  simp [SpeedRecord.evaluate]

/-! ### The progress (R45) -/

theorem SpeedRecord.advance_short (h : r.progress + dL < a.interval) :
    r.advance a dL = { r with progress := r.progress + dL } := if_neg (Nat.not_le.2 h)

theorem SpeedRecord.advance_interval (h : a.interval ≤ r.progress + dL) :
    r.advance a dL = { r.evaluate a with progress := min (r.progress + dL - a.interval) (a.interval - 1) } := if_pos h

theorem SpeedRecord.advance_progress_lt (pos : 0 < a.interval) : (r.advance a dL).progress < a.interval := by
  rcases Nat.lt_or_ge (r.progress + dL) a.interval with short | long
  · rw [SpeedRecord.advance_short short]
    exact short
  · rw [SpeedRecord.advance_interval long]
    exact Nat.lt_of_le_of_lt (Nat.min_le_right _ _) (Nat.sub_lt pos Nat.one_pos)

/-- The held fill is no part of the monitor. -/
theorem State.monitored_heldFill : (s.monitored f dL).heldFill = (s.speed f).heldFill := by
  unfold State.monitored
  split
  · rcases Nat.lt_or_ge ((s.speed f).progress + dL) (s.article f).interval with short | long
    · rw [SpeedRecord.advance_short short]
    · rw [SpeedRecord.advance_interval long]
      rfl
  · rfl

/-- Settles O14: the equations of the SPU's two hand-offs, of the evaluation row by row and of the progress. -/
theorem speedMonitor : Obligations.SpeedMonitor := by
  refine ⟨fun f dL fill s => ?_, fun f s on dau spu => ?_, fun r a thresholds level => ?_, fun r a dL pos => ?_⟩
  · intro c old new s' next dau spu
    have ready : (s.drop c).spuReady f = s.drop c := State.spuReady_none (dau.drop c) (spu.drop c)
    have taken := fun on : s.enabled f = true => (exec_spuDeliveryHandoff next).trans
      (congrArg Host.Outcome.next (State.takeSpeedDelivery_ready (dL := dL) (fill := fill) on ready))
    refine ⟨fun off => ?_, fun x on hx => ?_, fun on hx changed => ?_, fun on hx same => ?_⟩
    · rw [exec_spuDeliveryHandoff next, State.takeSpeedDelivery, State.enabled_drop, if_neg (by simp [off])]
    · subst hx
      exact taken on
    · subst hx
      refine (taken on).trans (congrArg Host.Outcome.next ((if_pos changed).trans ?_))
      rw [State.monitored_heldFill]
      rfl
    · subst hx
      exact (taken on).trans (congrArg Host.Outcome.next (if_neg (not_not.2 same)))
  · rw [exec_monitoredBreak on, State.takeMonitoredBreak, State.enabled_drop, State.spuReady_none (dau.drop _) (spu.drop _)]
    exact ⟨fun on => by rw [if_pos on]; rfl, fun off => by rw [if_neg (by simp [off])]⟩
  · exact ⟨rfl, SpeedRecord.evaluate_level_le level, SpeedRecord.evaluate_levelChanged, rfl, SpeedRecord.evaluate_high,
      fun low => SpeedRecord.evaluate_quietRun (low.trans_lt thresholds) low,
      fun low => SpeedRecord.evaluate_quiet (low.trans_lt thresholds) low,
      fun low high => SpeedRecord.evaluate_between high low⟩
  · exact ⟨SpeedRecord.advance_progress_lt pos, SpeedRecord.advance_short, SpeedRecord.advance_interval⟩

end Sys2Proof.Machine
end

section
/-! The doff trigger, the entry to HELD and the delivery hand-off at the Doff Cycle Unit (R44, R118,
R121, R122, R124, R132, R135). -/

namespace Sys2Proof.Machine

variable {s t : State} {f g : FrameId} {d : DofferId} {st : FrameState} {cause : HoldCause} {dL : Nat} {target : Bool}

/-- A telegram from a state with the same link and store is the same telegram. -/
theorem State.sendFloor_of_same (link : t.link = s.link) (store : t.store = s.store) (node kind : Nat) (payload : List Byte) :
    t.sendFloor node kind payload = (s.sendFloor node kind payload).telling t := by
  have same : t = s.telling t := by rw [State.telling, ← link, ← store]
  exact (congrArg (State.sendFloor node kind payload) same).trans (State.sendFloor_telling t node kind payload)

/-! ### Changes of frame state (R118) -/

/-- The cancels of a frame's piecing, where it spins. -/
def State.spinCancels (s : State) (f : FrameId) : List Instr :=
  if s.frameState f = .running ∨ s.frameState f = .starting then [.smuPiecingCancel f, .pcdPiecingCancel f] else []

theorem State.spinCancels_congr (h : t.frameState f = s.frameState f) : t.spinCancels f = s.spinCancels f := by
  rw [State.spinCancels, State.spinCancels, h]

/-- A frame enters a state in which it does not spin. -/
theorem State.enterFrameState_stands (stands : st.spins = false) :
    s.enterFrameState f st =
      { s.setCycle f { s.cycle f with state := st } with inFlight := s.inFlight ++ s.spinCancels f } := by
  unfold State.enterFrameState State.spinCancels
  dsimp only
  by_cases spins : s.frameState f = .running ∨ s.frameState f = .starting
  · have spun : (s.frameState f).spins = true := FrameState.spins_iff.2 spins
    rw [if_pos spins, if_pos ⟨spun, stands⟩, State.noticeCancel, State.emit_emit]
    rfl
  · have stood : (s.frameState f).spins = false := Bool.eq_false_iff.2 (mt FrameState.spins_iff.1 spins)
    rw [if_neg spins, if_neg (by simp [stood]), if_neg (by simp [stands]), List.append_nil]
    rfl

/-- A STARTING frame becomes RUNNING: the notice to the PCD, and no cancel. -/
theorem State.enterFrameState_started (h : s.frameState f = .starting) :
    s.enterFrameState f .running = (s.setCycle f { s.cycle f with state := .running }).emit (.frameRunningNotice f) := by
  unfold State.enterFrameState
  dsimp only
  rw [h]
  rfl

/-! ### The doff trigger (R124) -/

/-- A frame that has been told to stop and stands at the tail of the doff queue. -/
def State.stopQueued (f : FrameId) (s : State) : State :=
  { sendStopDoff f s with
    dcu := { s.dcu with
      frames := s.dcu.frames.set f
        { s.cycle f with state := .stopping, stopTimer := some (s.timer + 1000 * s.store.settings.stopTimeout) },
      queue := s.dcu.queue ++ [f] },
    inFlight := s.inFlight ++ s.spinCancels f }

theorem State.trigger_eq : s.trigger f = (s.stopQueued f).offerFrame f := by
  obtain ⟨v, hv⟩ : ∃ v, v = s.enterFrameState f .stopping := ⟨_, rfl⟩
  have entered : v = { s.setCycle f { s.cycle f with state := .stopping } with inFlight := s.inFlight ++ s.spinCancels f } :=
    hv.trans (State.enterFrameState_stands rfl)
  have told : sendStopDoff f v = (sendStopDoff f s).telling v :=
    State.sendFloor_of_same (by rw [entered]; rfl) (by rw [entered]; rfl) _ _ _
  have settings : (sendStopDoff f s).store.settings = s.store.settings := State.sendFloor_store_settings _ _ _ _
  have spoken : sendStopDoff f s = (sendStopDoff f s).telling s := (State.spoken_sendFloor _ _ _).eq_telling
  have timed : (sendStopDoff f v).cycle f = { s.cycle f with state := .stopping } := by
    rw [told, entered]
    exact Tab.get_set_self _ _ _
  rw [State.trigger, ← hv]
  refine congrArg (State.offerFrame f) ?_
  rw [State.modCycle, timed, told, entered, State.stopQueued, ← settings, spoken,
    ← Tab.set_set s.dcu.frames f { s.cycle f with state := .stopping }]
  rfl

theorem State.frameState_stopQueued : (s.stopQueued f).frameState f = .stopping := by
  rw [State.frameState, State.stopQueued]
  exact congrArg FrameCycle.state (Tab.get_set_self _ _ _)

/-- A pick is a claim, and no change of frame state. -/
theorem State.frameState_pick : (s.pick d).frameState f = s.frameState f := by
  unfold State.pick
  dsimp only
  split
  · rfl
  · rename_i g found
    by_cases same : g = f
    · subst same
      simp [State.modCycle, State.modDoffer, State.frameState]
    · simp [State.modCycle, State.modDoffer, State.frameState, same]

theorem State.frameState_trigger : (s.trigger f).frameState f = .stopping := by
  rw [State.trigger_eq, State.offerFrame]
  split
  · rw [State.frameState_pick, State.frameState_stopQueued]
  · exact State.frameState_stopQueued

/-! ### The delivery hand-off (R44, R132) -/

theorem exec_dcuDeliveryHandoff (h : s.Next (dcuLane f) (.dcuDeliveryHandoff f dL target)) :
    exec (.dcuDeliveryHandoff f dL target) s = .next ((s.drop (.dcuDeliveryHandoff f dL target)).takeDcuDelivery f dL target) :=
  congrArg Host.Outcome.next (State.handoffInOrder_next h)

theorem State.takeDcuDelivery_disabled (off : s.enabled f = false) : s.takeDcuDelivery f dL target = s :=
  if_neg (by simp [off])

theorem State.takeDcuDelivery_ready (on : s.enabled f = true) (ready : s.dcuReady f = s) :
    s.takeDcuDelivery f dL target =
      (if target = true ∧ (s.frameState f).spins = true then s.trigger f else s).startUp f dL := by
  rw [State.takeDcuDelivery, if_pos on, ready]

theorem State.startUp_other (h : s.frameState f ≠ .starting) : s.startUp f dL = s := if_neg h

theorem State.startUp_left (h : s.frameState f = .starting) (left : 0 < (s.cycle f).startUp - dL) :
    s.startUp f dL = s.setCycle f { s.cycle f with startUp := (s.cycle f).startUp - dL } :=
  (if_pos h).trans (if_neg left.ne')

theorem State.startUp_done (h : s.frameState f = .starting) (left : (s.cycle f).startUp - dL = 0) :
    s.startUp f dL =
      (s.setCycle f { s.cycle f with startUp := 0, state := .running }).emit (.frameRunningNotice f) := by
  have still : (s.modCycle f fun r => { r with startUp := (s.cycle f).startUp - dL }).frameState f = .starting := by
    rw [State.modCycle, State.frameState, State.cycle_setCycle]
    exact h
  refine (if_pos h).trans ((if_pos left).trans ((State.enterFrameState_started still).trans ?_))
  rw [State.modCycle, State.cycle_setCycle, State.setCycle_setCycle, left]

/-! ### The claim on a frame that enters HELD (R135) -/

theorem Doffer.freed_eq {r : Doffer} (h : r.reachPending = none) :
    r.freed = { r with state := .idle, frame := none, held := false, timer := none } := by
  rw [Doffer.freed, h]
  rfl

/-- A claim of no CLAIMING doffer ends on the frame's side alone. -/
theorem State.cancelClaim_free
    (h : (s.cycle f).claim = none ∨ ∃ d, (s.cycle f).claim = some d ∧ (s.doffer d).state ≠ .claiming) :
    s.cancelClaim f = s.setCycle f { s.cycle f with claim := none } := by
  unfold State.cancelClaim
  rcases h with free | ⟨d, claimed, other⟩
  · have same : { s.cycle f with claim := none } = s.cycle f := by rw [← free]
    rw [free, same, State.setCycle, State.cycle, Tab.set_self]
  · rw [claimed]
    exact if_neg other

/-- A CLAIMING doffer that finds no other frame in its reach is cancelled, IDLE and released. -/
theorem State.cancelClaim_claimed (claimed : (s.cycle f).claim = some d) (claiming : (s.doffer d).state = .claiming)
    (alone : ∀ g ∈ s.dcu.queue, (s.doffer d).freed.reaches g = false) :
    s.cancelClaim f =
      { sendDoffCancel d s with
        dcu := { s.dcu with
          frames := s.dcu.frames.set f { s.cycle f with claim := none }
          doffers := s.dcu.doffers.set d (s.doffer d).freed }
        inFlight := s.inFlight ++ [.dofferRelease d] } := by
  obtain ⟨v, hv⟩ : ∃ v : State, v = { sendDoffCancel d s with
      dcu := { s.dcu with
        frames := s.dcu.frames.set f { s.cycle f with claim := none }
        doffers := s.dcu.doffers.set d (s.doffer d).freed }
      inFlight := s.inFlight ++ [.dofferRelease d] } := ⟨_, rfl⟩
  have spoken : sendDoffCancel d s = (sendDoffCancel d s).telling s := (State.spoken_sendFloor _ _ _).eq_telling
  have idle : ((((sendDoffCancel d s).modCycle f fun r => { r with claim := none }).makeIdle d).emit (.dofferRelease d)) = v := by
    rw [hv, spoken]
    rfl
  have still : v.pick d = v := by
    refine State.pick_none fun g queued => ?_
    have freed : v.doffer d = (s.doffer d).freed := by
      rw [hv]
      exact Tab.get_set_self _ _ _
    rw [hv] at queued
    rw [freed]
    exact alone g queued
  rw [State.cancelClaim, claimed]
  dsimp only
  rw [if_pos claiming, idle, still, hv]

/-! ### The entry to HELD (R135) -/

theorem State.alarmHeld_eq : s.alarmHeld f cause =
    if cause = .stopTimeout ∨ cause = .doffTimeout then s.alarm .frameHeld 0 f.val cause.code else s := by
  cases cause <;> rfl

/-- A frame that is to be HELD, with its stop timer and its queue entry gone and its claim not yet cancelled. -/
def State.holding (f : FrameId) (cause : HoldCause) (s : State) : State :=
  { s with
    dcu := { s.dcu with
      frames := s.dcu.frames.set f { s.cycle f with cause := some cause, stopTimer := none }
      queue := s.dcu.queue.filter fun g => g != f } }

theorem State.cycle_holding : (s.holding f cause).cycle f = { s.cycle f with cause := some cause, stopTimer := none } :=
  Tab.get_set_self _ _ _

/-- The rest of the entry: the frame is HELD with the cancels of its piecing, HOLD-FRAME and the alarm, `t` being what the part
has sent before. -/
theorem State.enterHeld_of {doffers : Tab 8 Doffer} {queue : List FrameId} {inFlight : List Instr}
    (freed : (s.holding f cause).cancelClaim f =
      { t with
        dcu := { frames := s.dcu.frames.set f { s.cycle f with cause := some cause, claim := none, stopTimer := none },
                 doffers, queue }
        inFlight }) :
    s.enterHeld f cause = State.alarmHeld f cause
      { sendHoldFrame f t with
        dcu := { frames := s.dcu.frames.set f
                   { s.cycle f with state := .held, cause := some cause, claim := none, stopTimer := none },
                 doffers, queue }
        inFlight := inFlight ++ s.spinCancels f } := by
  obtain ⟨v, hv⟩ : ∃ v, v = (s.holding f cause).cancelClaim f := ⟨_, rfl⟩
  obtain ⟨w, hw⟩ : ∃ w, w = v.enterFrameState f .held := ⟨_, rfl⟩
  have cycle : v.cycle f = { s.cycle f with cause := some cause, claim := none, stopTimer := none } := by
    rw [hv, freed]
    exact Tab.get_set_self _ _ _
  have cancels : v.spinCancels f = s.spinCancels f := State.spinCancels_congr (by rw [State.frameState, cycle]; rfl)
  have entered := hw.trans (State.enterFrameState_stands (s := v) (f := f) (st := .held) rfl)
  rw [cycle, cancels, hv.trans freed] at entered
  have told : sendHoldFrame f w = (sendHoldFrame f t).telling w :=
    State.sendFloor_of_same (by rw [entered]; rfl) (by rw [entered]; rfl) _ _ _
  have spoken : sendHoldFrame f t = (sendHoldFrame f t).telling t := (State.spoken_sendFloor _ _ _).eq_telling
  have begun : s.enterHeld f cause = (sendHoldFrame f w).alarmHeld f cause := by rw [hw, hv]; rfl
  rw [begun, told, entered, spoken, ← Tab.set_set s.dcu.frames f
    { s.cycle f with cause := some cause, claim := none, stopTimer := none }
    { s.cycle f with state := .held, cause := some cause, claim := none, stopTimer := none }]
  rfl

theorem State.cancelClaim_holding_free
    (h : (s.cycle f).claim = none ∨ ∃ d, (s.cycle f).claim = some d ∧ (s.doffer d).state ≠ .claiming) :
    (s.holding f cause).cancelClaim f =
      { s with
        dcu := { s.dcu with
          frames := s.dcu.frames.set f { s.cycle f with cause := some cause, claim := none, stopTimer := none }
          queue := s.dcu.queue.filter fun g => g != f } } := by
  rw [State.cancelClaim_free (by rw [State.cycle_holding]; exact h), State.cycle_holding,
    ← Tab.set_set s.dcu.frames f { s.cycle f with cause := some cause, stopTimer := none }
      { s.cycle f with cause := some cause, claim := none, stopTimer := none }]
  rfl

theorem State.cancelClaim_holding_claimed (claimed : (s.cycle f).claim = some d) (claiming : (s.doffer d).state = .claiming)
    (alone : ∀ g ∈ s.dcu.queue.filter fun g => g != f, (s.doffer d).freed.reaches g = false) :
    (s.holding f cause).cancelClaim f =
      { sendDoffCancel d s with
        dcu := {
          frames := s.dcu.frames.set f { s.cycle f with cause := some cause, claim := none, stopTimer := none }
          doffers := s.dcu.doffers.set d (s.doffer d).freed
          queue := s.dcu.queue.filter fun g => g != f }
        inFlight := s.inFlight ++ [.dofferRelease d] } := by
  have told : sendDoffCancel d (s.holding f cause) = (sendDoffCancel d s).telling (s.holding f cause) :=
    State.sendFloor_of_same (s := s) (t := s.holding f cause) rfl rfl _ _ _
  have spoken : sendDoffCancel d s = (sendDoffCancel d s).telling s := (State.spoken_sendFloor _ _ _).eq_telling
  rw [State.cancelClaim_claimed (s := s.holding f cause) (by rw [State.cycle_holding]; exact claimed) claiming alone,
    State.cycle_holding, told, spoken,
    ← Tab.set_set s.dcu.frames f { s.cycle f with cause := some cause, stopTimer := none }
      { s.cycle f with cause := some cause, claim := none, stopTimer := none }]
  rfl

/-- Settles O34: the entry to HELD cancels the claim first, and a frame that the trigger has stopped has no start-up to count. -/
theorem stopsOfFrames : Obligations.StopsOfFrames := by
  refine ⟨fun f s => ?_, fun f cause s => ?_, fun f dL s => ?_, fun f dL s => ?_⟩
  · intro queued
    have triggered : s.trigger f = State.offerFrame f queued := State.trigger_eq
    exact ⟨fun alone => triggered.trans (State.offerFrame_none (s := queued) alone),
      fun d offered => triggered.trans (State.offerFrame_some (s := queued) offered)⟩
  · intro queue cancels raised held
    refine ⟨fun free => ?_, fun d claimed claiming noPending alone => ?_⟩
    · exact (State.enterHeld_of (State.cancelClaim_holding_free free)).trans State.alarmHeld_eq
    · have freed := Doffer.freed_eq noPending
      have ended := State.enterHeld_of (cause := cause) (State.cancelClaim_holding_claimed claimed claiming fun g queued => by
        rw [freed]
        exact alone g queued)
      rw [ended, State.alarmHeld_eq, freed, List.append_assoc]
      rfl
  · intro c next dau spu
    have ready : (s.drop c).dcuReady f = s.drop c := State.dcuReady_none (dau.drop c) (spu.drop c)
    refine ⟨fun off => ?_, fun on spins => ?_, fun on notRunning notStarting => ?_⟩
    · rw [exec_dcuDeliveryHandoff next, State.takeDcuDelivery_disabled (s := s.drop c) off]
    · rw [exec_dcuDeliveryHandoff next, State.takeDcuDelivery_ready (s := s.drop c) on ready,
        if_pos ⟨rfl, FrameState.spins_iff.2 spins⟩,
        State.startUp_other (by rw [State.frameState_trigger]; decide)]
    · have stands : ¬ ((s.frameState f).spins = true) := fun h => (FrameState.spins_iff.1 h).elim notRunning notStarting
      rw [exec_dcuDeliveryHandoff next, State.takeDcuDelivery_ready (s := s.drop c) on ready, if_neg fun h => stands h.2,
        State.startUp_other (s := s.drop c) notStarting]
  · intro c left next dau spu on
    have ready : (s.drop c).dcuReady f = s.drop c := State.dcuReady_none (dau.drop c) (spu.drop c)
    have taken : exec c s = .next ((s.drop c).startUp f dL) := by
      rw [exec_dcuDeliveryHandoff next, State.takeDcuDelivery_ready (s := s.drop c) on ready, if_neg fun h => nomatch h.1]
    refine ⟨fun other => ?_, fun starting more => ?_, fun starting done => ?_⟩
    · rw [taken, State.startUp_other (s := s.drop c) other]
    · rw [taken, State.startUp_left (s := s.drop c) starting more]
      rfl
    · rw [taken, State.startUp_done (s := s.drop c) starting done]
      rfl

end Sys2Proof.Machine
end

section
/-! One spindle's change (R55, R57), and what the SMU makes of a BREAK and of a RUN by the spindle's state (R58 to R62). -/

namespace Sys2Proof.Machine

variable {s : State} {f : FrameId} {side : Side} {i : Nat} {node seq sd : Nat}

/-! ### One spindle's change (R55, R57) -/

/-- A spindle's record replaced: the running count gains the new one, if it runs, and loses the old one, if it ran. -/
theorem FrameMap.running_put (m : FrameMap) (h : i < (m.side side).length) (sp : Spindle) :
    (m.put side i sp).running + (if ((m.side side)[i]?.getD .vacant).state = .running then 1 else 0) =
      max (m.running + (if sp.state = .running then 1 else 0))
        (if ((m.side side)[i]?.getD .vacant).state = .running then 1 else 0) := by
  rw [FrameMap.put, List.getElem?_eq_getElem h]
  exact Nat.sub_add_eq_max _ _

/-- Settles O19: the map is the one with the record put in, and the notices are those of a list of one change. -/
theorem changeOfStateIsNotified : Obligations.ChangeOfStateIsNotified := by
  intro f side i sp s held old t g
  refine ⟨State.spindle_change f held sp, fun f' side' j other => State.spindle_change_ne other sp, ?_, ?_,
    State.inFlight_change f side i sp, rfl⟩
  · have running := FrameMap.running_put (s.map f) held sp.settle
    rw [Spindle.settle_state] at running
    rw [State.map_change]
    exact running
  · rw [State.map_change, FrameMap.put_populated]

/-! ### The checks of a BREAK and of a RUN (R58) -/

section

variable {take : State → State} (none : s.NoneFlying (smuFirst f))

include none

theorem State.spindleReport_vacant (vacant : (s.spindle f side i).state = .vacant) :
    s.spindleReport f side i take = s.countMalformed := by
  rw [State.spindleReport, State.smuReady_none none]
  exact if_pos vacant

theorem State.spindleReport_stands (held : (s.spindle f side i).state ≠ .vacant) (notRunning : s.frameState f ≠ .running)
    (notStarting : s.frameState f ≠ .starting) : s.spindleReport f side i take = s.bump .stoppedFrame := by
  have stands : (s.frameState f).spins = false :=
    Bool.eq_false_iff.2 fun spins => (FrameState.spins_iff.1 spins).elim notRunning notStarting
  rw [State.spindleReport, State.smuReady_none none]
  exact (if_neg held).trans (if_pos (by rw [stands]; rfl))

theorem State.spindleReport_spins (held : (s.spindle f side i).state ≠ .vacant)
    (spins : s.frameState f = .running ∨ s.frameState f = .starting) : s.spindleReport f side i take = take s := by
  rw [State.spindleReport, State.smuReady_none none]
  exact (if_neg held).trans (if_neg (by rw [FrameState.spins_iff.2 spins]; decide))

end

theorem exec_breakReport : exec (.breakReport node seq sd i) s = .next (s.report (.breakReport node seq sd i)
    (State.spindleReport (frameAt node) (sideAt sd) i (State.takeBreak (frameAt node) (sideAt sd) i))) := rfl

theorem exec_runReport : exec (.runReport node seq sd i) s = .next (s.report (.runReport node seq sd i)
    (State.spindleReport (frameAt node) (sideAt sd) i (State.takeRun (frameAt node) (sideAt sd) i))) := rfl

section

variable {c : Instr} {take : State → State} (none : s.NoneFlying (smuFirst f)) (takes : s.Takes c)

include none takes

theorem State.report_vacant (vacant : (s.spindle f side i).state = .vacant) :
    s.report c (State.spindleReport f side i take) = (s.copyReport c).countMalformed := by
  rw [State.report_accepted takes, State.spindleReport_vacant (none.copyReport c) (by rwa [State.spindle_copyReport])]

theorem State.report_stands (held : (s.spindle f side i).state ≠ .vacant) (notRunning : s.frameState f ≠ .running)
    (notStarting : s.frameState f ≠ .starting) :
    s.report c (State.spindleReport f side i take) = (s.copyReport c).bump .stoppedFrame := by
  rw [State.report_accepted takes, State.spindleReport_stands (none.copyReport c) (by rwa [State.spindle_copyReport])
    (by rwa [State.frameState_copyReport]) (by rwa [State.frameState_copyReport])]

theorem State.report_spins (held : (s.spindle f side i).state ≠ .vacant)
    (spins : s.frameState f = .running ∨ s.frameState f = .starting) :
    s.report c (State.spindleReport f side i take) = take (s.copyReport c) := by
  rw [State.report_accepted takes, State.spindleReport_spins (none.copyReport c) (by rwa [State.spindle_copyReport])
    (by rwa [State.frameState_copyReport])]

end

/-! ### A BROKEN spindle and a failed attempt (R56, R60, R66, R69) -/

theorem State.makeBroken_eq (sp : Spindle) : s.makeBroken f side i sp =
    s.change f side i { sp with state := if s.groupEmpty f side i then .starved else .broken } := rfl

theorem State.failAttempt_limit (h : (s.article f).attemptLimit ≤ (s.spindle f side i).attempts + 1) :
    s.failAttempt f side i = s.makeRogue f side i .attempts
      { s.spindle f side i with attempts := (s.spindle f side i).attempts + 1 } := if_pos h

theorem State.failAttempt_below (h : (s.spindle f side i).attempts + 1 < (s.article f).attemptLimit) :
    s.failAttempt f side i = s.makeBroken f side i
      { s.spindle f side i with attempts := (s.spindle f side i).attempts + 1 } := if_neg (Nat.not_le.2 h)

/-! ### A BREAK by the spindle's state (R59 to R61) -/

theorem State.takeBreak_unknown (h : (s.spindle f side i).state = .unknown) :
    s.takeBreak f side i = s.makeBroken f side i (s.spindle f side i) := by rw [State.takeBreak, h]

theorem State.takeBreak_duplicate (h : (s.spindle f side i).state = .broken ∨ (s.spindle f side i).state = .assigned
      ∨ (s.spindle f side i).state = .starved ∨ (s.spindle f side i).state = .rogue) :
    s.takeBreak f side i = s.bump .duplicate := by
  rw [State.takeBreak]
  obtain h | h | h | h := h <;> rw [h] <;> rfl

theorem State.takeBreak_verify (h : (s.spindle f side i).state = .verify) :
    s.takeBreak f side i = (s.emit (.verifyEntryRemove f side i)).failAttempt f side i := by rw [State.takeBreak, h]

/-- A BREAK on a RUNNING spindle, by its group and its frame (R59). -/
theorem State.takeBreak_running (h : (s.spindle f side i).state = .running) : s.takeBreak f side i =
    if s.groupEmpty f side i then (s.change f side i { s.spindle f side i with state := .starved }).emit (.scuRovingEndBreak f)
    else if s.frameState f = .running then
      if (s.article f).repeatLimit ≤ min ((s.spindle f side i).repeats + 1) 15 then
        ((s.emit (.scuBreak f)).emit (.monitoredBreak f)).makeRogue f side i .repeats
          { s.spindle f side i with repeats := min ((s.spindle f side i).repeats + 1) 15 }
      else
        ((s.emit (.scuBreak f)).emit (.monitoredBreak f)).change f side i
          { s.spindle f side i with repeats := min ((s.spindle f side i).repeats + 1) 15, state := .broken }
    else (s.emit (.scuBreak f)).change f side i { s.spindle f side i with state := .broken } := by
  simp only [State.takeBreak, h]

/-! ### A RUN by the spindle's state (R61, R62) -/

theorem State.takeRun_duplicate (h : (s.spindle f side i).state = .running) : s.takeRun f side i = s.bump .duplicate := by
  rw [State.takeRun, h]
  rfl

theorem State.takeRun_idle (h : (s.spindle f side i).state = .unknown ∨ (s.spindle f side i).state = .broken
      ∨ (s.spindle f side i).state = .starved) :
    s.takeRun f side i = s.change f side i { s.spindle f side i with state := .running } := by
  rw [State.takeRun]
  obtain h | h | h := h <;> rw [h]

theorem State.takeRun_assigned (h : (s.spindle f side i).state = .assigned) : s.takeRun f side i =
    (s.emit (.satisfiedNotice f side i)).change f side i { s.spindle f side i with state := .running } := by
  rw [State.takeRun, h]

theorem State.takeRun_verify (h : (s.spindle f side i).state = .verify) : s.takeRun f side i =
    (s.emit (.verifyEntryRemove f side i)).change f side i { s.spindle f side i with state := .running } := by
  rw [State.takeRun, h]

theorem State.takeRun_rogue (h : (s.spindle f side i).state = .rogue) : s.takeRun f side i =
    (s.change f side i { s.spindle f side i with state := .running }).setRogues
      (s.smu.rogues.filter fun e => !(e.frame == f && e.side == side && e.index == i)) := by
  rw [State.takeRun, h]
  rfl

/-- Settles O20: what `takeBreak` does on the state that the copy to the plant controller leaves. -/
theorem breaksByState : Obligations.BreaksByState := by
  refine ⟨?_, ?_, ?_⟩
  · intro node seq sd i s c f side sp s1 raised takes none running
    have held : sp.state ≠ .vacant := by rw [running]; decide
    have taken (spins : s.frameState f = .running ∨ s.frameState f = .starting) : exec c s = .next (s1.takeBreak f side i) := by
      rw [exec_breakReport, State.report_spins none takes held spins]
    have same : s1.spindle f side i = sp := State.spindle_copyReport c f side i
    have group : s1.groupEmpty f side i = s.groupEmpty f side i := State.groupEmpty_copyReport c
    have frame : s1.frameState f = s.frameState f := State.frameState_copyReport c f
    have article : s1.article f = s.article f := State.article_copyReport c f
    have broken := State.takeBreak_running (s := s1) (f := f) (side := side) (i := i) (by rwa [same])
    rw [same, group, frame, article] at broken
    refine ⟨fun empty spins => ?_, fun stocked starting => ?_, fun stocked spins below => ?_, fun stocked spins limit => ?_,
      fun notRunning notStarting => ?_⟩
    · rw [taken spins, broken, if_pos empty]
    · rw [taken (.inr starting), broken, if_neg (by rw [stocked]; decide), if_neg (by rw [starting]; decide)]
    · rw [taken (.inl spins), broken, if_neg (by rw [stocked]; decide), if_pos spins, if_neg (Nat.not_le.2 below)]
    · rw [taken (.inl spins), broken, if_neg (by rw [stocked]; decide), if_pos spins, if_pos limit]
    · rw [exec_breakReport, State.report_stands none takes held notRunning notStarting]
  · intro node seq sd i s c f side sp raised s1 takes none spins verify
    have held : sp.state ≠ .vacant := by rw [verify]; decide
    have taken : exec c s = .next (s1.failAttempt f side i) := by
      rw [exec_breakReport, State.report_spins none takes held spins,
        State.takeBreak_verify (by rwa [State.spindle_copyReport])]
    have same : s1.spindle f side i = sp := State.spindle_copyReport c f side i
    have limit : (s1.article f).attemptLimit = (s.article f).attemptLimit :=
      congrArg Article.attemptLimit (State.article_copyReport c f)
    have empty : s1.groupEmpty f side i = s.groupEmpty f side i := State.groupEmpty_copyReport c
    refine ⟨fun below => ?_, fun reached => ?_⟩
    · rw [taken, State.failAttempt_below (s := s1) (by rwa [same, limit]), State.makeBroken_eq, same, empty]
    · rw [taken, State.failAttempt_limit (s := s1) (by rwa [same, limit]), same]
  · intro node seq sd i s c f sp takes none
    refine ⟨fun vacant => ?_, fun held notRunning notStarting => ?_⟩
    · rw [exec_breakReport, State.report_vacant none takes vacant]
    · rw [exec_breakReport, State.report_stands none takes held notRunning notStarting]

/-- Settles O21: the cases of `takeBreak` that count no break, and the case of `takeRun` that finds the spindle RUNNING. -/
theorem uncountedAndDuplicateReports : Obligations.UncountedAndDuplicateReports := by
  intro node seq sd i s f side sp none spins
  refine ⟨fun takes => ⟨fun unknown => ?_, fun other => ?_⟩, fun takes running => ?_⟩
  · have held : sp.state ≠ .vacant := by rw [unknown]; decide
    rw [exec_breakReport, State.report_spins none takes held spins, State.takeBreak_unknown (by rwa [State.spindle_copyReport]),
      State.makeBroken_eq, State.spindle_copyReport, State.groupEmpty_copyReport]
  · have held : sp.state ≠ .vacant := by obtain h | h | h | h := other <;> rw [h] <;> decide
    rw [exec_breakReport, State.report_spins none takes held spins, State.takeBreak_duplicate (by rwa [State.spindle_copyReport])]
  · have held : sp.state ≠ .vacant := by rw [running]; decide
    rw [exec_runReport, State.report_spins none takes held spins, State.takeRun_duplicate (by rwa [State.spindle_copyReport])]

/-! ### The PCD's requests (R65 to R67, R69) -/

section

variable (none : s.NoneFlying (smuFirst f))

include none

theorem exec_piecingRequest {verify : Bool} (h : s.Next (pcdToSmu f) (.piecingRequest f side i verify)) :
    exec (.piecingRequest f side i verify) s =
      .next ((s.drop (.piecingRequest f side i verify)).takePiecing f side i verify) := by
  rw [exec, execPiecingRequest, State.handoffInOrder_next h, smuTake, State.smuReady_none (none.drop _)]

theorem exec_failureRequest (h : s.Next (pcdToSmu f) (.failureRequest f side i)) :
    exec (.failureRequest f side i) s = .next ((s.drop (.failureRequest f side i)).takeFailure f side i) := by
  rw [exec, execFailureRequest, State.handoffInOrder_next h, smuTake, State.smuReady_none (none.drop _)]

theorem exec_withdrawRequest (h : s.Next (pcdToSmu f) (.withdrawRequest f side i)) :
    exec (.withdrawRequest f side i) s = .next ((s.drop (.withdrawRequest f side i)).takeWithdraw f side i) := by
  rw [exec, execWithdrawRequest, State.handoffInOrder_next h, smuTake, State.smuReady_none (none.drop _)]

theorem exec_verifyExpiry (h : s.Next (pcdToSmu f) (.verifyExpiry f side i)) :
    exec (.verifyExpiry f side i) s = .next ((s.drop (.verifyExpiry f side i)).takeVerifyExpiry f side i) := by
  rw [exec, execVerifyExpiry, State.handoffInOrder_next h, smuTake, State.smuReady_none (none.drop _)]

end

/-- Settles O23: each request is taken alone, and what takes it tests the spindle's state as the statement does. -/
theorem dispatcherRequestsAtTheMap : Obligations.DispatcherRequestsAtTheMap := by
  refine ⟨?_, fun f side i s => rfl⟩
  intro f side i s sp piecing failure withdraw expiry none
  refine ⟨fun v next => exec_piecingRequest none next, fun next => exec_failureRequest none next,
    fun next => exec_withdrawRequest none next, fun next => exec_verifyExpiry none next⟩

end Sys2Proof.Machine
end

section
/-! Many spindles of a frame change in one event: their records, the running count and the notices (R55, R57). -/

namespace Sys2Proof.Machine

variable {s : State} {f : FrameId} {side : Side} {i : Nat} {upd : Side → Nat → Spindle → Spindle}

/-! ### The records -/

/-- What an event makes of each spindle, with the attempt count of one that enters RUNNING at 0 (R57). -/
def settling (upd : Side → Nat → Spindle → Spindle) (side : Side) (i : Nat) (sp : Spindle) : Spindle :=
  if (upd side i sp).state = sp.state then upd side i sp else (upd side i sp).settle

theorem settling_state (sp : Spindle) : (settling upd side i sp).state = (upd side i sp).state := by
  unfold settling
  split
  · rfl
  · exact Spindle.settle_state _

theorem settling_of_attempts {sp : Spindle} (h : (upd side i sp).state = .running → (upd side i sp).attempts = 0) :
    settling upd side i sp = upd side i sp := by
  unfold settling Spindle.settle
  split
  · rfl
  · split
    · rw [← h ‹_›]
    · rfl

theorem settling_of_eq {sp : Spindle} (h : upd side i sp = sp) : settling upd side i sp = sp := by
  rw [settling, h, if_pos rfl]

theorem FrameMap.side_remap (m : FrameMap) (side : Side) : (m.remap upd).side side = (m.side side).mapIdx (upd side) := by
  cases side <;> rfl

theorem FrameMap.populated_remap (m : FrameMap) : (m.remap upd).populated = m.populated := rfl

theorem State.map_changeMany : (s.changeMany f upd).map f = (s.map f).remap (settling upd) := State.map_setMap s f _

theorem State.map_changeMany_ne {f' : FrameId} (h : f' ≠ f) : (s.changeMany f upd).map f' = s.map f' :=
  State.map_setMap_ne s h.symm _

/-- An event that leaves vacant places vacant makes of every spindle what it makes of its record. -/
theorem State.spindle_changeMany (vacant : upd side i .vacant = .vacant) :
    (s.changeMany f upd).spindle f side i = settling upd side i (s.spindle f side i) := by
  rw [State.spindle, State.map_changeMany, FrameMap.side_remap, List.getElem?_mapIdx, State.spindle]
  cases ((s.map f).side side)[i]? with
  | none => exact (settling_of_eq vacant).symm
  | some sp => rfl

theorem State.spindle_changeMany_ne {f' : FrameId} (h : f' ≠ f) (side : Side) (i : Nat) :
    (s.changeMany f upd).spindle f' side i = s.spindle f' side i := by
  rw [State.spindle, State.map_changeMany_ne h, State.spindle]

theorem State.getElem?_of_spindle (h : (s.spindle f side i).state ≠ .vacant) :
    ((s.map f).side side)[i]? = some (s.spindle f side i) := by
  rw [State.spindle] at h ⊢
  cases e : ((s.map f).side side)[i]? with
  | none => exact absurd (by rw [e]; rfl) h
  | some sp => rfl

/-- A change of many spindles reaches the maps and the hand-offs alone. -/
theorem State.changeMany_eq : s.changeMany f upd =
    { s with smu := { s.smu with maps := (s.changeMany f upd).smu.maps }, inFlight := (s.changeMany f upd).inFlight } := rfl

/-! ### The notices (R57) -/

/-- The changes of state of a frame's spindles, side A before side B, each in ascending index. -/
def State.changes (s : State) (f : FrameId) (upd : Side → Nat → Spindle → Spindle) : List Change :=
  changesOf .A upd (s.map f).sideA ++ changesOf .B upd (s.map f).sideB

theorem mem_changesOf {l : List Spindle} {c : Change} : c ∈ changesOf side upd l ↔
    ∃ i sp, l[i]? = some sp ∧ c = { side, index := i, before := sp.state, after := (upd side i sp).state } := by
  simp only [changesOf, List.mem_mapIdx, List.getElem?_eq_some_iff]
  constructor
  · rintro ⟨i, held, rfl⟩
    exact ⟨i, _, ⟨held, rfl⟩, rfl⟩
  · rintro ⟨i, _, ⟨held, rfl⟩, rfl⟩
    exact ⟨i, held, rfl⟩

theorem State.mem_changes {c : Change} : c ∈ s.changes f upd ↔
    ∃ side i sp, ((s.map f).side side)[i]? = some sp
      ∧ c = { side, index := i, before := sp.state, after := (upd side i sp).state } := by
  rw [State.changes, List.mem_append, mem_changesOf, mem_changesOf]
  constructor
  · rintro (h | h)
    · exact ⟨.A, h⟩
    · exact ⟨.B, h⟩
  · rintro ⟨side, h⟩
    cases side
    · exact .inl h
    · exact .inr h

/-- No two changes of an event are of the same spindle. -/
theorem State.changes_pairwise :
    (s.changes f upd).Pairwise fun c d => (c.side, c.index) ≠ (d.side, d.index) := by
  have each (side : Side) (l : List Spindle) :
      (changesOf side upd l).Pairwise fun c d => (c.side, c.index) ≠ (d.side, d.index) := by
    rw [changesOf, List.pairwise_iff_getElem]
    intro i j hi hj before
    simp only [List.getElem_mapIdx, ne_eq, Prod.mk.injEq, true_and]
    omega
  rw [State.changes, List.pairwise_append]
  refine ⟨each _ _, each _ _, fun c hc d hd => ?_⟩
  obtain ⟨i, sp, -, rfl⟩ := mem_changesOf.1 hc
  obtain ⟨j, sp', -, rfl⟩ := mem_changesOf.1 hd
  exact fun same => nomatch congrArg Prod.fst same

theorem nodup_eraseDups {α : Type} [BEq α] [LawfulBEq α] (l : List α) : l.eraseDups.Nodup := by
  induction h : l.length using Nat.strongRecOn generalizing l with
  | ind n ih =>
    cases l with
    | nil => simp
    | cons a rest =>
      rw [List.eraseDups_cons, List.nodup_cons]
      refine ⟨by simp, ih _ ?_ _ rfl⟩
      have := List.length_filter_le (fun b => !b == a) rest
      rw [List.length_cons] at h
      omega

/-- The notices to the PCD of an event's changes. -/
def brokenNotices (f : FrameId) (changes : List Change) : List Instr :=
  changes.filterMap fun c =>
    if c.after = .broken ∧ c.before ≠ .broken then some (Instr.brokenNotice f c.side c.index) else none

/-- The groups of the spindles that changes take out of ASSIGNED. -/
def State.groupsLeft (s : State) (f : FrameId) (changes : List Change) : List GroupId :=
  (changes.filterMap fun c =>
    if c.before = .assigned ∧ c.after ≠ .assigned then some ((s.entry f).groupOf c.side c.index) else none).eraseDups

/-- The notices to the RSU of an event's changes: of the groups left, those with no ASSIGNED spindle. -/
def State.lastNotices (s : State) (f : FrameId) (changes : List Change) : List Instr :=
  ((s.groupsLeft f changes).filter fun g => !s.groupAssigned f g).map (Instr.lastAssignedNotice f)

theorem State.notices_eq (changes : List Change) :
    s.notices f changes = s.emitAll (brokenNotices f changes ++ s.lastNotices f changes) := rfl

theorem mem_filterMap_ite {α β : Type} {l : List α} {p : α → Prop} [DecidablePred p] {k : α → β} {b : β} :
    b ∈ l.filterMap (fun a => if p a then some (k a) else none) ↔ ∃ a ∈ l, p a ∧ b = k a := by
  rw [List.mem_filterMap]
  refine exists_congr fun a => and_congr_right fun _ => ?_
  split
  · rename_i holds
    exact ⟨fun e => ⟨holds, (Option.some.inj e).symm⟩, fun e => congrArg some e.2.symm⟩
  · rename_i fails
    exact ⟨nofun, fun e => absurd e.1 fails⟩

theorem mem_brokenNotices {changes : List Change} {h : Instr} : h ∈ brokenNotices f changes ↔
    ∃ c ∈ changes, (c.after = .broken ∧ c.before ≠ .broken) ∧ h = .brokenNotice f c.side c.index := mem_filterMap_ite

theorem State.mem_groupsLeft {changes : List Change} {g : GroupId} : g ∈ s.groupsLeft f changes ↔
    ∃ c ∈ changes, (c.before = .assigned ∧ c.after ≠ .assigned) ∧ g = (s.entry f).groupOf c.side c.index :=
  List.mem_eraseDups.trans mem_filterMap_ite

theorem State.mem_lastNotices {changes : List Change} {h : Instr} : h ∈ s.lastNotices f changes ↔
    ∃ c ∈ changes, (c.before = .assigned ∧ c.after ≠ .assigned
      ∧ s.groupAssigned f ((s.entry f).groupOf c.side c.index) = false)
      ∧ h = .lastAssignedNotice f ((s.entry f).groupOf c.side c.index) := by
  simp only [State.lastNotices, List.mem_map, List.mem_filter, State.mem_groupsLeft, Bool.not_eq_true']
  constructor
  · rintro ⟨_, ⟨⟨c, mem, ⟨before, after⟩, rfl⟩, alone⟩, rfl⟩
    exact ⟨c, mem, ⟨before, after, alone⟩, rfl⟩
  · rintro ⟨c, mem, ⟨before, after, alone⟩, rfl⟩
    exact ⟨_, ⟨⟨c, mem, ⟨before, after⟩, rfl⟩, alone⟩, rfl⟩

/-- The notices of an event are all different: one of each new BROKEN spindle, one of each group. -/
theorem State.notices_nodup {t : State} :
    (brokenNotices f (s.changes f upd) ++ t.lastNotices f (s.changes f upd)).Nodup := by
  refine List.nodup_append.2 ⟨?_, ?_, fun b hb l hl => ?_⟩
  · refine List.Pairwise.filterMap _ (fun c d other b hb b' hb' => ?_) State.changes_pairwise
    obtain ⟨-, ⟨⟩⟩ := Option.ite_none_right_eq_some.1 hb
    obtain ⟨-, ⟨⟩⟩ := Option.ite_none_right_eq_some.1 hb'
    exact fun same => other (by simpa using same)
  · exact ((nodup_eraseDups _).filter _).map fun _ _ same => (Instr.lastAssignedNotice.inj same).2
  · obtain ⟨c, -, -, rfl⟩ := mem_brokenNotices.1 hb
    obtain ⟨d, -, -, rfl⟩ := State.mem_lastNotices.1 hl
    exact nofun

/-- What is true of a change that moves its spindle is true of some change exactly where it is true at some spindle. -/
theorem State.exists_change (vacant : ∀ side i, upd side i .vacant = .vacant) {P : Change → Prop}
    (moves : ∀ c, P c → c.after ≠ c.before) :
    (∃ c ∈ s.changes f upd, P c) ↔
      ∃ side i, P { side, index := i, before := (s.spindle f side i).state,
                    after := (upd side i (s.spindle f side i)).state } := by
  constructor
  · rintro ⟨c, mem, holds⟩
    obtain ⟨side, i, sp, place, rfl⟩ := State.mem_changes.1 mem
    obtain rfl : s.spindle f side i = sp := by rw [State.spindle, place, Option.getD_some]
    exact ⟨side, i, holds⟩
  · rintro ⟨side, i, holds⟩
    cases place : ((s.map f).side side)[i]? with
    | none =>
      have gone : s.spindle f side i = .vacant := by rw [State.spindle, place, Option.getD_none]
      exact absurd (by rw [gone, vacant]) (moves _ holds)
    | some sp =>
      obtain rfl : s.spindle f side i = sp := by rw [State.spindle, place, Option.getD_some]
      exact ⟨_, State.mem_changes.2 ⟨side, i, _, place, rfl⟩, holds⟩

/-- The hand-offs that an event makes of the changes of many spindles: to the PCD of every spindle that enters BROKEN, to the RSU
of every group that has lost its last ASSIGNED spindle, each once (R57). -/
theorem State.inFlight_changeMany (vacant : ∀ side i, upd side i .vacant = .vacant) :
    let t := s.changeMany f upd
    ∃ notices, t.inFlight = s.inFlight ++ notices ∧ notices.Nodup
      ∧ ∀ h, h ∈ notices ↔
          (∃ side i, ((t.spindle f side i).state = .broken ∧ (s.spindle f side i).state ≠ .broken)
            ∧ h = .brokenNotice f side i)
          ∨ ∃ side i, ((s.spindle f side i).state = .assigned ∧ (t.spindle f side i).state ≠ .assigned
              ∧ t.groupAssigned f ((s.entry f).groupOf side i) = false)
              ∧ h = .lastAssignedNotice f ((s.entry f).groupOf side i) := by
  intro t
  have settled : ∀ side i, settling upd side i .vacant = .vacant := fun side i => settling_of_eq (vacant side i)
  have record : ∀ side i, settling upd side i (s.spindle f side i) = t.spindle f side i := fun side i =>
    (State.spindle_changeMany (vacant side i)).symm
  have made : t = (s.setMap f ((s.map f).remap (settling upd))).emitAll
      (brokenNotices f (s.changes f (settling upd)) ++ t.lastNotices f (s.changes f (settling upd))) := State.notices_eq _
  refine ⟨brokenNotices f (s.changes f (settling upd)) ++ t.lastNotices f (s.changes f (settling upd)),
    congrArg State.inFlight made, State.notices_nodup, fun h => ?_⟩
  rw [List.mem_append, mem_brokenNotices, State.mem_lastNotices,
    State.exists_change settled fun c holds => by rw [holds.1.1]; exact holds.1.2.symm,
    State.exists_change settled fun c holds => by rw [holds.1.1]; exact holds.1.2.1]
  simp only [record]
  rfl

theorem State.groupAssigned_none (h : ∀ side i, (s.spindle f side i).state ≠ .assigned) (g : GroupId) :
    s.groupAssigned f g = false := by
  rw [State.groupAssigned, List.any_eq_false]
  rintro ⟨sp, i⟩ mem both
  have place := List.mem_zipIdx_iff_getElem?.1 mem
  have assigned := h (groupSide g) i
  rw [State.spindle, place, Option.getD_some] at assigned
  simp [assigned] at both

end Sys2Proof.Machine
end

section
/-! The cancel, the doff completion and the starve of the spindles of a frame (R70, R71, R74), and the refill of a group (R72,
R163). -/

namespace Sys2Proof.Machine

variable {s : State} {f : FrameId} {g : GroupId} {side : Side} {i : Nat}

/-! ### The cancel of a frame's piecing (R70) -/

theorem exec_smuPiecingCancel (h : s.Next (smuFirst f) (.smuPiecingCancel f)) :
    exec (.smuPiecingCancel f) s = .next ((s.drop (.smuPiecingCancel f)).cancelSpindles f) :=
  congrArg Host.Outcome.next (State.handoffInOrder_next h)

theorem State.brokenState_ne (st : SpindleState) (broken : st ≠ .broken) (starved : st ≠ .starved) :
    s.brokenState f side i ≠ st := by
  unfold State.brokenState
  split
  · exact starved.symm
  · exact broken.symm

theorem State.brokenState_eq_broken : s.brokenState f side i = .broken ↔ s.groupEmpty f side i = false := by
  unfold State.brokenState
  cases s.groupEmpty f side i <;> decide

theorem State.spindle_cancelSpindles : (s.cancelSpindles f).spindle f side i =
    if (s.spindle f side i).state = .assigned ∨ (s.spindle f side i).state = .verify then
      { s.spindle f side i with state := s.brokenState f side i }
    else s.spindle f side i := by
  refine (State.spindle_changeMany (if_neg (by decide))).trans ?_
  by_cases pieced : (s.spindle f side i).state = .assigned ∨ (s.spindle f side i).state = .verify
  · refine (settling_of_attempts fun running => ?_)
    rw [if_pos pieced] at running
    exact absurd running (State.brokenState_ne _ (by decide) (by decide))
  · rw [if_neg pieced]
    exact settling_of_eq (if_neg pieced)

/-- No spindle of the frame is left ASSIGNED by its cancel. -/
theorem State.cancelSpindles_noneAssigned : ((s.cancelSpindles f).spindle f side i).state ≠ .assigned := by
  rw [State.spindle_cancelSpindles]
  split
  · exact State.brokenState_ne _ (by decide) (by decide)
  · rename_i other
    exact fun assigned => other (.inl assigned)

theorem State.cancelSpindles_broken :
    ((s.cancelSpindles f).spindle f side i).state = .broken ∧ (s.spindle f side i).state ≠ .broken ↔
      ((s.spindle f side i).state = .assigned ∨ (s.spindle f side i).state = .verify)
        ∧ s.groupEmpty f side i = false := by
  rw [State.spindle_cancelSpindles]
  split
  · rename_i pieced
    have other : (s.spindle f side i).state ≠ .broken := by obtain e | e := pieced <;> rw [e] <;> decide
    rw [State.brokenState_eq_broken]
    exact ⟨fun h => ⟨pieced, h.1⟩, fun h => ⟨h.2, other⟩⟩
  · rename_i other
    exact ⟨fun h => absurd h.1 h.2, fun h => absurd h.1 other⟩

theorem State.inFlight_cancelSpindles :
    ∃ notices, (s.cancelSpindles f).inFlight = s.inFlight ++ notices ∧ notices.Nodup
      ∧ ∀ h, h ∈ notices ↔
          (∃ side i, ((s.spindle f side i).state = .assigned ∨ (s.spindle f side i).state = .verify)
            ∧ s.groupEmpty f side i = false ∧ h = .brokenNotice f side i)
          ∨ ∃ side i, (s.spindle f side i).state = .assigned ∧ h = .lastAssignedNotice f ((s.entry f).groupOf side i) := by
  obtain ⟨notices, flying, once, mem⟩ := State.inFlight_changeMany (s := s) (f := f)
    (upd := fun side i sp =>
      if sp.state = .assigned ∨ sp.state = .verify then { sp with state := s.brokenState f side i } else sp)
    fun _ _ => if_neg (by decide)
  refine ⟨notices, flying, once, fun h => (mem h).trans (or_congr ?_ ?_)⟩
  · exact exists₂_congr fun side i => (and_congr_left' State.cancelSpindles_broken).trans and_assoc
  · refine exists₂_congr fun side i => and_congr_left' ⟨fun left => left.1, fun assigned => ⟨assigned, ?_, ?_⟩⟩
    · exact State.cancelSpindles_noneAssigned
    · exact State.groupAssigned_none (fun _ _ => State.cancelSpindles_noneAssigned) _

/-! ### The doff completion of a frame (R74) -/

theorem exec_spindleDoffCompletion (h : s.Next (smuFirst f) (.spindleDoffCompletion f)) :
    exec (.spindleDoffCompletion f) s = .next ((s.drop (.spindleDoffCompletion f)).doffSpindles f) :=
  congrArg Host.Outcome.next (State.handoffInOrder_next h)

/-- A spindle after the doff completion of its frame (R74). -/
def Spindle.doffed (sp : Spindle) : Spindle :=
  match sp.state with
  | .vacant => sp
  | .rogue => { state := .rogue, attempts := 0, repeats := 0 }
  | .starved => { state := .starved, attempts := 0, repeats := 0 }
  | _ => { state := .running, attempts := 0, repeats := 0 }

theorem Spindle.doffed_attempts (sp : Spindle) (h : sp.doffed.state = .running) : sp.doffed.attempts = 0 := by
  unfold Spindle.doffed at h ⊢
  split
  · rename_i vacant
    rw [vacant] at h
    exact absurd (vacant.symm.trans h) (by decide)
  all_goals rfl

theorem Spindle.doffed_state (sp : Spindle) :
    sp.doffed.state = .vacant ∨ sp.doffed.state = .rogue ∨ sp.doffed.state = .starved ∨ sp.doffed.state = .running := by
  unfold Spindle.doffed
  split
  · exact .inl ‹_›
  · exact .inr (.inl rfl)
  · exact .inr (.inr (.inl rfl))
  · exact .inr (.inr (.inr rfl))

theorem State.spindle_doffSpindles : (s.doffSpindles f).spindle f side i = (s.spindle f side i).doffed :=
  (State.spindle_changeMany rfl).trans (settling_of_attempts (Spindle.doffed_attempts _))

theorem State.doffSpindles_state_ne {st : SpindleState} (pieced : st = .assigned ∨ st = .broken) :
    ((s.doffSpindles f).spindle f side i).state ≠ st := by
  rw [State.spindle_doffSpindles]
  obtain rfl | rfl := pieced <;> obtain e | e | e | e := Spindle.doffed_state (s.spindle f side i) <;> rw [e] <;> decide

theorem State.inFlight_doffSpindles :
    ∃ notices, (s.doffSpindles f).inFlight = s.inFlight ++ notices ∧ notices.Nodup
      ∧ ∀ h, h ∈ notices ↔
          ∃ side i, (s.spindle f side i).state = .assigned ∧ h = .lastAssignedNotice f ((s.entry f).groupOf side i) := by
  obtain ⟨notices, flying, once, mem⟩ := State.inFlight_changeMany (s := s) (f := f) (upd := fun _ _ => Spindle.doffed)
    fun _ _ => rfl
  refine ⟨notices, flying, once, fun h => (mem h).trans ?_⟩
  constructor
  · rintro (⟨side, i, ⟨broken, -⟩, -⟩ | ⟨side, i, ⟨assigned, -⟩, e⟩)
    · exact absurd broken (State.doffSpindles_state_ne (.inr rfl))
    · exact ⟨side, i, assigned, e⟩
  · rintro ⟨side, i, assigned, e⟩
    exact .inr ⟨side, i, ⟨assigned, State.doffSpindles_state_ne (.inl rfl),
      State.groupAssigned_none (fun _ _ => State.doffSpindles_state_ne (.inl rfl)) _⟩, e⟩

/-! ### The starve and the unstarve of a group (R71, R72) -/

/-- The spindles of a group that stand in state `a` enter state `b`. -/
def movingGroup (e : FrameEntry) (g : GroupId) (a b : SpindleState) (side : Side) (i : Nat) (sp : Spindle) : Spindle :=
  if sp.state = a ∧ e.groupOf side i = g then { sp with state := b } else sp

theorem movingGroup_vacant {e : FrameEntry} {a b : SpindleState} (h : a ≠ .vacant) (side : Side) (i : Nat) :
    movingGroup e g a b side i .vacant = .vacant := if_neg fun both => h both.1.symm

theorem State.spindle_movingGroup {e : FrameEntry} {a b : SpindleState} (ha : a ≠ .vacant) (hb : b ≠ .running) :
    (s.changeMany f (movingGroup e g a b)).spindle f side i = movingGroup e g a b side i (s.spindle f side i) := by
  refine (State.spindle_changeMany (movingGroup_vacant ha side i)).trans ?_
  by_cases moved : (s.spindle f side i).state = a ∧ e.groupOf side i = g
  · refine settling_of_attempts fun running => ?_
    rw [movingGroup, if_pos moved] at running
    exact absurd running hb
  · rw [settling_of_eq (if_neg moved), movingGroup, if_neg moved]

/-- Where no spindle leaves ASSIGNED, the notices are those of the spindles that enter BROKEN. -/
theorem State.inFlight_movingGroup {e : FrameEntry} {a b : SpindleState} (ha : a ≠ .vacant) (ha' : a ≠ .assigned)
    (hb : b ≠ .running) :
    ∃ notices, (s.changeMany f (movingGroup e g a b)).inFlight = s.inFlight ++ notices
      ∧ ∀ h, h ∈ notices ↔ b = .broken ∧ a ≠ .broken
          ∧ ∃ side i, ((s.spindle f side i).state = a ∧ e.groupOf side i = g) ∧ h = .brokenNotice f side i := by
  obtain ⟨notices, flying, -, mem⟩ := State.inFlight_changeMany (s := s) (f := f) (upd := movingGroup e g a b)
    (movingGroup_vacant ha)
  simp only [State.spindle_movingGroup ha hb] at mem
  refine ⟨notices, flying, fun h => (mem h).trans ⟨?_, ?_⟩⟩
  · rintro (⟨side, i, ⟨broken, other⟩, e⟩ | ⟨side, i, ⟨assigned, left, -⟩, -⟩)
    · rw [movingGroup] at broken
      split at broken
      · rename_i moved
        exact ⟨broken, moved.1 ▸ other, side, i, moved, e⟩
      · exact absurd broken other
    · rw [movingGroup, if_neg fun both => ha' (both.1.symm.trans assigned)] at left
      exact absurd assigned left
  · rintro ⟨rfl, other, side, i, moved, e⟩
    refine .inl ⟨side, i, ⟨?_, moved.1 ▸ other⟩, e⟩
    rw [movingGroup, if_pos moved]

theorem exec_starveGroup (on : s.power = .on) :
    exec (.starveGroup f g) s = .next ((s.drop (.starveGroup f g)).starve f g) :=
  congrArg Host.Outcome.next (State.handoff_on on)

section

variable (none : s.NoneFlying (smuFirst f))

include none

theorem State.starve_empty (empty : s.remaining f g = 0) :
    s.starve f g = s.changeMany f (movingGroup (s.entry f) g .broken .starved) := by
  rw [State.starve, State.smuReady_none none]
  exact if_pos empty

theorem State.starve_stocked (stocked : 0 < s.remaining f g) : s.starve f g = s := by
  rw [State.starve, State.smuReady_none none]
  exact if_neg (Nat.ne_of_gt stocked)

theorem State.unstarve_eq : s.unstarve f g = s.changeMany f (movingGroup (s.entry f) g .starved .broken) := by
  rw [State.unstarve, State.smuReady_none none]
  rfl

end

/-- A starve makes no hand-off: no spindle enters BROKEN or leaves ASSIGNED. -/
theorem State.inFlight_starving {e : FrameEntry} :
    (s.changeMany f (movingGroup e g .broken .starved)).inFlight = s.inFlight := by
  obtain ⟨notices, flying, mem⟩ := State.inFlight_movingGroup (s := s) (f := f) (e := e) (g := g) (a := .broken) (b := .starved)
    (by decide) (by decide) (by decide)
  obtain rfl : notices = [] := List.eq_nil_iff_forall_not_mem.2 fun h hm => nomatch ((mem h).1 hm).1
  rw [flying, List.append_nil]

/-- Settles O25: the three are changes of many spindles, with the notices that the states before and after them make. -/
theorem frameWideChanges : Obligations.FrameWideChanges := by
  refine ⟨fun f s next => ?_, fun f s next => ?_, fun f g s on none => ⟨fun empty => ?_, fun stocked => ?_⟩⟩
  · exact ⟨_, exec_smuPiecingCancel next, fun side i => State.spindle_cancelSpindles,
      fun f' side i other => State.spindle_changeMany_ne other side i,
      State.inFlight_cancelSpindles (s := s.drop (.smuPiecingCancel f)), rfl⟩
  · exact ⟨_, exec_spindleDoffCompletion next, fun side i => State.spindle_doffSpindles,
      fun f' side i other => State.spindle_changeMany_ne other side i, rfl,
      State.inFlight_doffSpindles (s := s.drop (.spindleDoffCompletion f)), rfl⟩
  · refine ⟨_, (exec_starveGroup on).trans (congrArg _ (State.starve_empty (none.drop _) empty)),
      fun side i => State.spindle_movingGroup (by decide) (by decide),
      fun f' side i other => State.spindle_changeMany_ne other side i, ?_⟩
    refine State.changeMany_eq.trans ?_
    rw [State.inFlight_starving]
    rfl
  · exact (exec_starveGroup on).trans (congrArg _ (State.starve_stocked (none.drop _) stocked))

/-! ### The refill of a group (R72, R163) -/

/-- A group filled to a length and its STARVED spindles BROKEN, before it is judged: steps 2 to 4 of R163. -/
def State.filled (f : FrameId) (g : GroupId) (length : Nat) (s : State) : State :=
  (State.unstarve f g (s.modGroup f g fun r => { r with remaining := length })).modGroup f g fun r =>
    { r with state := .supplied, sequence := none, carrier := none }

theorem State.refill_eq (length : Nat) : s.refill f g length =
    { (s.filled f g length).judge f g with
      inFlight := ((s.filled f g length).judge f g).inFlight ++ [.groupReevaluation f g] } := rfl

theorem State.modGroup_some {r : Group} (h : s.groupRecord f g = some r) (upd : Group → Group) :
    s.modGroup f g upd = s.setGroup f g (some (upd r)) := by rw [State.modGroup, h]

/-- The map's part of a refill and the group's. -/
theorem State.filled_eq {r : Group} (h : s.groupRecord f g = some r) (none : s.NoneFlying (smuFirst f)) (length : Nat) :
    s.filled f g length =
      ((s.changeMany f (movingGroup (s.entry f) g .starved .broken)).setGroup f g
        (some { r with remaining := length })).setGroup f g
        (some { remaining := length, state := .supplied, sequence := Option.none, carrier := Option.none }) := by
  have record : ((s.changeMany f (movingGroup (s.entry f) g .starved .broken)).setGroup f g
      (some { r with remaining := length })).groupRecord f g = some { r with remaining := length } :=
    (State.groupRecord_setGroup _ _ _ _ _).trans (if_pos ⟨rfl, rfl⟩)
  have starved : State.unstarve f g (s.setGroup f g (some { r with remaining := length })) =
      (s.changeMany f (movingGroup (s.entry f) g .starved .broken)).setGroup f g (some { r with remaining := length }) :=
    State.unstarve_eq (s := s.setGroup f g (some { r with remaining := length })) none
  rw [State.filled, State.modGroup_some h, starved, State.modGroup_some record]

theorem State.groupRecord_filled {r : Group} (h : s.groupRecord f g = some r) (none : s.NoneFlying (smuFirst f)) (length : Nat)
    (f' : FrameId) (g' : GroupId) : (s.filled f g length).groupRecord f' g' =
      if f = f' ∧ g = g' then
        some { remaining := length, state := .supplied, sequence := Option.none, carrier := Option.none }
      else s.groupRecord f' g' := by
  rw [State.filled_eq h none, State.groupRecord_setGroup, State.groupRecord_setGroup]
  split
  · rfl
  · rfl

/-- Settles O42: what is filled is judged, and a group above its low mark is judged neither LOW nor EMPTY. -/
theorem groupIsRefilled : Obligations.GroupIsRefilled := by
  intro f g length r s record none
  have filled := State.filled_eq record none length
  have records := State.groupRecord_filled record none length
  refine ⟨s.filled f g length, State.refill_eq length, fun above => State.judge_ok fun r' record' => ?_,
    (records f g).trans (if_pos ⟨rfl, rfl⟩), fun f' g' other => ?_, fun side i => ?_, fun f' side i other => ?_, ?_, ?_⟩
  · have article : (s.filled f g length).article f = s.article f := by
      rw [filled]
      rfl
    rw [records f g, if_pos ⟨rfl, rfl⟩, Option.some.injEq] at record'
    rw [article, ← record']
    exact above
  · exact (records f' g').trans (if_neg fun same => other (by rw [same.1, same.2]))
  · rw [filled]
    exact State.spindle_movingGroup (s := s) (by decide) (by decide)
  · rw [filled]
    exact State.spindle_changeMany_ne (s := s) other side i
  · obtain ⟨notices, flying, mem⟩ := State.inFlight_movingGroup (s := s) (f := f) (e := s.entry f) (g := g) (a := .starved)
      (b := .broken) (by decide) (by decide) (by decide)
    refine ⟨notices, by rw [filled]; exact flying, fun h => (mem h).trans ?_⟩
    constructor
    · rintro ⟨-, -, side, i, ⟨starved, group⟩, e⟩
      exact ⟨side, i, starved, group, e⟩
    · rintro ⟨side, i, starved, group, e⟩
      exact ⟨rfl, nofun, side, i, ⟨starved, group⟩, e⟩
  · rw [filled]
    rfl

end Sys2Proof.Machine
end

section
/-! A SIDE-STATE resolves the UNKNOWN spindles of its range (R63), and the reports that the map discards (R58). -/

namespace Sys2Proof.Machine

variable {s : State} {f : FrameId} {side : Side} {i first count : Nat} {bits : List Byte}
  {upd : Side → Nat → Spindle → Spindle}

/-! ### The running count of a frame (R55) -/

theorem countP_of_disjoint {α : Type} {p q r : α → Bool} (l : List α) (either : ∀ a ∈ l, r a = (p a || q a))
    (apart : ∀ a ∈ l, p a = true → q a = false) : l.countP r = l.countP p + l.countP q := by
  induction l with
  | nil => rfl
  | cons a rest ih =>
    have := ih (fun b hb => either b (List.mem_cons_of_mem _ hb)) fun b hb => apart b (List.mem_cons_of_mem _ hb)
    rw [List.countP_cons, List.countP_cons, List.countP_cons, this, either a List.mem_cons_self]
    cases hp : p a with
    | false => simp [Nat.add_assoc]
    | true => simp [apart a List.mem_cons_self hp]; omega

/-- What holds of places within a window alone is counted in the window. -/
theorem countP_window {q : Nat → Bool} {n : Nat} (fits : count = 0 ∨ first + count ≤ n)
    (within : ∀ i, q i = true → first ≤ i ∧ i < first + count) :
    (List.range n).countP q = (List.range count).countP fun j => q (first + j) := by
  obtain rfl | fits := fits
  · exact List.countP_eq_zero.2 fun i _ holds => by have := within i holds; omega
  · obtain ⟨k, rfl⟩ := Nat.exists_eq_add_of_le fits
    have before : (List.range first).countP q = 0 := List.countP_eq_zero.2 fun i mem holds => by
      have := within i holds
      have := List.mem_range.1 mem
      omega
    have behind : (List.range k).countP (q ∘ fun x => first + count + x) = 0 := List.countP_eq_zero.2 fun i _ holds => by
      have : first + count + i < first + count := (within _ holds).2
      omega
    rw [List.range_add, List.countP_append, List.range_add, List.countP_append, before, List.countP_map, List.countP_map, behind,
      Nat.zero_add, Nat.add_zero]
    rfl

theorem runningIn_mapIdx (l : List Spindle) (u : Nat → Spindle → Spindle) :
    runningIn (l.mapIdx u) = (List.range l.length).countP fun i => (u i (l[i]?.getD .vacant)).state == .running := by
  have mapped : l.mapIdx u = (List.range l.length).map fun i => u i (l[i]?.getD .vacant) :=
    List.ext_getElem (by simp) fun i held _ => by
      rw [List.length_mapIdx] at held
      simp [List.getElem?_eq_getElem held]
  rw [mapped, runningIn, List.countP_map]
  rfl

theorem runningIn_eq_countP (l : List Spindle) :
    runningIn l = (List.range l.length).countP fun i => (l[i]?.getD .vacant).state == .running := by
  have same : l.mapIdx (fun _ sp => sp) = l := List.mapIdx_eq_iff.2 fun i => by simp
  rw [← runningIn_mapIdx l fun _ sp => sp, same]

/-- A remap of one side's spindles that makes `k` more of them run, and leaves the running ones running. -/
theorem FrameMap.running_remap (m : FrameMap) {k : Nat}
    (here : runningIn ((m.side side).mapIdx (upd side)) = runningIn (m.side side) + k)
    (there : ∀ other, other ≠ side → runningIn ((m.side other).mapIdx (upd other)) = runningIn (m.side other)) :
    (m.remap upd).running = m.running + k := by
  cases side with
  | A =>
    have other := there .B (by decide)
    simp only [FrameMap.remap, FrameMap.side] at here other ⊢
    omega
  | B =>
    have other := there .A (by decide)
    simp only [FrameMap.remap, FrameMap.side] at here other ⊢
    omega

/-! ### What a SIDE-STATE makes of a spindle (R63) -/

/-- What a SIDE-STATE makes of the spindles of a frame. -/
def State.resolving (s : State) (f : FrameId) (side : Side) (first count : Nat) (bits : List Byte) (sd : Side) (i : Nat)
    (sp : Spindle) : Spindle :=
  if sd = side ∧ first ≤ i ∧ i < first + count then s.resolve f bits first sd i sp else sp

theorem State.resolving_other {sd : Side} {sp : Spindle}
    (h : sd ≠ side ∨ i < first ∨ first + count ≤ i ∨ sp.state ≠ .unknown) :
    s.resolving f side first count bits sd i sp = sp := by
  unfold State.resolving State.resolve
  split
  · refine if_neg fun unknown => ?_
    rename_i within
    obtain ⟨rfl, low, high⟩ := within
    obtain h | h | h | h := h
    · exact h rfl
    · omega
    · omega
    · exact h unknown
  · rfl

theorem State.resolving_vacant (sd : Side) (i : Nat) : s.resolving f side first count bits sd i .vacant = .vacant :=
  State.resolving_other (.inr (.inr (.inr (by decide))))

section

variable (low : first ≤ i) (high : i < first + count) (unknown : (s.spindle f side i).state = .unknown)

include low high unknown

theorem State.resolving_unknown : s.resolving f side first count bits side i (s.spindle f side i) =
    { s.spindle f side i with
      state := if runningBit bits (i - first) then .running else s.brokenState f side i } := by
  rw [State.resolving, if_pos ⟨rfl, low, high⟩, State.resolve, if_pos unknown]

/-- An UNKNOWN spindle of the range runs, or is BROKEN or STARVED, by its running bit. -/
theorem State.spindle_resolving_unknown : (s.changeMany f (s.resolving f side first count bits)).spindle f side i =
    if runningBit bits (i - first) then { s.spindle f side i with state := .running, attempts := 0 }
    else { s.spindle f side i with state := s.brokenState f side i } := by
  rw [State.spindle_changeMany (State.resolving_vacant side i), settling, State.resolving_unknown low high unknown]
  split
  · rw [unknown, if_neg nofun]
    rfl
  · have left : s.brokenState f side i ≠ .unknown := State.brokenState_ne _ (by decide) (by decide)
    have stands : s.brokenState f side i ≠ .running := State.brokenState_ne _ (by decide) (by decide)
    rw [unknown, if_neg left, Spindle.settle, if_neg stands]

end

theorem State.spindle_resolving_other {sd : Side}
    (h : sd ≠ side ∨ i < first ∨ first + count ≤ i ∨ (s.spindle f sd i).state ≠ .unknown) :
    (s.changeMany f (s.resolving f side first count bits)).spindle f sd i = s.spindle f sd i := by
  rw [State.spindle_changeMany (State.resolving_vacant sd i)]
  exact settling_of_eq (State.resolving_other h)

/-- A SIDE-STATE makes BROKEN the UNKNOWN spindles of its range that stand and whose group has not run out. -/
theorem State.resolving_broken {sd : Side} :
    ((s.changeMany f (s.resolving f side first count bits)).spindle f sd i).state = .broken
        ∧ (s.spindle f sd i).state ≠ .broken ↔
      sd = side ∧ first ≤ i ∧ i < first + count ∧ (s.spindle f side i).state = .unknown
        ∧ runningBit bits (i - first) = false ∧ s.groupEmpty f side i = false := by
  by_cases resolved : sd = side ∧ first ≤ i ∧ i < first + count ∧ (s.spindle f sd i).state = .unknown
  · obtain ⟨rfl, low, high, unknown⟩ := resolved
    have entered : (s.spindle f sd i).state ≠ .broken := by rw [unknown]; decide
    rw [State.spindle_resolving_unknown low high unknown]
    cases runningBit bits (i - first) with
    | true =>
      refine ⟨fun h => SpindleState.noConfusion h.1, ?_⟩
      rintro ⟨-, -, -, -, bit, -⟩
      exact Bool.noConfusion bit
    | false =>
      have broken : s.brokenState f sd i = .broken ↔ s.groupEmpty f sd i = false := State.brokenState_eq_broken
      refine ⟨fun h => ⟨rfl, low, high, unknown, rfl, broken.1 h.1⟩, ?_⟩
      rintro ⟨-, -, -, -, -, stocked⟩
      exact ⟨broken.2 stocked, entered⟩
  · have same : (s.changeMany f (s.resolving f side first count bits)).spindle f sd i = s.spindle f sd i :=
      State.spindle_resolving_other (by
        by_contra inside
        simp only [not_or, not_lt, not_le, ne_eq, not_not] at inside
        exact resolved inside)
    rw [same]
    refine ⟨fun h => absurd h.1 h.2, ?_⟩
    rintro ⟨rfl, low, high, unknown, -⟩
    exact absurd ⟨rfl, low, high, unknown⟩ resolved

theorem State.resolving_assigned {sd : Side} (h : (s.spindle f sd i).state = .assigned) :
    ((s.changeMany f (s.resolving f side first count bits)).spindle f sd i).state = .assigned := by
  rw [State.spindle_resolving_other (.inr (.inr (.inr (by rw [h]; decide)))), h]

/-- The hand-offs behind a SIDE-STATE: those in flight and the notices of the new BROKEN spindles. -/
theorem State.mem_inFlight_resolving {h : Instr} :
    h ∈ (s.changeMany f (s.resolving f side first count bits)).inFlight ↔
      h ∈ s.inFlight ∨ ∃ i, first ≤ i ∧ i < first + count ∧ (s.spindle f side i).state = .unknown
        ∧ runningBit bits (i - first) = false ∧ s.groupEmpty f side i = false ∧ h = .brokenNotice f side i := by
  obtain ⟨notices, flying, -, mem⟩ := State.inFlight_changeMany (s := s) (f := f) (upd := s.resolving f side first count bits)
    State.resolving_vacant
  rw [flying, List.mem_append, mem h]
  refine or_congr_right ⟨?_, ?_⟩
  · rintro (⟨sd, i, broken, e⟩ | ⟨sd, i, ⟨assigned, left, -⟩, -⟩)
    · obtain ⟨rfl, low, high, unknown, bit, stocked⟩ := State.resolving_broken.1 broken
      exact ⟨i, low, high, unknown, bit, stocked, e⟩
    · exact absurd (State.resolving_assigned assigned) left
  · rintro ⟨i, low, high, unknown, bit, stocked, e⟩
    exact .inl ⟨side, i, State.resolving_broken.2 ⟨rfl, low, high, unknown, bit, stocked⟩, e⟩

/-- The places of a SIDE-STATE's range whose spindles it makes RUNNING. -/
def State.resolvedRunning (s : State) (f : FrameId) (side : Side) (first count : Nat) (bits : List Byte) (i : Nat) : Bool :=
  decide (first ≤ i ∧ i < first + count) && ((s.spindle f side i).state == .unknown && runningBit bits (i - first))

/-- After a SIDE-STATE those spindles run that ran before and those that it makes RUNNING. -/
theorem State.resolving_running (i : Nat) :
    ((settling (s.resolving f side first count bits) side i (s.spindle f side i)).state == .running) =
      ((s.spindle f side i).state == .running || s.resolvedRunning f side first count bits i) := by
  rw [settling_state]
  by_cases resolved : first ≤ i ∧ i < first + count ∧ (s.spindle f side i).state = .unknown
  · obtain ⟨low, high, unknown⟩ := resolved
    have stands : s.brokenState f side i ≠ .running := State.brokenState_ne _ (by decide) (by decide)
    rw [State.resolving_unknown low high unknown, State.resolvedRunning]
    cases runningBit bits (i - first) <;> simp [low, high, unknown, stands]
  · have same : s.resolving f side first count bits side i (s.spindle f side i) = s.spindle f side i :=
      State.resolving_other (by
        by_contra inside
        simp only [not_or, not_lt, not_le, ne_eq, not_not] at inside
        exact resolved inside.2)
    have none : s.resolvedRunning f side first count bits i = false := by
      refine Bool.eq_false_iff.2 fun holds => ?_
      simp only [State.resolvedRunning, Bool.and_eq_true, decide_eq_true_eq, beq_iff_eq] at holds
      obtain ⟨⟨low, high⟩, unknown, -⟩ := holds
      exact resolved ⟨low, high, unknown⟩
    rw [same, none, Bool.or_false]

/-- The running count of the frame rises by the spindles that a SIDE-STATE makes RUNNING. -/
theorem State.running_resolving (held : ∀ j, j < count → (s.spindle f side (first + j)).state ≠ .vacant) :
    ((s.changeMany f (s.resolving f side first count bits)).map f).running = (s.map f).running
      + ((List.range count).filter fun j => (s.spindle f side (first + j)).state == .unknown && runningBit bits j).length := by
  have fits : count = 0 ∨ first + count ≤ ((s.map f).side side).length := by
    obtain rfl | pos := Nat.eq_zero_or_pos count
    · exact .inl rfl
    · have last := (List.getElem?_eq_some_iff.1 (State.getElem?_of_spindle (held (count - 1) (by omega)))).1
      exact .inr (by omega)
  have counted : (List.range ((s.map f).side side).length).countP (s.resolvedRunning f side first count bits) =
      ((List.range count).filter fun j =>
        (s.spindle f side (first + j)).state == .unknown && runningBit bits j).length := by
    rw [countP_window fits fun i holds => by
      simp only [State.resolvedRunning, Bool.and_eq_true, decide_eq_true_eq] at holds
      exact holds.1, List.countP_eq_length_filter]
    refine congrArg List.length (List.filter_congr fun j mem => ?_)
    have within : first ≤ first + j ∧ first + j < first + count := ⟨by omega, by have := List.mem_range.1 mem; omega⟩
    simp [State.resolvedRunning, within]
  rw [State.map_changeMany, ← counted]
  refine FrameMap.running_remap (side := side) _ ?_ fun other apart => ?_
  · rw [runningIn_mapIdx, runningIn_eq_countP]
    refine countP_of_disjoint _ (fun i _ => State.resolving_running i) fun i _ runs => ?_
    have runs : (s.spindle f side i).state = .running := beq_iff_eq.1 runs
    simp [State.resolvedRunning, runs]
  · refine congrArg runningIn (List.mapIdx_eq_iff.2 fun i => ?_)
    have same : settling (s.resolving f side first count bits) other i = id := funext fun sp =>
      settling_of_eq (State.resolving_other (.inl apart))
    rw [same, Option.map_id]
    rfl

/-! ### The reports -/

theorem exec_sideState_accepted {node seq sd : Nat} (h : s.Takes (.sideState node seq sd first count bits)) :
    exec (.sideState node seq sd first count bits) s =
      .next ((s.copyReport (.sideState node seq sd first count bits)).takeSideState (frameAt node) (sideAt sd) first count
        bits) := congrArg Host.Outcome.next (State.report_accepted h)

section

variable (none : s.NoneFlying (smuFirst f))

include none

theorem State.takeSideState_vacant {j : Nat} (hj : j < count) (vacant : (s.spindle f side (first + j)).state = .vacant) :
    s.takeSideState f side first count bits = s.countMalformed := by
  rw [State.takeSideState, State.smuReady_none none]
  exact if_pos (List.any_eq_true.2 ⟨j, List.mem_range.2 hj, by simp [vacant]⟩)

theorem State.takeSideState_held (held : ∀ j, j < count → (s.spindle f side (first + j)).state ≠ .vacant) :
    s.takeSideState f side first count bits = s.changeMany f (s.resolving f side first count bits) := by
  rw [State.takeSideState, State.smuReady_none none]
  refine if_neg fun any => ?_
  obtain ⟨j, mem, vacant⟩ := List.any_eq_true.1 any
  exact held j (List.mem_range.1 mem) (beq_iff_eq.1 vacant)

end

/-- Settles O22: the cases of `takeRun`, and a SIDE-STATE as a change of the UNKNOWN spindles of its range. -/
theorem runsAndSideStates : Obligations.RunsAndSideStates := by
  refine ⟨?_, ?_, ?_⟩
  · intro node seq sd i s c f side sp up s1 takes none spins
    have same : s1.spindle f side i = sp := State.spindle_copyReport c f side i
    have rogues : s1.smu.rogues = s.smu.rogues := by rw [State.copyReport_smu]
    have taken (held : sp.state ≠ .vacant) : exec c s = .next (s1.takeRun f side i) := by
      rw [exec_runReport, State.report_spins none takes held spins]
    refine ⟨fun idle => ?_, fun assigned => ?_, fun verify => ?_, fun rogue => ?_⟩
    · rw [taken (by obtain h | h | h := idle <;> rw [h] <;> decide), State.takeRun_idle (by rwa [same]), same]
    · rw [taken (by rw [assigned]; decide), State.takeRun_assigned (by rwa [same]), same]
    · rw [taken (by rw [verify]; decide), State.takeRun_verify (by rwa [same]), same]
    · rw [taken (by rw [rogue]; decide), State.takeRun_rogue (by rwa [same]), same, rogues]
  · intro node seq sd first count bits s c f side takes none held
    have same : (s.copyReport c).spindle f side = s.spindle f side := funext fun i => State.spindle_copyReport c f side i
    have taken : exec c s =
        .next ((s.copyReport c).changeMany f ((s.copyReport c).resolving f side first count bits)) :=
      (exec_sideState_accepted takes).trans (congrArg _ (State.takeSideState_held (none.copyReport c) (by rwa [same])))
    have broken (i : Nat) : (s.copyReport c).brokenState f side i = if s.groupEmpty f side i then .starved else .broken := by
      rw [State.brokenState, State.groupEmpty_copyReport]
    refine ⟨_, taken, fun i low high unknown => ?_, fun f' side' i other => ?_, fun side' => ?_, ?_, ?_, fun f' other => ?_,
      fun h => ?_, ?_⟩
    · rw [State.spindle_resolving_unknown low high (by rwa [same]), same, broken]
    · by_cases frame : f' = f
      · subst frame
        refine (State.spindle_resolving_other ?_).trans (State.spindle_copyReport c _ side' i)
        by_cases apart : side' = side
        · subst apart
          rw [same]
          exact other.resolve_left (· rfl)
        · exact .inl apart
      · exact (State.spindle_changeMany_ne frame side' i).trans (State.spindle_copyReport c f' side' i)
    · rw [State.map_changeMany, FrameMap.side_remap, List.length_mapIdx, State.map_copyReport]
    · rw [State.running_resolving (by rwa [same]), State.map_copyReport, same]
    · rw [State.map_changeMany, FrameMap.populated_remap, State.map_copyReport]
    · rw [State.map_changeMany_ne other, State.map_copyReport]
    · simp only [State.mem_inFlight_resolving, State.copyReport_inFlight, same, State.groupEmpty_copyReport]
    · rw [← State.copyReport_smu s c]
      rfl
  · intro node seq sd i first count bits s run range f side none
    refine ⟨fun takes vacant => ?_, fun takes held notRunning notStarting => ?_, fun j takes hj vacant => ?_⟩
    · rw [exec_runReport, State.report_vacant none takes vacant]
    · rw [exec_runReport, State.report_stands none takes held notRunning notStarting]
    · rw [exec_sideState_accepted takes, State.takeSideState_vacant (none.copyReport range) hj (by rwa [State.spindle_copyReport])]

end Sys2Proof.Machine
end

section
/-! A step with no command waiting (R79, R184). -/

namespace Sys2Proof.Machine

variable {s : State}

/-- The first of the least elements of a list: those before it are greater, those behind it not less. -/
theorem firstLeast_split {α : Type} {key : α → Nat} {before after : List α} {a : α} (greater : ∀ b ∈ before, key a < key b)
    (least : ∀ b ∈ after, key a ≤ key b) : firstLeast key (before ++ a :: after) = some a := by
  induction before with
  | nil =>
    rw [List.nil_append, firstLeast]
    split
    · rfl
    · rename_i b found
      exact if_neg (Nat.not_lt.2 (least b (firstLeast_mem found)))
  | cons b rest ih =>
    rw [List.cons_append, firstLeast, ih fun c hc => greater c (List.mem_cons_of_mem _ hc)]
    exact if_pos (greater b List.mem_cons_self)

/-- Of the timers that the line timer has reached, the first of the earliest is due. -/
theorem State.due_first {before after : List (Nat × Instr)} {p : Nat × Instr} (split : s.timers = before ++ p :: after)
    (reached : p.1 ≤ s.timer) (later : ∀ q ∈ before, p.1 < q.1) (least : ∀ q ∈ after, p.1 ≤ q.1) : s.due = some p.2 := by
  have first := firstLeast_split (key := fun p : Nat × Instr => p.1) (a := p)
    (before := before.filter fun q => decide (q.1 ≤ s.timer)) (after := after.filter fun q => decide (q.1 ≤ s.timer))
    (fun q hq => later q (List.mem_of_mem_filter hq)) fun q hq => least q (List.mem_of_mem_filter hq)
  rw [State.due, split, List.filter_append, List.filter_cons_of_pos (by simpa using reached), first, Option.map_some]

theorem State.due_none (running : ∀ p ∈ s.timers, s.timer < p.1) : s.due = none := by
  have none : (s.timers.filter fun p => decide (p.1 ≤ s.timer)) = [] :=
    List.filter_eq_nil_iff.2 fun p hp => by simpa using running p hp
  rw [State.due, none, firstLeast, Option.map_none]

theorem State.nextInternal_reset (begun : s.store.resetWait = some 0) : s.nextInternal = some (.lineReset s.freePins) :=
  if_pos begun

theorem State.nextInternal_handOff {c : Instr} {rest : List Instr} (running : s.store.resetWait ≠ some 0)
    (flying : s.inFlight = c :: rest) : s.nextInternal = some c := by
  rw [State.nextInternal, if_neg running, flying]

theorem State.nextInternal_landed (running : s.store.resetWait ≠ some 0) (landed : s.inFlight = []) :
    s.nextInternal = if s.ssu.snapshot then some .snapshotRead else s.due := by
  rw [State.nextInternal, if_neg running, landed]

theorem State.drawPins_running (running : s.store.resetWait ≠ some 0) : s.drawPins = s := if_neg running

section

variable (empty : s.pending = [])

include empty

theorem step_idle : step s = s.idle := by rw [step, empty]

theorem step_held (held : s.power ≠ .on) : step s = .next s := (step_idle empty).trans (if_neg held)

theorem step_internal {c : Instr} (on : s.power = .on) (next : s.nextInternal = some c) : step s = exec c s.drawPins := by
  rw [step_idle empty, State.idle, if_pos on, next]

theorem step_passes (on : s.power = .on) (none : s.nextInternal = none) :
    step s = .next { s with timer := timerReading (s.timer + 1) } := by
  rw [step_idle empty, State.idle, if_pos on, none]

end

/-- Settles O2: the cases of what the part does next of itself. -/
theorem emptyQueueStep : Obligations.EmptyQueueStep := by
  intro s empty
  refine ⟨step_held empty, fun on begun => ?_, fun on running => ?_⟩
  · rw [step_internal empty on (State.nextInternal_reset begun), State.drawPins, if_pos begun]
    rfl
  · have still := State.drawPins_running running
    refine ⟨fun c rest flying => ?_, fun landed reads => ?_, fun landed idle => ⟨?_, fun running' => ?_⟩⟩
    · rw [step_internal empty on (State.nextInternal_handOff running flying), still]
    · rw [step_internal empty on ((State.nextInternal_landed running landed).trans (if_pos reads)), still]
    · intro before p after split reached later least
      have next : s.nextInternal = some p.2 := by
        rw [State.nextInternal_landed running landed, idle, State.due_first split reached later least]
        rfl
      rw [step_internal empty on next, still]
    · have none : s.nextInternal = none := by
        rw [State.nextInternal_landed running landed, idle, State.due_none running']
        rfl
      exact step_passes empty on none

end Sys2Proof.Machine
end

section
/-! The notices of the SMU to the PCD and the cancel of a frame (R85, R86, R94, R97, R99). -/

namespace Sys2Proof.Machine

variable {s t : State} {k : RobotId} {f : FrameId} {side : Side} {i : Nat}

/-! ### The satisfied notice (R94) -/

/-- The lowest robot whose assignment names the spindle is the one that the notice is for. -/
theorem State.takeSatisfied_named {sat : Bool}
    (names : (s.robot k).assignment = some { frame := f, side, index := i, satisfied := sat })
    (lowest : ∀ j sat, j < k → (s.robot j).assignment ≠ some { frame := f, side, index := i, satisfied := sat }) :
    s.takeSatisfied f side i = s.setRobot k
      { s.robot k with assignment := some { frame := f, side, index := i, satisfied := true } } := by
  unfold State.takeSatisfied
  dsimp only
  rw [find?_finRange_eq_some (i := k)]
  · simp only [State.modRobot, names, Option.map_some]
  · simp only [names, beq_self_eq_true, Bool.and_self]
  · intro j lower
    split
    · rename_i x assigned
      by_contra named
      obtain ⟨rfl, rfl, rfl⟩ : x.frame = f ∧ x.side = side ∧ x.index = i := by simpa [and_assoc] using named
      exact lowest j x.satisfied lower assigned
    · rfl

/-- With no assignment that names the spindle the notice takes its verify entry. -/
theorem State.takeSatisfied_unnamed
    (unnamed : ∀ k sat, (s.robot k).assignment ≠ some { frame := f, side, index := i, satisfied := sat }) :
    s.takeSatisfied f side i = s.removeVerify f side i := by
  unfold State.takeSatisfied
  dsimp only
  rw [List.find?_eq_none.2]
  intro j _
  split
  · rename_i x assigned
    intro named
    obtain ⟨rfl, rfl, rfl⟩ : x.frame = f ∧ x.side = side ∧ x.index = i := by simpa [and_assoc] using named
    exact unnamed j x.satisfied assigned
  · exact Bool.false_ne_true

/-! ### The cancel of a frame (R99) -/

theorem State.mem_robotsOn : k ∈ s.robotsOn f ↔
    (s.robot k).state = .piecing ∧ ∃ x, (s.robot k).assignment = some x ∧ x.frame = f := by
  simp [State.robotsOn_eq]

theorem State.robotsOn_ascending : (s.robotsOn f).Pairwise (· < ·) := (List.pairwise_lt_finRange 12).filter _

theorem State.length_robotsOn_le : (s.robotsOn f).length ≤ 12 := (List.length_filter_le _ _).trans (by simp)

theorem State.SameTalk.sendFloor (h : s.SameTalk t) (node kind : Nat) (payload : List Byte) :
    (s.sendFloor node kind payload).SameTalk (t.sendFloor node kind payload) := by
  rw [State.sendFloor_of_same h.link.symm h.store.symm]
  exact ⟨rfl, rfl⟩

/-- The ABANDONs are what a cancel says. -/
theorem State.SameTalk.abandoned (h : s.SameTalk t) (l : List RobotId) :
    (l.foldl (fun u k => sendAbandon k u) s).SameTalk
      (l.foldl (fun u k => (sendAbandon k u).modRobot k Robot.abandoned) t) := by
  induction l generalizing s t with
  | nil => exact h
  | cons j rest ih =>
    have sent := h.sendFloor (robotNode j) 0x29 []
    exact ih ⟨sent.link, sent.store⟩

theorem State.SameTalk.abandonFrame (h : s.SameTalk t) :
    ((t.robotsOn f).foldl (fun u k => sendAbandon k u) s).SameTalk (t.abandonFrame f) := by
  rw [State.abandonFrame_eq]
  exact ⟨(h.abandoned _).link, (h.abandoned _).store⟩

theorem State.cancelPiecing_eq : s.cancelPiecing f = (s.abandonFrame f).reevaluateZones ((s.robotsOn f).map s.robotZone) := by
  rw [State.cancelPiecing, State.cancelFrames, List.flatMap_singleton]
  rfl

/-- A cancel that is next, with no other before it. -/
theorem exec_pcdPiecingCancel (next : s.Next (dcuToPcd f) (.pcdPiecingCancel f))
    (before : (s.drop (.pcdPiecingCancel f)).NoneFlying pcdBefore) :
    exec (.pcdPiecingCancel f) s = .next ((s.drop (.pcdPiecingCancel f)).cancelPiecing f) :=
  congrArg Host.Outcome.next ((State.takeNotices_cancel next).trans (State.takeCancel_none before))

/-- Settles O30: the PCD takes each notice alone, and a cancel sends ABANDON to the robots at work on the frame. -/
theorem noticesToTheDispatcher : Obligations.NoticesToTheDispatcher := by
  refine ⟨?_, ?_⟩
  · intro f side i s removal satisfied broken rest names before
    refine ⟨fun next => ?_, fun next => ?_, fun next => ?_⟩
    · exact congrArg Host.Outcome.next (State.takeNotices_next next before)
    · have taken : exec satisfied s = .next ((s.drop satisfied).takeSatisfied f side i) :=
        congrArg Host.Outcome.next (State.takeNotices_next next before)
      exact ⟨fun k sat named lowest => taken.trans (congrArg _ (State.takeSatisfied_named (s := s.drop satisfied) named
          fun j sat' lower => lowest j sat' lower)),
        fun unnamed => taken.trans (congrArg _ (State.takeSatisfied_unnamed (s := s.drop satisfied) unnamed))⟩
    · have taken : exec broken s = .next ((s.drop broken).reevaluateAisles [(s.entry f).aisle side]) :=
        congrArg Host.Outcome.next (State.takeNotices_next next before)
      exact ⟨fun calm out => taken.trans (congrArg _ (State.reevaluateAisles_noBroken (calm.drop broken) (out.drop broken) _)),
        fun z zone => taken.trans (congrArg _ (State.reevaluateAisles_zone zone)),
        fun zone => taken.trans (congrArg _ (State.reevaluateAisles_noZone zone))⟩
  · intro f s c works told zones next before
    obtain ⟨apart, commanded, robots⟩ := State.abandonFrame_spec (s := s.drop c) (f := f)
    have taken := (exec_pcdPiecingCancel next before).trans (congrArg _ State.cancelPiecing_eq)
    have same : s.SameTalk (s.drop c) := ⟨rfl, rfl⟩
    have talk := same.abandonFrame (f := f)
    obtain ⟨t, ht⟩ : ∃ t, t = (s.drop c).abandonFrame f := ⟨_, rfl⟩
    rw [← ht] at apart commanded robots taken talk
    have zoned : zones = (List.finRange 8).filter ((s.robotsOn f).map s.robotZone).contains := by
      refine List.filter_congr fun z _ => ?_
      rw [Bool.eq_iff_iff]
      simp
    refine ⟨fun k => State.mem_robotsOn, State.robotsOn_ascending, t, ?_, fun calm out => ?_, fun k works => ?_,
      fun k idle => ?_, ?_, ?_, fun room => ?_, ?_⟩
    · rw [taken, State.reevaluateZones_eq, zoned]
      rfl
    · rw [taken, State.reevaluateZones_noBroken ((calm.drop c).of_smu (by rw [apart]))
        ((out.drop c).of_inFlight (by rw [apart]))]
    · exact (robots k).trans (if_pos (State.mem_robotsOn.2 works))
    · exact (robots k).trans (if_neg fun h => idle (State.mem_robotsOn.1 h))
    · rw [apart]
      rfl
    · rw [apart]
      rfl
    · obtain ⟨m, said, queue⟩ := commanded.sent (by
        rw [List.length_map]
        have atWork : ((s.drop c).robotsOn f).length ≤ 12 := State.length_robotsOn_le
        have length : (s.drop c).link.floorQueue.length = s.link.floorQueue.length := rfl
        omega)
      rw [queue]
      exact (congrArg (List.map Telegram.command) List.drop_left).trans said
    · rw [show told.link = t.link from talk.link, show told.store = t.store from talk.store]
      conv_lhs => rw [apart]
      rw [apart]

end Sys2Proof.Machine
end

section
/-! A robot's record aside: what is said and what the AOU does leave it alone (R78, R107, R108, R111). -/

namespace Sys2Proof.Machine

variable {s t : State} {k : RobotId} {a : AisleId} {d : DofferId} {c : Instr} {r : Robot}

/-! ### A robot's record -/

theorem State.setRobot_setRobot (r r' : Robot) : (s.setRobot k r).setRobot k r' = s.setRobot k r' := by
  rw [State.setRobot, State.setRobot, Tab.set_set, State.setRobot]

theorem State.modRobot_setRobot (r : Robot) (upd : Robot → Robot) :
    (s.setRobot k r).modRobot k upd = s.setRobot k (upd r) := by
  rw [State.modRobot, State.robot_setRobot, State.setRobot_setRobot]

theorem State.sendFloor_setRobot (r : Robot) (node kind : Nat) (payload : List Byte) :
    (s.setRobot k r).sendFloor node kind payload = (s.sendFloor node kind payload).setRobot k r := by
  have spoken : s.sendFloor node kind payload = (s.sendFloor node kind payload).telling s :=
    (State.spoken_sendFloor _ _ _).eq_telling
  rw [spoken]
  exact State.sendFloor_telling (s.setRobot k r) node kind payload

/-- What the units keep of the robots' records, they keep. -/
theorem State.KeepsDispatch.robot (h : s.KeepsDispatch t) (k : RobotId) : t.robot k = s.robot k := by
  rw [State.robot, h.pcd, State.robot]

/-! ### The Aisle Occupancy Unit reads no robot's record -/

theorem State.holdStep_setRobot : (s.setRobot k r).holdStep d = (s.holdStep d).setRobot k r := by
  have held : (s.reservedFor d).foldl (fun u a => u.setHolder a (.doffer d)) (s.setRobot k r) =
      ((s.reservedFor d).foldl (fun u a => u.setHolder a (.doffer d)) s).setRobot k r :=
    List.foldl_hom (State.setRobot k r) fun _ _ => rfl
  have same : (s.setRobot k r).reservedFor d = s.reservedFor d := rfl
  have free (a : AisleId) : (s.setRobot k r).aisleRecord a = s.aisleRecord a := rfl
  unfold State.holdStep
  simp only [same, held, free]
  split
  · generalize (s.reservedFor d).foldl (fun u a => u.setHolder a (.doffer d)) s = u
    show (match u.aou.claims.get d with | some f => _ | none => _) = _
    cases u.aou.claims.get d <;> rfl
  · rfl

theorem State.takeRobotRelease_free (h : (s.aisleRecord a).holder = .robot k) (open' : (s.aisleRecord a).reservedBy = none) :
    s.takeRobotRelease k a = (s.setHolder a .none).emit (.freeAisleNotice a) := by
  have reserved : ((s.setHolder a .none).aisleRecord a).reservedBy = none := by
    rw [State.setHolder, State.aisleRecord_setAisle, open']
  rw [State.takeRobotRelease, if_pos h]
  dsimp only
  rw [reserved]

theorem State.takeRobotRelease_reserved (h : (s.aisleRecord a).holder = .robot k)
    (reserved : (s.aisleRecord a).reservedBy = some d) :
    s.takeRobotRelease k a = (s.setHolder a .none).holdStep d := by
  have reserved : ((s.setHolder a .none).aisleRecord a).reservedBy = some d := by
    rw [State.setHolder, State.aisleRecord_setAisle, reserved]
  rw [State.takeRobotRelease, if_pos h]
  dsimp only
  rw [reserved]

theorem State.takeRobotRelease_other (h : (s.aisleRecord a).holder ≠ .robot k) : s.takeRobotRelease k a = s := if_neg h

theorem State.takeRobotRelease_setRobot {j : RobotId} :
    (s.setRobot k r).takeRobotRelease j a = (s.takeRobotRelease j a).setRobot k r := by
  by_cases h : (s.aisleRecord a).holder = .robot j
  · cases reserved : (s.aisleRecord a).reservedBy with
    | none => rw [State.takeRobotRelease_free h reserved, State.takeRobotRelease_free (s := s.setRobot k r) h reserved]; rfl
    | some d =>
      rw [State.takeRobotRelease_reserved h reserved, State.takeRobotRelease_reserved (s := s.setRobot k r) h reserved]
      exact State.holdStep_setRobot (s := s.setHolder a .none)
  · rw [State.takeRobotRelease_other h, State.takeRobotRelease_other (s := s.setRobot k r) h]

theorem State.aouReady_setRobot : (s.setRobot k r).aouReady = s.aouReady.setRobot k r :=
  List.foldl_hom (init := { s with inFlight := s.inFlight.filter fun h => !aouFirst h }) (State.setRobot k r)
    (fun u h => by cases h with
      | robotRelease j a => exact State.takeRobotRelease_setRobot
      | _ => rfl)

/-! ### What the AOU hands on: a free aisle, or aisles held (R108, R111) -/

section

variable {p : Instr → Bool}

theorem State.NoneFlying.foldl {α : Type} {op : State → α → State}
    (each : ∀ (s : State) a, s.NoneFlying p → (op s a).NoneFlying p)
    (l : List α) (h : s.NoneFlying p) : (l.foldl op s).NoneFlying p := by
  induction l generalizing s with
  | nil => exact h
  | cons a rest ih => exact ih (each s a h)

theorem State.NoneFlying.sendFloor (h : s.NoneFlying p) (node kind : Nat) (payload : List Byte) :
    (s.sendFloor node kind payload).NoneFlying p := h.of_inFlight (State.sendFloor_inFlight s node kind payload)

variable (held : ∀ d f, p (.aislesHeldNotice d f) = false)

include held

theorem State.NoneFlying.holdStep (h : s.NoneFlying p) (d : DofferId) : (s.holdStep d).NoneFlying p := by
  unfold State.holdStep
  dsimp only
  split
  · have holding : ((s.reservedFor d).foldl (fun u a => u.setHolder a (.doffer d)) s).NoneFlying p :=
      State.NoneFlying.foldl (op := fun u a => u.setHolder a (.doffer d)) (fun _ _ h => h) _ h
    split
    · exact holding.emit (held _ _)
    · exact holding
  · exact h

theorem State.NoneFlying.takeRobotRelease (freed : ∀ a, p (.freeAisleNotice a) = false) (h : s.NoneFlying p) :
    (s.takeRobotRelease k a).NoneFlying p := by
  have left : (s.setHolder a .none).NoneFlying p := h
  by_cases holds : (s.aisleRecord a).holder = .robot k
  · cases reserved : (s.aisleRecord a).reservedBy with
    | none =>
      rw [State.takeRobotRelease_free holds reserved]
      exact left.emit (freed a)
    | some d =>
      rw [State.takeRobotRelease_reserved holds reserved]
      exact left.holdStep held d
  · rw [State.takeRobotRelease_other holds]
    exact h

theorem State.NoneFlying.aouReady (freed : ∀ a, p (.freeAisleNotice a) = false) (h : s.NoneFlying p) :
    s.aouReady.NoneFlying p := by
  refine State.NoneFlying.foldl (op := fun u c => aouTakeRobot u c) (fun u c h => ?_) _ fun c hc => h c (List.mem_of_mem_filter hc)
  unfold aouTakeRobot
  split
  · exact h.takeRobotRelease held freed
  · exact h

end

end Sys2Proof.Machine
end

section
/-! Recalls and leaves, whatever the robot's deadline was (R79, R101). -/

namespace Sys2Proof.Machine

variable {s : State} {k : RobotId} {a : AisleId} {f : FrameId}

/-- The target of a leave: the first aisle after the robot's own that it could be granted (R101). -/
def State.leaveTarget (k : RobotId) (a : AisleId) (s : State) : Option AisleId :=
  (cycleAfter (s.patrol (s.robotZone k)) (some a)).find? fun b => s.qualifies k b

/-- A robot that has been sent LEAVE. -/
def Robot.leaving (r : Robot) (target : Option AisleId) (deadline : Nat) : Robot :=
  { r with state := .leaving, leaveTarget := target, deadline := some deadline }

theorem State.robotDeadline_sendFloor (node kind : Nat) (payload : List Byte) :
    (s.sendFloor node kind payload).robotDeadline k = s.robotDeadline k := by
  simp only [State.robotDeadline, State.robotZone, State.sendFloor_timer, State.sendFloor_store_zones, State.sendFloor_store_robots]

theorem State.robot_sendFloor (node kind : Nat) (payload : List Byte) :
    (s.sendFloor node kind payload).robot k = s.robot k := by rw [State.robot, State.sendFloor_pcd, State.robot]

theorem State.leave_eq : s.leave k a = (sendLeave k (s.aouReady.leaveTarget k a) s.aouReady).setRobot k
    ((s.robot k).leaving (s.aouReady.leaveTarget k a) (s.aouReady.robotDeadline k)) := by
  have robot : (sendLeave k (s.aouReady.leaveTarget k a) s.aouReady).robot k = s.robot k :=
    (State.robot_sendFloor _ _ _).trans (State.keeps_aouReady.robot k)
  have deadline : (sendLeave k (s.aouReady.leaveTarget k a) s.aouReady).robotDeadline k = s.aouReady.robotDeadline k :=
    State.robotDeadline_sendFloor _ _ _
  rw [← robot, ← deadline]
  rfl

/-- A robot's record with no deadline in it. -/
def State.undated (k : RobotId) (s : State) : State := s.setRobot k { s.robot k with deadline := none }

theorem State.robot_undated : (s.undated k).robot k = { s.robot k with deadline := none } := State.robot_setRobot _ _ _

theorem State.robot_undated_ne {j : RobotId} (h : k ≠ j) : (s.undated k).robot j = s.robot j := State.robot_setRobot_ne _ h _

theorem State.undated_drop (c : Instr) : (s.undated k).drop c = (s.drop c).undated k := rfl

/-- A leave gives a deadline afresh, whatever stood there. -/
theorem State.leave_undated : (s.undated k).leave k a = s.leave k a := by
  rw [State.leave_eq, State.leave_eq, State.robot_undated, State.undated, State.aouReady_setRobot, sendLeave, sendLeave,
    State.sendFloor_setRobot, State.setRobot_setRobot]
  rfl

theorem State.recall_piecing (h : (s.robot k).state = .piecing) : s.recall k a =
    ((sendAbandon k { s with inFlight := s.inFlight ++ (s.robot k).withdrawn }).setRobot k
      { s.robot k with assignment := none, deadline := none }).leave k a := by
  have robot : (sendAbandon k (s.withdraw k)).robot k = s.robot k := by
    rw [State.withdraw_eq]
    exact State.robot_sendFloor _ _ _
  rw [State.recall, h]
  dsimp only
  rw [State.modRobot, robot, State.withdraw_eq]

theorem State.recall_leaves (h : (s.robot k).state = .idle ∨ (s.robot k).state = .moving) : s.recall k a = s.leave k a := by
  obtain h | h := h <;> rw [State.recall, h]

theorem State.recall_away (h : (s.robot k).state = .leaving ∨ (s.robot k).state = .offline ∨ (s.robot k).state = .parked
    ∨ (s.robot k).state = .unresponsive) : s.recall k a = s := by
  obtain h | h | h | h := h <;> rw [State.recall, h]

/-- A recall of a robot at work or on its way drops its deadline (R101). -/
theorem State.recall_undated (h : (s.robot k).state = .piecing ∨ (s.robot k).state = .moving) :
    (s.undated k).recall k a = s.recall k a := by
  obtain piecing | moving := h
  · have left : (s.undated k).recall k a = _ :=
      State.recall_piecing (by rw [State.robot_undated]; exact piecing)
    rw [left, State.recall_piecing piecing, State.robot_undated]
    refine congrArg (State.leave k a) ?_
    exact (congrArg (State.setRobot k _) (State.sendFloor_setRobot
      (s := { s with inFlight := s.inFlight ++ (s.robot k).withdrawn }) _ _ _ _)).trans (State.setRobot_setRobot _ _)
  · have left : (s.undated k).recall k a = _ :=
      State.recall_leaves (.inr (by rw [State.robot_undated]; exact moving))
    rw [left, State.recall_leaves (.inr moving), State.leave_undated]

theorem State.robot_leave : (s.leave k a).robot k =
    (s.robot k).leaving (s.aouReady.leaveTarget k a) (s.aouReady.robotDeadline k) := by
  rw [State.leave_eq, State.robot_setRobot]

theorem State.state_recall (h : (s.robot k).state = .piecing ∨ (s.robot k).state = .moving) :
    ((s.recall k a).robot k).state = .leaving := by
  obtain piecing | moving := h
  · rw [State.recall_piecing piecing, State.robot_leave]
    rfl
  · rw [State.recall_leaves (.inr moving), State.robot_leave]
    rfl

theorem Robot.mem_withdrawn {r : Robot} {c : Instr} (h : c ∈ r.withdrawn) : ∃ f side i, c = .withdrawRequest f side i := by
  unfold Robot.withdrawn at h
  split at h
  · rename_i x _
    split at h
    · cases h
    · exact ⟨x.frame, x.side, x.index, List.mem_singleton.1 h⟩
  · cases h

/-- A recall hands on a withdrawal, and what the AOU has to tell: no call for the PCD. -/
theorem State.noCalls_recall (h : s.NoneFlying pcdBefore) : (s.recall k a).NoneFlying pcdBefore := by
  have leave (u : State) (h : u.NoneFlying pcdBefore) : (u.leave k a).NoneFlying pcdBefore := by
    rw [State.leave_eq]
    exact (h.aouReady (fun _ _ => rfl) fun _ => rfl).sendFloor _ _ _
  cases state : (s.robot k).state with
  | piecing =>
    rw [State.recall_piecing state]
    refine leave _ (State.NoneFlying.sendFloor (h.append rfl fun c hc => ?_) _ _ _)
    obtain ⟨f, side, i, rfl⟩ := Robot.mem_withdrawn hc
    rfl
  | idle =>
    rw [State.recall_leaves (.inl state)]
    exact leave _ h
  | moving =>
    rw [State.recall_leaves (.inr state)]
    exact leave _ h
  | leaving | offline | parked | unresponsive =>
    rw [State.recall_away (by simp [state])]
    exact h

/-! ### A cancel, whatever the robot's deadline was (R99) -/

theorem State.robotsOn_undated : (s.undated k).robotsOn f = s.robotsOn f := by
  rw [State.robotsOn_eq, State.robotsOn_eq]
  refine List.filter_congr fun j _ => ?_
  by_cases same : k = j
  · subst same
    rw [State.robot_undated]
  · rw [State.robot_undated_ne same]

theorem State.abandonFrame_undated (h : k ∈ s.robotsOn f) :
    (s.undated k).abandonFrame f = s.abandonFrame f := by
  obtain ⟨v, hv⟩ : ∃ v, v = s.undated k := ⟨_, rfl⟩
  have works : v.robotsOn f = s.robotsOn f := by rw [hv, State.robotsOn_undated]
  have same : s.SameTalk v := by rw [hv]; exact ⟨rfl, rfl⟩
  have talk := same.abandonFrame (f := f)
  have talk' := State.SameTalk.abandonFrame (s := s) (t := s) (f := f) ⟨rfl, rfl⟩
  rw [works] at talk
  obtain ⟨apart, -, robots⟩ := State.abandonFrame_spec (s := v) (f := f)
  obtain ⟨apart', -, robots'⟩ := State.abandonFrame_spec (s := s) (f := f)
  have records : (v.abandonFrame f).pcd.robots = (s.abandonFrame f).pcd.robots := by
    refine Tab.ext_get fun j => (robots j).trans (Eq.trans ?_ (robots' j).symm)
    rw [works]
    by_cases e : k = j
    · subst e
      rw [if_pos h, if_pos h, hv, State.robot_undated]
      rfl
    · rw [hv, State.robot_undated_ne e]
  rw [← hv]
  refine apart.trans (Eq.trans ?_ apart'.symm)
  rw [← talk.link, ← talk.store, ← talk'.link, ← talk'.store, records, hv]
  rfl

/-- A cancel of the frame that a robot works on drops its deadline. -/
theorem State.cancelPiecing_undated (h : k ∈ s.robotsOn f) :
    (s.undated k).cancelPiecing f = s.cancelPiecing f := by
  rw [State.cancelPiecing_eq, State.cancelPiecing_eq, State.abandonFrame_undated h, State.robotsOn_undated]
  rfl

end Sys2Proof.Machine
end

section
/-! One recall or cancel in flight to the PCD (R79, R99, R101, R110, R118). -/

namespace Sys2Proof.Machine

variable {s : State} {k : RobotId} {a : AisleId} {f : FrameId} {c : Instr} {also : FrameId → Bool}

theorem State.NoneFlying.of_drop {p : Instr → Bool} (left : (s.drop c).NoneFlying p) (hc : p c = false) : s.NoneFlying p := by
  intro d hd
  by_cases same : d = c
  · rwa [same]
  · exact left d ((List.mem_erase_of_ne same).2 hd)

/-! ### A recall alone -/

section

variable (flying : .robotRecall k a ∈ s.inFlight) (left : (s.drop (.robotRecall k a)).NoneFlying pcdBefore)

include flying left

theorem State.takeRecalls_alone : s.takeRecalls = (s.drop (.robotRecall k a)).recall k a := by
  refine State.takeMatching_alone flying rfl fun c hc => ?_
  have none := left c hc
  cases c <;> first | rfl | cases none

theorem State.pcdReadyRobot_recall : s.pcdReadyRobot k = (s.drop (.robotRecall k a)).recall k a := by
  have noCalls := State.noCalls_recall (k := k) (a := a) left
  have ready (also : FrameId → Bool) : s.takeRecalls.takeCancels [] also = (s.drop (.robotRecall k a)).recall k a := by
    rw [State.takeRecalls_alone flying left, State.takeCancels_none noCalls, State.cancelFrames_nil]
  unfold State.pcdReadyRobot State.pcdReady State.pcdReadyFor
  simp only [ready]
  split <;> rfl

end

/-! ### A cancel alone -/

section

variable (flying : .pcdPiecingCancel f ∈ s.inFlight) (left : (s.drop (.pcdPiecingCancel f)).NoneFlying pcdBefore)

include left

theorem State.takeRecalls_cancel : s.takeRecalls = s := by
  have recalls : (s.drop (.pcdPiecingCancel f)).NoneFlying pcdFirst := fun c hc => by
    have none := left c hc
    cases c <;> first | rfl | cases none
  exact State.takeMatching_none (recalls.of_drop rfl)

theorem State.cancelDue_drop {h : Instr} (flies : h ∈ s.inFlight) (other : h ≠ .pcdPiecingCancel f) :
    s.cancelDue also h = false := by
  have none := left h ((List.mem_erase_of_ne other).2 flies)
  cases h <;> first | rfl | cases none

/-- A cancel that is not yet due stays in flight. -/
theorem State.takeCancels_later (later : s.cancelDue also (.pcdPiecingCancel f) = false) : s.takeCancels [] also = s := by
  have none : ∀ h ∈ s.inFlight, s.cancelDue also h = false := fun h flies => by
    by_cases same : h = .pcdPiecingCancel f
    · rw [same, later]
    · exact State.cancelDue_drop left flies same
  unfold State.takeCancels
  dsimp only
  rw [List.filter_eq_nil_iff.2 fun h flies => by simp [none h flies],
    List.filter_eq_self.2 fun h flies => by simp [none h flies]]
  exact State.cancelFrames_nil

include flying

theorem State.takeCancels_alone (due : s.cancelDue also (.pcdPiecingCancel f) = true) :
    s.takeCancels [] also = (s.drop (.pcdPiecingCancel f)).cancelPiecing f := by
  obtain ⟨before, after, split, first⟩ := List.eq_append_cons_of_mem flying
  have dropped : s.inFlight.erase (.pcdPiecingCancel f) = before ++ after := by
    rw [split, List.erase_append_right _ first, List.erase_cons_head]
  have none : ∀ h ∈ before ++ after, s.cancelDue also h = false := fun h flies => by
    have others : h ∈ (s.drop (.pcdPiecingCancel f)).inFlight := by rw [← dropped] at flies; exact flies
    have none := left h others
    cases h <;> first | rfl | cases none
  have taken : s.inFlight.filter (s.cancelDue also) = [.pcdPiecingCancel f] := by
    rw [split, List.filter_append, List.filter_eq_nil_iff.2 fun h hh => by simp [none h (List.mem_append_left _ hh)],
      List.filter_cons_of_pos due, List.filter_eq_nil_iff.2 fun h hh => by simp [none h (List.mem_append_right _ hh)],
      List.nil_append]
  have kept : (s.inFlight.filter fun h => !s.cancelDue also h) = s.inFlight.erase (.pcdPiecingCancel f) := by
    rw [dropped, split, List.filter_append, List.filter_eq_self.2 fun h hh => by simp [none h (List.mem_append_left _ hh)],
      List.filter_cons_of_neg (by simp [due]),
      List.filter_eq_self.2 fun h hh => by simp [none h (List.mem_append_right _ hh)]]
  unfold State.takeCancels
  dsimp only
  rw [taken, kept]
  rfl

theorem State.pcdReadyFor_cancel : s.pcdReadyFor f = (s.drop (.pcdPiecingCancel f)).cancelPiecing f := by
  rw [State.pcdReadyFor, State.takeRecalls_cancel left, State.takeCancels_alone flying left (by simp [State.cancelDue])]

/-- The cancel of the frame that a robot works on is taken before any event for the robot, whether or not the frame spins again. -/
theorem State.pcdReadyRobot_cancel {x : Assignment} (assigned : (s.robot k).assignment = some x) (frame : x.frame = f) :
    s.pcdReadyRobot k = (s.drop (.pcdPiecingCancel f)).cancelPiecing f := by
  unfold State.pcdReadyRobot State.pcdReady
  rw [State.takeRecalls_cancel left]
  cases spins : (s.frameState f).spins with
  | false =>
    rw [State.takeCancels_later left (by simp [State.cancelDue, spins]), assigned]
    dsimp only
    rw [frame]
    exact State.pcdReadyFor_cancel flying left
  | true =>
    have due (also : FrameId → Bool) : s.cancelDue also (.pcdPiecingCancel f) = true := by simp [State.cancelDue, spins]
    rw [State.takeCancels_alone flying left (due _)]
    split
    · rw [State.pcdReadyFor, State.takeRecalls_cancel left, State.takeCancels_alone flying left (due _)]
    · rfl

end

end Sys2Proof.Machine
end

section
/-! The passing of robot deadlines, verify deadlines, stop timers and seconds (R79, R90, R95, R98, R103, R126, R138). -/

namespace Sys2Proof.Machine

variable {s : State} {k : RobotId} {a : AisleId} {f : FrameId} {st : RobotState} {app : State → State} {t : Nat}

/-! ### A robot's deadline (R79) -/

/-- Where what comes first has ended the state to which the deadline belonged, or given a deadline afresh, nothing passes. -/
theorem State.deadlinePasses_ended {u : State} (on : s.power = .on) (deadline : (s.robot k).deadline = some t)
    (state : (s.robot k).state = st) (ready : (s.undated k).pcdReadyRobot k = u)
    (ended : (u.robot k).state = st → (u.robot k).deadline ≠ none) : s.deadlinePasses k st app = u := by
  have other : ¬((((s.undated k).pcdReadyRobot k).robot k).state = st
      ∧ (((s.undated k).pcdReadyRobot k).robot k).deadline = none) := by
    rw [ready]
    exact fun h => ended h.1 h.2
  rw [State.deadlinePasses, State.whenOn_on _ _ on, deadline]
  exact (if_pos state).trans ((if_neg other).trans ready)

/-- A cancel of the frame that a robot works on comes before its deadline (R99). -/
theorem State.deadlinePasses_cancel {x : Assignment} (on : s.power = .on) (deadline : (s.robot k).deadline = some t)
    (piecing : (s.robot k).state = .piecing) (assigned : (s.robot k).assignment = some x)
    (flying : .pcdPiecingCancel x.frame ∈ s.inFlight) (left : (s.drop (.pcdPiecingCancel x.frame)).NoneFlying pcdBefore) :
    s.deadlinePasses k .piecing app = (s.drop (.pcdPiecingCancel x.frame)).cancelPiecing x.frame := by
  have works : k ∈ (s.drop (.pcdPiecingCancel x.frame)).robotsOn x.frame := State.mem_robotsOn.2 ⟨piecing, x, assigned, rfl⟩
  have assigned' : ((s.undated k).robot k).assignment = some x := by rw [State.robot_undated, assigned]
  refine State.deadlinePasses_ended on deadline piecing ?_ (State.onTime_cancelPiecing works)
  rw [State.pcdReadyRobot_cancel (s := s.undated k) flying left assigned' rfl, State.undated_drop,
    State.cancelPiecing_undated works]

/-- A recall of the robot from its aisle comes before its deadline (R101). -/
theorem State.deadlinePasses_recall (on : s.power = .on) (deadline : (s.robot k).deadline = some t)
    (state : (s.robot k).state = st) (away : st = .piecing ∨ st = .moving)
    (flying : .robotRecall k a ∈ s.inFlight) (left : (s.drop (.robotRecall k a)).NoneFlying pcdBefore) :
    s.deadlinePasses k st app = (s.drop (.robotRecall k a)).recall k a := by
  have away' : ((s.drop (.robotRecall k a)).robot k).state = .piecing ∨ ((s.drop (.robotRecall k a)).robot k).state = .moving := by
    rwa [← state] at away
  refine State.deadlinePasses_ended on deadline state ?_ fun leaving => ?_
  · rw [State.pcdReadyRobot_recall (s := s.undated k) flying left, State.undated_drop,
      State.recall_undated away']
  · rw [State.state_recall away'] at leaving
    rw [← leaving] at away
    simp at away

theorem State.giveUpAisle_some (h : (s.robot k).aisle = some a) :
    s.giveUpAisle k = (s.setRobot k { s.robot k with aisle := none }).emit (.robotRelease k a) := by
  rw [State.giveUpAisle, h]
  rfl

theorem State.giveUpAisle_none (h : (s.robot k).aisle = none) : s.giveUpAisle k = s := by rw [State.giveUpAisle, h]

/-- A robot that becomes UNRESPONSIVE (R90, R95, R103). -/
def Robot.failed (r : Robot) (record : FaultRecord) : Robot :=
  { r with state := .unresponsive, aisle := none, assignment := none, leaveTarget := none, deadline := none, faultRecord := record }

/-- A robot that holds an aisle gives it up as it becomes UNRESPONSIVE. -/
theorem State.unresponsive_eq {record : FaultRecord} {detail : Nat} (aisle : (s.robot k).aisle = some a) :
    s.unresponsive k record detail = State.alarm .robotUnresponsive 1 k.val detail
      { s.setRobot k ((s.robot k).failed record) with inFlight := s.inFlight ++ [.robotRelease k a] } := by
  refine congrArg (State.alarm .robotUnresponsive 1 k.val detail) ((State.giveUpAisle_some (a := a) ?_).trans ?_)
  · rw [State.modRobot, State.robot_setRobot]
    exact aisle
  · rw [State.modRobot, State.robot_setRobot, State.setRobot_setRobot]
    rfl

/-- The passing of the deadline of a robot that holds an aisle, with what is withdrawn before. -/
theorem State.deadlinePasses_unresponsive (on : s.power = .on) (before : s.NoneFlying pcdBefore)
    (state : (s.robot k).state = st) (deadline : (s.robot k).deadline = some t) (aisle : (s.robot k).aisle = some a)
    {record : FaultRecord} {detail : Nat} {lost : List Instr}
    (fails : ∀ u : State, u.robot k = { s.robot k with deadline := none } →
      app u = State.unresponsive k record detail { u with inFlight := u.inFlight ++ lost }) :
    s.deadlinePasses k st app = State.alarm .robotUnresponsive 1 k.val detail
      { s.setRobot k ((s.robot k).failed record) with
        timer := timerReading (max s.timer t), inFlight := s.inFlight ++ (lost ++ [.robotRelease k a]) } := by
  have robot : ((s.undated k).reach t).robot k = { s.robot k with deadline := none } := State.robot_undated
  have failed := State.unresponsive_eq (k := k) (a := a) (record := record) (detail := detail)
    (s := { (s.undated k).reach t with inFlight := s.inFlight ++ lost }) ((congrArg Robot.aisle robot).trans aisle)
  refine (State.deadlinePasses_due on before state deadline).trans ((fails _ robot).trans (failed.trans ?_))
  refine congrArg (State.alarm .robotUnresponsive 1 k.val detail) ?_
  show ({ s with
    pcd := { s.pcd with
      robots := (s.pcd.robots.set k { s.robot k with deadline := none }).set k (((s.undated k).robot k).failed record) }
    timer := timerReading (max s.timer t)
    inFlight := s.inFlight ++ lost ++ [.robotRelease k a] } : State) = _
  rw [Tab.set_set, State.robot_undated, List.append_assoc]
  rfl

/-! ### A second (R138) -/

/-- The items of one frame at a seconds tick, by its state. -/
theorem State.tickItems_eq : s.tickItems = (List.finRange 48).flatMap fun f =>
    match s.enabled f, s.frameState f with
    | true, .stopping | true, .doffWait => [.scuStoppedSecond f, .scuDoffWaitSecond f]
    | true, .doffing | true, .held => [.scuStoppedSecond f]
    | _, _ => [] := by
  refine congrArg (fun items => (List.finRange 48).flatMap items) (funext fun f => ?_)
  cases s.enabled f with
  | false => rfl
  | true => cases s.frameState f <;> rfl

/-- Settles O29. -/
theorem timersPass : Obligations.TimersPass := by
  refine ⟨?_, ?_, ?_, ?_, ?_⟩
  · intro k a t s r out on before
    refine ⟨fun idle => ⟨congrArg Host.Outcome.next (State.deadlinePasses_none on idle),
      congrArg Host.Outcome.next (State.deadlinePasses_none on idle),
      congrArg Host.Outcome.next (State.deadlinePasses_none on idle)⟩, fun deadline aisle => ⟨?_, ?_, ?_⟩⟩
    · intro x piecing assigned
      have withdrawn : r.withdrawn = if x.satisfied = true then [] else [.withdrawRequest x.frame x.side x.index] := by
        rw [Robot.withdrawn, assigned]
      rw [← withdrawn]
      refine congrArg Host.Outcome.next (State.deadlinePasses_unresponsive on before piecing deadline aisle fun u robot => ?_)
      rw [State.withdraw_eq, robot, assigned]
      rfl
    · intro moving
      refine congrArg Host.Outcome.next (State.deadlinePasses_unresponsive (lost := []) on before moving deadline aisle
        fun u robot => ?_)
      rw [robot, aisle, List.append_nil]
    · intro leaving
      refine congrArg Host.Outcome.next (State.deadlinePasses_unresponsive (lost := []) on before leaving deadline aisle
        fun u robot => ?_)
      rw [robot, aisle, List.append_nil]
  · intro k a t c s r deadline flying left
    refine ⟨?_, ?_⟩
    · rintro x piecing assigned rfl next
      rw [exec_pcdPiecingCancel next left]
      exact congrArg Host.Outcome.next (State.deadlinePasses_cancel next.1 deadline piecing assigned flying left)
    · rintro rfl next
      have recalled : exec (.robotRecall k a) s = .next ((s.drop (.robotRecall k a)).recall k a) :=
        congrArg Host.Outcome.next (State.handoffInOrder_next next)
      rw [recalled]
      exact ⟨fun piecing => congrArg Host.Outcome.next
          (State.deadlinePasses_recall next.1 deadline piecing (.inl rfl) flying left),
        fun moving => congrArg Host.Outcome.next
          (State.deadlinePasses_recall next.1 deadline moving (.inr rfl) flying left)⟩
  · intro s on
    have passes (e : VerifyEntry) (rest : List VerifyEntry) (list : s.pcd.verify = e :: rest) :
        exec .verifyDeadlineExpiry s = .next ((s.pcdReadyFor e.frame).verifyPasses e) := by
      refine congrArg Host.Outcome.next ((State.whenOn_on _ _ on).trans ?_)
      rw [list]
    refine ⟨fun empty => ?_, fun e rest list => ⟨fun before => ?_, ?_⟩⟩
    · refine congrArg Host.Outcome.next ((State.whenOn_on _ _ on).trans ?_)
      rw [empty]
    · rw [passes e rest list, State.pcdReadyFor_none before, State.verifyPasses_first list]
    · rintro c rfl flying next left calm out
      have cancelled : (s.drop (.pcdPiecingCancel e.frame)).cancelPiecing e.frame =
          (s.drop (.pcdPiecingCancel e.frame)).abandonFrame e.frame := by
        obtain ⟨apart, -, -⟩ := State.abandonFrame_spec (s := s.drop (.pcdPiecingCancel e.frame)) (f := e.frame)
        rw [State.cancelPiecing_eq]
        exact State.reevaluateZones_noBroken ((calm.drop _).of_smu (by rw [apart])) ((out.drop _).of_inFlight (by rw [apart])) _
      have gone : e ∉ ((s.drop (.pcdPiecingCancel e.frame)).abandonFrame e.frame).pcd.verify := by
        rw [State.abandonFrame_spec.1]
        simp
      rw [exec_pcdPiecingCancel next left, passes e rest list, State.pcdReadyFor_cancel flying left, cancelled,
        State.verifyPasses_gone gone]
  · intro f s on dau spu
    refine ⟨fun idle => ?_, fun t running stopping => ?_⟩
    · refine congrArg Host.Outcome.next ((State.whenOn_on _ _ on).trans ?_)
      rw [idle]
    · have ready : (s.reach t).dcuReady f = s.reach t := State.dcuReady_none (dau.of_inFlight rfl) (spu.of_inFlight rfl)
      refine congrArg Host.Outcome.next ((State.whenOn_on _ _ on).trans ?_)
      rw [running]
      dsimp only
      rw [ready]
      exact if_pos stopping
  · intro s on
    refine congrArg Host.Outcome.next ((State.whenOn_on _ _ on).trans ?_)
    exact congrArg (fun items : List Instr => ({ s with
      ticks := s.ticks + 1, timer := timerReading (max s.timer (1000 * (s.ticks + 1))), inFlight := s.inFlight ++ items } : State))
      State.tickItems_eq

end Sys2Proof.Machine
end

section
/-! The candidates in an aisle (R80). -/

namespace Sys2Proof.Machine

variable {s : State} {f : FrameId} {side : Side} {g : GroupId} {z : ZoneId} {a : AisleId} {x : Candidate}

theorem State.groupWorkable_iff : s.groupWorkable f g = true ↔
    (∃ r, s.groupRecord f g = some r ∧ 0 < r.remaining ∧ r.state ≠ .changing)
      ∧ ∀ c, (s.carrier c).state = .wait → (s.carrier c).trip ≠ some (f, g) := by
  unfold State.groupWorkable
  cases s.groupRecord f g with
  | none => simp
  | some r => simp

theorem State.mem_sideCandidates : x ∈ s.sideCandidates f side ↔
    (x.frame = f ∧ x.side = side) ∧ (s.spindle f side x.index).state = .broken
      ∧ s.groupWorkable f ((s.entry f).groupOf side x.index) = true := by
  unfold State.sideCandidates
  rw [List.mem_filterMap]
  constructor
  · rintro ⟨⟨sp, i⟩, place, found⟩
    obtain ⟨⟨broken, works⟩, ⟨⟩⟩ := Option.ite_none_right_eq_some.1 found
    have place : ((s.map f).side side)[i]? = some sp := List.mem_zipIdx_iff_getElem?.1 place
    refine ⟨⟨rfl, rfl⟩, ?_, works⟩
    rwa [State.spindle, place]
  · rintro ⟨⟨rfl, rfl⟩, broken, works⟩
    have place := State.getElem?_of_spindle (s := s) (f := x.frame) (side := x.side) (i := x.index) (by simp [broken])
    exact ⟨(s.spindle x.frame x.side x.index, x.index), List.mem_zipIdx_iff_getElem?.2 place, if_pos ⟨broken, works⟩⟩

/-- The candidates of one frame. -/
def State.frameCandidates (s : State) (a : AisleId) (f : FrameId) : List Candidate :=
  if (s.frameState f).spins then
    ((s.entry f).presentSides.filter fun side => (s.entry f).aisle side == a).flatMap (s.sideCandidates f)
  else []

theorem State.candidates_eq : s.candidates z a =
    if a ∈ s.patrol z ∧ (s.aisleRecord a).reservedBy = none then (List.finRange 48).flatMap (s.frameCandidates a) else [] := by
  unfold State.candidates
  simp only [Bool.and_eq_true, List.contains_iff_mem, beq_iff_eq]
  rfl

theorem State.mem_frameCandidates : x ∈ s.frameCandidates a f ↔
    x.frame = f ∧ ((s.frameState f).spins = true ∧ 0 < (s.entry f).length x.side ∧ (s.entry f).aisle x.side = a
      ∧ (s.spindle f x.side x.index).state = .broken
      ∧ s.groupWorkable f ((s.entry f).groupOf x.side x.index) = true) := by
  unfold State.frameCandidates
  split
  · rename_i spins
    simp only [List.mem_flatMap, List.mem_filter, FrameEntry.presentSides, State.mem_sideCandidates, beq_iff_eq, decide_eq_true_eq]
    constructor
    · rintro ⟨side, ⟨⟨-, present⟩, faces⟩, ⟨rfl, rfl⟩, broken, works⟩
      exact ⟨rfl, spins, present, faces, broken, works⟩
    · rintro ⟨frame, -, present, faces, broken, works⟩
      exact ⟨x.side, ⟨⟨by cases x.side <;> decide, present⟩, faces⟩, ⟨frame, rfl⟩, broken, works⟩
  · rename_i stands
    exact ⟨nofun, fun h => absurd h.2.1 stands⟩

theorem State.mem_candidates : x ∈ s.candidates z a ↔
    (a ∈ s.patrol z ∧ (s.aisleRecord a).reservedBy = none) ∧ x ∈ s.frameCandidates a x.frame := by
  rw [State.candidates_eq]
  split
  · rename_i open'
    rw [List.mem_flatMap]
    constructor
    · rintro ⟨f, -, mem⟩
      obtain ⟨rfl, -⟩ := State.mem_frameCandidates.1 mem
      exact ⟨open', mem⟩
    · rintro ⟨-, mem⟩
      exact ⟨x.frame, List.mem_finRange _, mem⟩
  · rename_i closed
    exact ⟨nofun, fun h => absurd h.1 closed⟩

/-! ### Each once, in frame order -/

theorem State.nodup_sideCandidates : (s.sideCandidates f side).Nodup := by
  have places : (((s.map f).side side).zipIdx).Pairwise fun p q => p.2 ≠ q.2 := by
    have indices : ((((s.map f).side side).zipIdx).map Prod.snd).Nodup := by
      rw [List.zipIdx_map_snd]
      exact List.nodup_range'
    exact List.pairwise_map.1 indices
  refine List.Pairwise.filterMap _ (fun p q other b hb b' hb' => ?_) places
  obtain ⟨-, ⟨⟩⟩ := Option.ite_none_right_eq_some.1 hb
  obtain ⟨-, ⟨⟩⟩ := Option.ite_none_right_eq_some.1 hb'
  exact fun same => other (congrArg Candidate.index same)

theorem State.nodup_frameCandidates : (s.frameCandidates a f).Nodup := by
  unfold State.frameCandidates
  split
  · have sides : (((s.entry f).presentSides.filter fun side => (s.entry f).aisle side == a)).Nodup :=
      ((by decide : sides.Nodup).filter _).filter _
    refine List.nodup_flatMap.2 ⟨fun side _ => State.nodup_sideCandidates, sides.imp fun {side side'} other x mem mem' => ?_⟩
    obtain ⟨⟨-, rfl⟩, -⟩ := State.mem_sideCandidates.1 mem
    obtain ⟨⟨-, rfl⟩, -⟩ := State.mem_sideCandidates.1 mem'
    exact other rfl
  · exact List.nodup_nil

theorem State.nodup_candidates : (s.candidates z a).Nodup := by
  rw [State.candidates_eq]
  split
  · refine List.nodup_flatMap.2 ⟨fun f _ => State.nodup_frameCandidates,
      (List.nodup_finRange 48).imp fun {f f'} other x mem mem' => ?_⟩
    obtain ⟨rfl, -⟩ := State.mem_frameCandidates.1 mem
    obtain ⟨rfl, -⟩ := State.mem_frameCandidates.1 mem'
    exact other rfl
  · exact List.nodup_nil

theorem State.candidates_ascending : (s.candidates z a).Pairwise fun x y => x.frame ≤ y.frame := by
  rw [State.candidates_eq]
  split
  · refine List.pairwise_flatMap.2 ⟨fun f _ => ?_, (List.pairwise_lt_finRange 48).imp fun {f f'} lower x mem y mem' => ?_⟩
    · refine List.pairwise_of_forall_mem_list fun x mem y mem' => ?_
      rw [(State.mem_frameCandidates.1 mem).1, (State.mem_frameCandidates.1 mem').1]
    · rw [(State.mem_frameCandidates.1 mem).1, (State.mem_frameCandidates.1 mem').1]
      exact lower.le
  · exact List.Pairwise.nil

end Sys2Proof.Machine
end

section
/-! The in-aisle choice (R81). -/

namespace Sys2Proof.Machine

variable {pos : Candidate → Nat} {p : Nat} {cs : List Candidate} {c : Candidate} {better : Nat → Nat → Bool}

theorem best_eq_none : best better pos cs = none ↔ cs = [] := by
  cases cs with
  | nil => exact ⟨fun _ => rfl, fun _ => rfl⟩
  | cons c cs =>
    refine ⟨fun none => ?_, nofun⟩
    rw [best] at none
    split at none
    · cases none
    · split at none <;> cases none

/-- The best of a list is one of it, none of it is better, and of those at its position it is the first. -/
theorem best_some (asymm : ∀ x y, better x y = true → better y x = false)
    (weak : ∀ x y z, better x y = false → better y z = false → better x z = false) (h : best better pos cs = some c) :
    c ∈ cs ∧ (∀ d ∈ cs, better (pos d) (pos c) = false) ∧ (cs.filter fun d => pos d == pos c).head? = some c := by
  have irrefl (x : Nat) : better x x = false := by
    by_contra self
    exact self (asymm x x (by simpa using self))
  induction cs generalizing c with
  | nil => cases h
  | cons b rest ih =>
    rw [best] at h
    split at h
    · rename_i none
      obtain rfl := Option.some.inj h
      rw [best_eq_none.1 none]
      simp [irrefl]
    · rename_i d found
      obtain ⟨mem, least, first⟩ := ih found
      split at h
      · rename_i ahead
        obtain rfl := Option.some.inj h
        have apart : ¬((pos b == pos d) = true) := fun same => by
          rw [beq_iff_eq.1 same, irrefl] at ahead
          cases ahead
        refine ⟨List.mem_cons_of_mem _ mem, ?_,
          (congrArg List.head? (List.filter_cons_of_neg (p := fun e => pos e == pos d) apart)).trans first⟩
        rintro e (_ | ⟨_, he⟩)
        · exact asymm _ _ ahead
        · exact least e he
      · rename_i behind
        obtain rfl := Option.some.inj h
        have behind : better (pos d) (pos b) = false := by simpa using behind
        refine ⟨List.mem_cons_self, ?_, by simp⟩
        rintro e (_ | ⟨_, he⟩)
        · exact irrefl _
        · exact weak _ _ _ (least e he) behind

theorem lookUp_eq_none : lookUp pos p cs = none ↔ ∀ d ∈ cs, pos d < p := by
  rw [lookUp, best_eq_none, List.filter_eq_nil_iff]
  simp

theorem lookDown_eq_none : lookDown pos p cs = none ↔ ∀ d ∈ cs, p < pos d := by
  rw [lookDown, best_eq_none, List.filter_eq_nil_iff]
  simp

/-- Of those that a test lets through, the ones at a position that passes it are all of that position. -/
theorem filter_filter_position {q : Nat → Bool} (h : q (pos c) = true) :
    ((cs.filter fun d => q (pos d)).filter fun d => pos d == pos c) = cs.filter fun d => pos d == pos c := by
  rw [List.filter_filter]
  refine List.filter_congr fun d _ => ?_
  by_cases same : pos d = pos c
  · rw [same, h, Bool.and_true]
  · rw [beq_false_of_ne same, Bool.false_and]

theorem lookUp_some (h : lookUp pos p cs = some c) :
    c ∈ cs ∧ p ≤ pos c ∧ (∀ d ∈ cs, p ≤ pos d → pos c ≤ pos d) ∧ (cs.filter fun d => pos d == pos c).head? = some c := by
  obtain ⟨mem, least, first⟩ := best_some (by simpa using fun _ _ => Nat.le_of_lt) (by simp; omega) h
  obtain ⟨mem, ahead⟩ := List.mem_filter.1 mem
  rw [filter_filter_position (q := fun x => decide (p ≤ x)) ahead] at first
  refine ⟨mem, by simpa using ahead, fun d hd hp => ?_, first⟩
  simpa using least d (List.mem_filter.2 ⟨hd, by simpa using hp⟩)

theorem lookDown_some (h : lookDown pos p cs = some c) :
    c ∈ cs ∧ pos c ≤ p ∧ (∀ d ∈ cs, pos d ≤ p → pos d ≤ pos c) ∧ (cs.filter fun d => pos d == pos c).head? = some c := by
  obtain ⟨mem, greatest, first⟩ := best_some (by simpa using fun _ _ => Nat.le_of_lt) (by simp; omega) h
  obtain ⟨mem, behind⟩ := List.mem_filter.1 mem
  rw [filter_filter_position (q := fun x => decide (x ≤ p)) behind] at first
  refine ⟨mem, by simpa using behind, fun d hd hp => ?_, first⟩
  simpa using greatest d (List.mem_filter.2 ⟨hd, by simpa using hp⟩)

theorem inAisleChoice_eq_none {dir : Sweep} : inAisleChoice pos p dir cs = none ↔ cs = [] := by
  have apart (up : lookUp pos p cs = none) (down : lookDown pos p cs = none) : cs = [] :=
    List.eq_nil_iff_forall_not_mem.2 fun d hd =>
      absurd (lookUp_eq_none.1 up d hd) (Nat.not_lt.2 (lookDown_eq_none.1 down d hd).le)
  refine ⟨fun none => ?_, fun empty => by subst empty; cases dir <;> rfl⟩
  cases dir <;> rw [inAisleChoice] at none <;> split at none
  · cases none
  · exact apart ‹_› (Option.map_eq_none_iff.1 none)
  · cases none
  · exact apart (Option.map_eq_none_iff.1 none) ‹_›

/-- A choice upward is the nearest at or ahead, from a robot that turned only with none at or behind. -/
theorem inAisleChoice_up {dir : Sweep} (h : inAisleChoice pos p dir cs = some (.up, c)) :
    lookUp pos p cs = some c ∧ (dir = .down → lookDown pos p cs = none) := by
  cases dir <;> rw [inAisleChoice] at h <;> split at h
  · cases h
    exact ⟨‹_›, nofun⟩
  · obtain ⟨d, -, ⟨⟩⟩ := Option.map_eq_some_iff.1 h
  · cases h
  · obtain ⟨d, found, ⟨⟩⟩ := Option.map_eq_some_iff.1 h
    exact ⟨found, fun _ => ‹_›⟩

/-- A choice downward is the nearest at or behind, from a robot that turned only with none at or ahead. -/
theorem inAisleChoice_down {dir : Sweep} (h : inAisleChoice pos p dir cs = some (.down, c)) :
    lookDown pos p cs = some c ∧ (dir = .up → lookUp pos p cs = none) := by
  cases dir <;> rw [inAisleChoice] at h <;> split at h
  · cases h
  · obtain ⟨d, found, ⟨⟩⟩ := Option.map_eq_some_iff.1 h
    exact ⟨found, fun _ => ‹_›⟩
  · cases h
    exact ⟨‹_›, nofun⟩
  · obtain ⟨d, -, ⟨⟩⟩ := Option.map_eq_some_iff.1 h

/-- The candidate of a choice is one of those to choose from. -/
theorem inAisleChoice_mem {dir turned : Sweep} (h : inAisleChoice pos p dir cs = some (turned, c)) : c ∈ cs := by
  cases turned with
  | up => exact (lookUp_some (inAisleChoice_up h).1).1
  | down => exact (lookDown_some (inAisleChoice_down h).1).1

end Sys2Proof.Machine
end

section
/-! Grants of aisles, and the aisle choice (R83, R84, R107). -/

namespace Sys2Proof.Machine

variable {s : State} {k : RobotId} {a b : AisleId} {l run before after : List AisleId}

theorem State.aisleOf_eq_none : s.aisleOf k = none ↔ ∀ x, (s.aisleRecord x).holder ≠ .robot k := by simp [State.aisleOf]

/-- The one aisle of which a robot is holder. -/
theorem State.aisleOf_only (h : ∀ x, (s.aisleRecord x).holder = .robot k ↔ x = a) : s.aisleOf k = some a :=
  find?_finRange_eq_some (by simp [h]) fun x below => by simp [h, ne_of_lt below]

theorem State.qualifies_iff : s.qualifies k a = true ↔
    (s.aisleRecord a).holder = .none ∧ (s.aisleRecord a).reservedBy = none ∧ s.candidates (s.robotZone k) a ≠ [] := by
  simp [State.qualifies, and_assoc]

/-- What a grant makes of the aisles: the robot is holder, and its old aisle is released (R107). -/
def State.granted (k : RobotId) (a : AisleId) (s : State) : State :=
  match s.aisleOf k with
  | some b => (s.setHolder a (.robot k)).takeRobotRelease k b
  | none => s.setHolder a (.robot k)

theorem State.granted_new (h : s.aisleOf k = none) : s.granted k a = s.setHolder a (.robot k) := by rw [State.granted, h]

section

variable (out : s.NoneFlying aouFirst)

include out

theorem State.robotGrant_free (holder : (s.aisleRecord a).holder = .none) (open' : (s.aisleRecord a).reservedBy = none) :
    s.robotGrant k a = (true, s.granted k a) := by
  rw [State.robotGrant, State.aouReady_none out]
  refine (if_neg (by rw [holder]; exact nofun)).trans ((if_pos ⟨holder, open'⟩).trans ?_)
  unfold State.granted
  dsimp only
  generalize s.aisleOf k = old
  cases old <;> rfl

theorem State.robotGrant_refused (other : (s.aisleRecord a).holder ≠ .robot k)
    (taken : ¬((s.aisleRecord a).holder = .none ∧ (s.aisleRecord a).reservedBy = none)) : s.robotGrant k a = (false, s) := by
  rw [State.robotGrant, State.aouReady_none out]
  exact (if_neg other).trans (if_neg taken)

theorem State.grantAlong_none (h : ∀ x ∈ run, s.qualifies k x ≠ true) : s.grantAlong k run = (none, s) := by
  induction run with
  | nil => rfl
  | cons x rest ih =>
    rw [State.grantAlong, State.aouReady_none out]
    exact (if_neg (h x List.mem_cons_self)).trans (ih fun y hy => h y (List.mem_cons_of_mem _ hy))

/-- The first aisle of a run that qualifies is granted. -/
theorem State.grantAlong_first (split : run = before ++ b :: after) (skipped : ∀ x ∈ before, s.qualifies k x ≠ true)
    (first : s.qualifies k b = true) : s.grantAlong k run = (some b, s.granted k b) := by
  subst split
  induction before with
  | nil =>
    obtain ⟨holder, open', -⟩ := State.qualifies_iff.1 first
    rw [List.nil_append, State.grantAlong, State.aouReady_none out]
    refine (if_pos first).trans ?_
    rw [State.robotGrant_free out holder open']
  | cons x rest ih =>
    rw [List.cons_append, State.grantAlong, State.aouReady_none out]
    exact (if_neg (skipped x List.mem_cons_self)).trans (ih fun y hy => skipped y (List.mem_cons_of_mem _ hy))

end

/-- A patrol list in cyclic order behind an aisle: all of it where the aisle is not in it, else what is behind it and then what
is before it. -/
theorem cycleAfter_eq (h : (a ∉ l ∧ run = l) ∨ ∃ p1 p2, l = p1 ++ a :: p2 ∧ a ∉ p1 ∧ run = p2 ++ p1) :
    cycleAfter l (some a) = run := by
  obtain ⟨absent, rfl⟩ | ⟨p1, p2, rfl, absent, rfl⟩ := h
  · exact if_neg (by simpa using absent)
  · have others : ∀ x ∈ p1, (x != a) = true := fun x hx => bne_iff_ne.2 fun e => absent (e ▸ hx)
    refine (if_pos (by simp)).trans ?_
    rw [List.dropWhile_append_of_pos others, List.takeWhile_append_of_pos others, List.dropWhile_cons_of_neg (by simp),
      List.takeWhile_cons_of_neg (by simp), List.append_nil, List.tail_cons]

/-! ### The aisle choice (R83, R84) -/

/-- A robot on its way to an aisle that it has been granted. -/
def Robot.moving (r : Robot) (a : AisleId) (deadline : Nat) : Robot :=
  { r with state := .moving, aisle := some a, deadline := some deadline }

theorem State.startMove_sendFloor (node kind : Nat) (payload : List Byte) :
    (s.sendFloor node kind payload).startMove k a =
      (s.sendFloor node kind payload).setRobot k ((s.robot k).moving a (s.robotDeadline k)) := by
  rw [State.startMove, State.modRobot, State.robot_sendFloor, State.robotDeadline_sendFloor]
  rfl

/-- The aisles from which a robot chooses, in their order. -/
def State.choices (k : RobotId) (s : State) : List AisleId :=
  cycleAfter (s.patrol (s.robotZone k)) (if (s.robot k).state = .idle then (s.robot k).aisle else none)

theorem State.choices_parked (h : (s.robot k).state = .parked) : s.choices k = s.patrol (s.robotZone k) := by
  rw [State.choices, if_neg (by rw [h]; exact nofun), cycleAfter]

theorem State.choices_idle (h : (s.robot k).state = .idle) (aisle : (s.robot k).aisle = some a)
    (cyclic : (a ∉ s.patrol (s.robotZone k) ∧ run = s.patrol (s.robotZone k))
      ∨ ∃ p1 p2, s.patrol (s.robotZone k) = p1 ++ a :: p2 ∧ a ∉ p1 ∧ run = p2 ++ p1) : s.choices k = run := by
  rw [State.choices, if_pos h, aisle, cycleAfter_eq cyclic]

section

variable (out : s.NoneFlying aouFirst) (choices : s.choices k = run)

include out choices

theorem State.aisleChoice_none (h : ∀ x ∈ run, s.qualifies k x ≠ true) : s.aisleChoice k = s := by
  have none := State.grantAlong_none out h
  rw [← choices] at none
  unfold State.aisleChoice
  exact congrArg (fun p : Option AisleId × State => match p with
    | (some a, s) => (sendMove k a s).startMove k a
    | (Option.none, s) => s) none

theorem State.aisleChoice_first (split : run = before ++ b :: after) (skipped : ∀ x ∈ before, s.qualifies k x ≠ true)
    (first : s.qualifies k b = true) : s.aisleChoice k =
      (sendMove k b (s.granted k b)).setRobot k (((s.granted k b).robot k).moving b ((s.granted k b).robotDeadline k)) := by
  have granted := State.grantAlong_first out split skipped first
  rw [← choices] at granted
  unfold State.aisleChoice
  refine (congrArg (fun p : Option AisleId × State => match p with
    | (some a, s) => (sendMove k a s).startMove k a
    | (none, s) => s) granted).trans (State.startMove_sendFloor _ _ _)

end

/-! ### A robot's turn (R86) -/

theorem State.turn_parked (h : (s.robot k).state = .parked) : s.turn k = s.aisleChoice k := by rw [State.turn, h]

theorem State.turn_idle (h : (s.robot k).state = .idle) (aisle : (s.robot k).aisle = some a) :
    s.turn k = s.inAisle k a (s.candidates (s.robotZone k) a).length [] := by
  rw [State.turn, h, aisle]

theorem State.turn_idle_empty (h : (s.robot k).state = .idle) (aisle : (s.robot k).aisle = some a)
    (empty : s.candidates (s.robotZone k) a = []) : s.turn k = s.aisleChoice k := by
  rw [State.turn_idle h aisle, empty]
  rfl

theorem State.Calm.robotZone {t : State} (h : s.Calm t) : t.robotZone k = s.robotZone k := by
  obtain ⟨-, -, robots, -⟩ := State.tables_eq h.tables
  rw [State.robotZone, robots, State.robotZone]

/-- A turn moves no robot to another zone, so the robots of a zone are those from the start. -/
theorem State.reevaluate_eq {z : ZoneId} : s.reevaluate z =
    ((List.finRange 12).filter fun k => decide (s.robotZone k = z)).foldl (fun u k => u.turn k) s := by
  have along (l : List RobotId) (t : State) (h : s.Calm t) :
      l.foldl (fun u k => if u.robotZone k = z then u.turn k else u) t =
        (l.filter fun k => decide (s.robotZone k = z)).foldl (fun u k => u.turn k) t := by
    induction l generalizing t with
    | nil => rfl
    | cons k rest ih =>
      rw [List.foldl_cons, h.robotZone]
      by_cases mine : s.robotZone k = z
      · rw [if_pos mine, ih _ (h.turn k), List.filter_cons_of_pos (by simpa using mine), List.foldl_cons]
      · rw [if_neg mine, ih _ h, List.filter_cons_of_neg (by simpa using mine)]
  exact along _ s .refl

end Sys2Proof.Machine
end

section
/-! The choice in the aisle and its assignment (R81, R82). -/

namespace Sys2Proof.Machine

variable {s : State} {k : RobotId} {a : AisleId} {f : FrameId} {side : Side} {i : Nat} {c : Candidate} {dir : Sweep}

/-- The SMU grants a BROKEN spindle of a frame that spins (R64). -/
theorem State.assignRequest_granted (asked : s.NoneFlying (pcdToSmu f)) (first : s.NoneFlying (smuFirst f))
    (broken : (s.spindle f side i).state = .broken) (spins : (s.frameState f).spins = true) :
    s.assignRequest f side i = (true, s.change f side i { s.spindle f side i with state := .assigned }) := by
  rw [State.assignRequest, State.takeMatching_none asked, State.smuReady_none first]
  exact if_pos ⟨broken, spins⟩

/-- A robot that has been sent to a spindle. -/
def Robot.assigned (r : Robot) (c : Candidate) (deadline : Nat) : Robot :=
  { r with
    state := .piecing, assignment := some { frame := c.frame, side := c.side, index := c.index, satisfied := false },
    deadline := some deadline }

theorem State.assign_eq (about : s.NoneFlying (aboutSpindle c.frame c.side c.index)) : s.assign k c =
    (sendAssign k c.frame c.side c.index (s.candidatePosition c) s).setRobot k ((s.robot k).assigned c (s.robotDeadline k)) := by
  unfold State.assign sendAssign State.modRobot
  rw [State.takeMatching_none about]
  dsimp only
  rw [State.sendFloor_setRobot, State.setRobot_setRobot, State.robot_setRobot]
  exact congrArg (fun deadline => State.setRobot k ((s.robot k).assigned c deadline) _) (State.robotDeadline_sendFloor ..)

/-- The first choice in the aisle is granted. -/
theorem State.inAisle_assigned {fuel : Nat} (asked : s.NoneFlying (pcdToSmu c.frame)) (first : s.NoneFlying (smuFirst c.frame))
    (about : s.NoneFlying (aboutSpindle c.frame c.side c.index))
    (chosen : inAisleChoice s.candidatePosition (s.robot k).position (s.robot k).sweep (s.candidates (s.robotZone k) a)
      = some (dir, c)) :
    s.inAisle k a (fuel + 1) [] =
      (sendAssign k c.frame c.side c.index ((s.entry c.frame).offset c.side + c.index)
        (s.change c.frame c.side c.index { s.spindle c.frame c.side c.index with state := .assigned })).setRobot k
        ({ s.robot k with sweep := dir }.assigned c (s.robotDeadline k)) := by
  have mem := inAisleChoice_mem chosen
  obtain ⟨-, spins, -, -, broken, -⟩ := State.mem_frameCandidates.1 (State.mem_candidates.1 mem).2
  have all : ((s.candidates (s.robotZone k) a).filter fun c => !([] : List Candidate).contains c)
      = s.candidates (s.robotZone k) a := List.filter_eq_self.2 fun _ _ => rfl
  have granted := State.assignRequest_granted (s := s.setRobot k { s.robot k with sweep := dir }) asked first broken spins
  have about' : (s.change c.frame c.side c.index { s.spindle c.frame c.side c.index with state := .assigned }).NoneFlying
      (aboutSpindle c.frame c.side c.index) := about.change _ rfl rfl
  rw [State.inAisle, all]
  dsimp only
  rw [chosen]
  dsimp only
  rw [State.modRobot, granted]
  refine (State.assign_eq (s := (s.change c.frame c.side c.index
    { s.spindle c.frame c.side c.index with state := .assigned }).setRobot k { s.robot k with sweep := dir }) about').trans ?_
  unfold sendAssign
  rw [State.sendFloor_setRobot, State.setRobot_setRobot, State.robot_setRobot]
  rfl

/-- Settles O32. -/
theorem choicesOfRobots : Obligations.ChoicesOfRobots := by
  unfold Obligations.ChoicesOfRobots
  refine ⟨?_, ?_, ?_, ?_, ?_, ?_⟩
  · intro z a s
    refine ⟨fun x => ?_, State.nodup_candidates, State.candidates_ascending, fun x => rfl⟩
    rw [State.mem_candidates, State.mem_frameCandidates, State.groupWorkable_iff, FrameState.spins_iff]
    tauto
  · intro pos p cs
    refine ⟨fun dir => inAisleChoice_eq_none, fun dir c chosen => ?_, fun dir c chosen => ?_⟩
    · obtain ⟨up, turned⟩ := inAisleChoice_up chosen
      obtain ⟨mem, ahead, nearest, first⟩ := lookUp_some up
      exact ⟨mem, ahead, nearest, first, fun down => lookDown_eq_none.1 (turned down)⟩
    · obtain ⟨down, turned⟩ := inAisleChoice_down chosen
      obtain ⟨mem, behind, nearest, first⟩ := lookDown_some down
      exact ⟨mem, behind, nearest, first, fun up => lookUp_eq_none.1 (turned up)⟩
  · intro k a dir x s r pos first asked about idle aisle chosen
    obtain ⟨fuel, count⟩ := Nat.exists_eq_succ_of_ne_zero
      (List.length_pos_of_mem (inAisleChoice_mem chosen)).ne'
    rw [State.turn_idle idle aisle, count, State.inAisle_assigned asked first about chosen]
    rfl
  · intro k s r ok out unheld parked
    have qualifies (x : AisleId) : ok x ↔ s.qualifies k x = true := State.qualifies_iff.symm
    refine ⟨fun none => ?_, fun before a after split skipped first => ?_⟩
    · rw [State.turn_parked parked, State.aisleChoice_none out (State.choices_parked parked) fun x hx h =>
        none x hx ((qualifies x).2 h)]
    · rw [State.turn_parked parked, State.aisleChoice_first out (State.choices_parked parked) split
        (fun x hx h => skipped x hx ((qualifies x).2 h)) ((qualifies a).1 first), State.granted_new unheld]
      rfl
  · intro k a run s r patrol ok out idle aisle empty cyclic
    have qualifies (x : AisleId) : ok x ↔ s.qualifies k x = true := State.qualifies_iff.symm
    have choices := State.choices_idle idle aisle cyclic
    rw [State.turn_idle_empty idle aisle empty]
    refine ⟨fun none => State.aisleChoice_none out choices fun x hx h => none x hx ((qualifies x).2 h), ?_⟩
    intro before b after split skipped first holds open'
    have granted : s.granted k b =
        { ((s.setHolder b (.robot k)).setHolder a .none) with inFlight := s.inFlight ++ [.freeAisleNotice a] } := by
      have apart : a ≠ b := fun same => by
        have mine := (holds a).2 rfl
        rw [same, first.1] at mine
        cases mine
      have record : ((s.setHolder b (.robot k)).aisleRecord a) = s.aisleRecord a := State.aisleRecord_setAisle_ne _ apart.symm _
      rw [State.granted, State.aisleOf_only holds]
      exact State.takeRobotRelease_free (by rw [record]; exact (holds a).2 rfl) (by rw [record]; exact open')
    rw [State.aisleChoice_first out choices split (fun x hx h => skipped x hx ((qualifies x).2 h)) ((qualifies b).1 first),
      granted]
    rfl
  · intro z s
    exact State.reevaluate_eq

end Sys2Proof.Machine
end

section
/-! The hold step and a robot's release: what they make of the aisles (R107, R108, R111). -/

namespace Sys2Proof.Machine

variable {s t u : State} {k : RobotId} {a b : AisleId} {d : DofferId} {x : Holder} {l : List AisleId}

/-! ### A holder for one aisle, and for several -/

theorem State.holder_setHolder : ((s.setHolder a x).aisleRecord b).holder = if b = a then x else (s.aisleRecord b).holder := by
  by_cases same : a = b
  · subst same
    rw [State.setHolder, State.aisleRecord_setAisle, if_pos rfl]
  · rw [State.setHolder, State.aisleRecord_setAisle_ne _ same, if_neg (Ne.symm same)]

theorem State.reservedBy_setHolder : ((s.setHolder a x).aisleRecord b).reservedBy = (s.aisleRecord b).reservedBy := by
  by_cases same : a = b
  · subst same
    rw [State.setHolder, State.aisleRecord_setAisle]
  · rw [State.setHolder, State.aisleRecord_setAisle_ne _ same]

/-- Some aisles with the same holder. -/
def State.setHolders (l : List AisleId) (x : Holder) (s : State) : State := l.foldl (fun u a => u.setHolder a x) s

theorem State.setHolders_aside :
    s.setHolders l x = { s with aou := { s.aou with aisles := (s.setHolders l x).aou.aisles } } := by
  induction l generalizing s with
  | nil => rfl
  | cons a rest ih => exact ih (s := s.setHolder a x)

theorem State.aisleRecord_setHolders :
    (s.setHolders l x).aisleRecord b = if b ∈ l then { s.aisleRecord b with holder := x } else s.aisleRecord b := by
  induction l generalizing s with
  | nil => exact (if_neg List.not_mem_nil).symm
  | cons a rest ih =>
    refine (ih (s := s.setHolder a x)).trans ?_
    by_cases same : a = b
    · subst same
      rw [if_pos List.mem_cons_self, State.setHolder, State.aisleRecord_setAisle, ite_self]
    · rw [State.setHolder, State.aisleRecord_setAisle_ne _ same]
      simp [Ne.symm same]

/-! ### The hold step (R111) -/

theorem State.mem_reservedFor : a ∈ s.reservedFor d ↔ (s.aisleRecord a).reservedBy = some d := by simp [State.reservedFor]

/-- A doffer with an aisle of its reservation not yet empty waits; one with no reservation has nothing to hold. -/
theorem State.holdStep_waits (h : (∃ a, (s.aisleRecord a).reservedBy = some d ∧ (s.aisleRecord a).holder ≠ .none)
    ∨ ∀ a, (s.aisleRecord a).reservedBy ≠ some d) : s.holdStep d = s := by
  refine if_neg fun ⟨reserved, empty⟩ => ?_
  obtain ⟨a, mine, held⟩ | none := h
  · exact held (by simpa using List.all_eq_true.1 empty a (State.mem_reservedFor.2 mine))
  · exact reserved (List.eq_nil_iff_forall_not_mem.2 fun a ha => none a (State.mem_reservedFor.1 ha))

/-- What the DCU is told of the aisles that a doffer holds. -/
def State.heldNotices (s : State) (d : DofferId) : List Instr :=
  match s.aou.claims.get d with
  | some f => [.aislesHeldNotice d f]
  | none => []

theorem State.holdStep_holds (reserved : (s.aisleRecord a).reservedBy = some d)
    (empty : ∀ a, (s.aisleRecord a).reservedBy = some d → (s.aisleRecord a).holder = .none) :
    s.holdStep d = (s.setHolders (s.reservedFor d) (.doffer d)).emitAll (s.heldNotices d) := by
  have claims : (s.setHolders (s.reservedFor d) (.doffer d)).aou.claims = s.aou.claims := by rw [State.setHolders_aside]
  have all : ((s.reservedFor d).all fun a => (s.aisleRecord a).holder == .none) = true :=
    List.all_eq_true.2 fun b hb => by simpa using empty b (State.mem_reservedFor.1 hb)
  refine (if_pos ⟨List.ne_nil_of_mem (State.mem_reservedFor.2 reserved), all⟩).trans ?_
  change (match (s.setHolders (s.reservedFor d) (.doffer d)).aou.claims.get d with
    | some f => (s.setHolders (s.reservedFor d) (.doffer d)).emit (.aislesHeldNotice d f)
    | none => s.setHolders (s.reservedFor d) (.doffer d)) = _
  rw [claims, State.heldNotices]
  cases s.aou.claims.get d with
  | some f => rfl
  | none => exact State.inFlight_append_nil.symm

/-- A hold step leaves all as it is, or the doffer holds the aisles reserved for it. -/
theorem State.holdStep_cases (d : DofferId) (s : State) :
    s.holdStep d = s ∨ s.holdStep d = (s.setHolders (s.reservedFor d) (.doffer d)).emitAll (s.heldNotices d) := by
  by_cases waits : (∃ a, (s.aisleRecord a).reservedBy = some d ∧ (s.aisleRecord a).holder ≠ .none)
      ∨ ∀ a, (s.aisleRecord a).reservedBy ≠ some d
  · exact .inl (State.holdStep_waits waits)
  · push Not at waits
    obtain ⟨empty, a, reserved⟩ := waits
    exact .inr (State.holdStep_holds reserved empty)

/-- After a hold step an aisle's record is as before, or that of an aisle which its doffer holds. -/
theorem State.aisleRecord_holdStep : (s.holdStep d).aisleRecord b = s.aisleRecord b
    ∨ (s.aisleRecord b).reservedBy = some d ∧ (s.holdStep d).aisleRecord b = { holder := .doffer d, reservedBy := some d } := by
  obtain same | holds := State.holdStep_cases d s
  · exact .inl (by rw [same])
  · have record : (s.holdStep d).aisleRecord b = (s.setHolders (s.reservedFor d) (.doffer d)).aisleRecord b := by
      rw [holds]
      rfl
    rw [State.aisleRecord_setHolders] at record
    by_cases mine : b ∈ s.reservedFor d
    · have reserved := State.mem_reservedFor.1 mine
      refine .inr ⟨reserved, record.trans ((if_pos mine).trans ?_)⟩
      exact congrArg (fun o => ({ holder := .doffer d, reservedBy := o } : Aisle)) reserved
    · exact .inl (record.trans (if_neg mine))

/-! ### A release (R107, R108) -/

section

variable (holds : (s.aisleRecord a).holder = .robot k)

include holds

theorem State.aisleRecord_released : (s.takeRobotRelease k a).aisleRecord b = (s.setHolder a .none).aisleRecord b
    ∨ ∃ d, (s.aisleRecord b).reservedBy = some d
      ∧ (s.takeRobotRelease k a).aisleRecord b = { holder := .doffer d, reservedBy := some d } := by
  cases reserved : (s.aisleRecord a).reservedBy with
  | none =>
    rw [State.takeRobotRelease_free holds reserved]
    exact .inl rfl
  | some d =>
    rw [State.takeRobotRelease_reserved holds reserved]
    obtain same | ⟨mine, held⟩ := State.aisleRecord_holdStep (s := s.setHolder a .none) (d := d) (b := b)
    · exact .inl same
    · exact .inr ⟨d, State.reservedBy_setHolder.symm.trans mine, held⟩

theorem State.reservedBy_released : ((s.takeRobotRelease k a).aisleRecord b).reservedBy = (s.aisleRecord b).reservedBy := by
  obtain same | ⟨d, reserved, held⟩ := State.aisleRecord_released holds (b := b)
  · rw [same, State.reservedBy_setHolder]
  · rw [held, reserved]

/-- Of the unreserved aisles the released one has no holder, and the others have the one they had. -/
theorem State.holder_released (open' : (s.aisleRecord b).reservedBy = none) :
    ((s.takeRobotRelease k a).aisleRecord b).holder = if b = a then .none else (s.aisleRecord b).holder := by
  obtain same | ⟨d, reserved, -⟩ := State.aisleRecord_released holds (b := b)
  · rw [same, State.holder_setHolder]
  · rw [open'] at reserved
    cases reserved

end

/-- A robot that releases the one aisle it holds holds none. -/
theorem State.aisleOf_released (holds : ∀ x, (s.aisleRecord x).holder = .robot k ↔ x = a) :
    (s.takeRobotRelease k a).aisleOf k = none := by
  refine State.aisleOf_eq_none.2 fun x hx => ?_
  obtain same | ⟨d, -, held⟩ := State.aisleRecord_released ((holds a).2 rfl) (b := x)
  · rw [same, State.holder_setHolder] at hx
    split at hx
    · cases hx
    · exact absurd ((holds x).1 hx) ‹_›
  · rw [held] at hx
    cases hx

/-! ### What a choice of an aisle reads beside the aisles' records -/

/-- Two states with the same frames, spindles, groups, tables and time. -/
structure State.SameFloor (s t : State) : Prop where
  smu : t.smu = s.smu
  dcu : t.dcu = s.dcu
  rsu : t.rsu = s.rsu
  frames : t.store.frames = s.store.frames
  zones : t.store.zones = s.store.zones
  robots : t.store.robots = s.store.robots
  timer : t.timer = s.timer

theorem State.SameFloor.refl : s.SameFloor s := ⟨rfl, rfl, rfl, rfl, rfl, rfl, rfl⟩

theorem State.SameFloor.trans (h : s.SameFloor t) (h' : t.SameFloor u) : s.SameFloor u :=
  ⟨h'.smu.trans h.smu, h'.dcu.trans h.dcu, h'.rsu.trans h.rsu, h'.frames.trans h.frames, h'.zones.trans h.zones,
    h'.robots.trans h.robots, h'.timer.trans h.timer⟩

theorem State.SameFloor.symm (h : s.SameFloor t) : t.SameFloor s :=
  ⟨h.smu.symm, h.dcu.symm, h.rsu.symm, h.frames.symm, h.zones.symm, h.robots.symm, h.timer.symm⟩

theorem State.SameFloor.sendFloor (node kind : Nat) (payload : List Byte) : s.SameFloor (s.sendFloor node kind payload) := by
  constructor <;> simp

theorem State.SameFloor.copyReport (c : Instr) : s.SameFloor (s.copyReport c) := by
  constructor <;> simp

theorem State.SameFloor.holdStep : s.SameFloor (s.holdStep d) := by
  obtain same | holds := State.holdStep_cases d s
  · rw [same]
    exact .refl
  · rw [holds, State.setHolders_aside]
    exact ⟨rfl, rfl, rfl, rfl, rfl, rfl, rfl⟩

theorem State.SameFloor.released : s.SameFloor (s.takeRobotRelease k a) := by
  have freed : s.SameFloor (s.setHolder a .none) := ⟨rfl, rfl, rfl, rfl, rfl, rfl, rfl⟩
  by_cases holds : (s.aisleRecord a).holder = .robot k
  · cases reserved : (s.aisleRecord a).reservedBy with
    | none =>
      rw [State.takeRobotRelease_free holds reserved]
      exact freed.trans ⟨rfl, rfl, rfl, rfl, rfl, rfl, rfl⟩
    | some d =>
      rw [State.takeRobotRelease_reserved holds reserved]
      exact freed.trans .holdStep
  · rw [State.takeRobotRelease_other holds]
    exact .refl

theorem State.SameFloor.patrol (h : s.SameFloor t) (z : ZoneId) : t.patrol z = s.patrol z := by
  rw [State.patrol, h.zones, State.patrol]

theorem State.SameFloor.robotZone (h : s.SameFloor t) (k : RobotId) : t.robotZone k = s.robotZone k := by
  rw [State.robotZone, h.robots, State.robotZone]

theorem State.SameFloor.robotDeadline (h : s.SameFloor t) (k : RobotId) : t.robotDeadline k = s.robotDeadline k := by
  rw [State.robotDeadline, h.timer, h.zones, h.robotZone, State.robotDeadline]

theorem State.SameFloor.candidates (h : s.SameFloor t) (z : ZoneId)
    (reserved : (t.aisleRecord a).reservedBy = (s.aisleRecord a).reservedBy) : t.candidates z a = s.candidates z a := by
  have entry (f : FrameId) : t.entry f = s.entry f := by rw [State.entry, h.frames, State.entry]
  have state (f : FrameId) : t.frameState f = s.frameState f := by
    rw [State.frameState, State.cycle, h.dcu, State.frameState, State.cycle]
  have workable (f : FrameId) (g : GroupId) : t.groupWorkable f g = s.groupWorkable f g := by
    unfold State.groupWorkable State.groupRecord State.carrier
    rw [h.rsu]
  have side (f : FrameId) : t.sideCandidates f = s.sideCandidates f := by
    funext side
    unfold State.sideCandidates State.map
    simp only [h.smu, entry, workable]
  unfold State.candidates
  simp only [h.patrol, reserved, entry, state, side]

/-- An aisle with the same record qualifies alike. -/
theorem State.SameFloor.qualifies (h : s.SameFloor t) (same : t.aisleRecord a = s.aisleRecord a) :
    t.qualifies k a = s.qualifies k a := by
  rw [State.qualifies, same, h.robotZone, h.candidates _ (congrArg Aisle.reservedBy same), State.qualifies]

end Sys2Proof.Machine
end

section
/-! Recalls (R101). -/

namespace Sys2Proof.Machine

variable {s t : State} {k : RobotId} {a b : AisleId} {run before after : List AisleId} {target : Option AisleId}

theorem exec_robotRecall (next : s.Next pcdFirst (.robotRecall k a)) :
    exec (.robotRecall k a) s = .next ((s.drop (.robotRecall k a)).recall k a) :=
  congrArg Host.Outcome.next (State.handoffInOrder_next next)

theorem State.sendFloor_inFlying (l : List Instr) (node kind : Nat) (payload : List Byte) :
    ({ s with inFlight := l } : State).sendFloor node kind payload = { s.sendFloor node kind payload with inFlight := l } := by
  have spoken : s.sendFloor node kind payload = (s.sendFloor node kind payload).telling s :=
    (State.spoken_sendFloor _ _ _).eq_telling
  rw [spoken]
  exact State.sendFloor_telling { s with inFlight := l } node kind payload

/-! ### The target of a leave (R83, R101) -/

theorem State.SameFloor.leaveTarget (h : s.SameFloor t) (aou : t.aou = s.aou) : t.leaveTarget k a = s.leaveTarget k a := by
  have qualifies : (fun b => t.qualifies k b) = fun b => s.qualifies k b :=
    funext fun b => h.qualifies (by rw [State.aisleRecord, aou, State.aisleRecord])
  rw [State.leaveTarget, qualifies, h.robotZone, h.patrol, State.leaveTarget]

theorem State.leaveTarget_noBroken (h : s.NoBroken) : s.leaveTarget k a = none :=
  List.find?_eq_none.2 fun _ _ => by simp [State.qualifies_noBroken h]

theorem State.leaveTarget_first (choices : cycleAfter (s.patrol (s.robotZone k)) (some a) = run)
    (split : run = before ++ b :: after) (skipped : ∀ x ∈ before, s.qualifies k x ≠ true) (first : s.qualifies k b = true) :
    s.leaveTarget k a = some b := by
  rw [State.leaveTarget, choices, split]
  exact List.find?_eq_some_iff_append.2 ⟨first, before, after, rfl, fun x hx => by simpa using skipped x hx⟩

/-! ### The state after a recall -/

section

variable (out : s.NoneFlying aouFirst) (choice : s.leaveTarget k a = target)

include out choice

theorem State.leave_chosen :
    s.leave k a = (sendLeave k target s).setRobot k ((s.robot k).leaving target (s.robotDeadline k)) := by
  rw [State.leave_eq, State.aouReady_none out, choice]

/-- A PIECING robot is sent ABANDON before LEAVE, and its assignment goes (R101). -/
theorem State.recall_working (h : (s.robot k).state = .piecing) : s.recall k a =
    { (sendLeave k target (sendAbandon k s)).setRobot k
        ({ s.robot k with assignment := none }.leaving target (s.robotDeadline k)) with
      inFlight := s.inFlight ++ (s.robot k).withdrawn } := by
  obtain ⟨left, hl⟩ : ∃ l, l = s.inFlight ++ (s.robot k).withdrawn := ⟨_, rfl⟩
  obtain ⟨freed, hr⟩ : ∃ r : Robot, r = { s.robot k with assignment := none, deadline := none } := ⟨_, rfl⟩
  have told : s.recall k a = ({ (sendAbandon k s).setRobot k freed with inFlight := left } : State).leave k a := by
    rw [State.recall_piecing h, ← hl, ← hr, sendAbandon, State.sendFloor_inFlying]
    rfl
  obtain ⟨u, hu⟩ : ∃ u : State, u = { (sendAbandon k s).setRobot k freed with inFlight := left } := ⟨_, rfl⟩
  have floor : s.SameFloor u := by
    rw [hu]
    exact (State.SameFloor.sendFloor _ _ _).trans ⟨rfl, rfl, rfl, rfl, rfl, rfl, rfl⟩
  have aou : u.aou = s.aou := by
    rw [hu]
    exact State.sendFloor_aou s _ _ _
  have quiet : u.NoneFlying aouFirst := out.append (by rw [hu, ← hl]) fun c hc => by
    obtain ⟨f, side, i, rfl⟩ := Robot.mem_withdrawn hc
    rfl
  have robot : u.robot k = freed := by
    rw [hu]
    exact State.robot_setRobot _ _ _
  rw [told, ← hu, State.leave_chosen quiet ((floor.leaveTarget aou).trans choice), robot, floor.robotDeadline, hu, sendLeave,
    State.sendFloor_inFlying, State.sendFloor_setRobot]
  subst hr hl
  exact congrArg (fun v : State => ({ v with inFlight := s.inFlight ++ (s.robot k).withdrawn } : State))
    (State.setRobot_setRobot (s := sendLeave k target (sendAbandon k s)) _ _)

end

end Sys2Proof.Machine
end

section
/-! ROBOT-LEFT (R85, R102). -/

namespace Sys2Proof.Machine

variable {s t u q : State} {k : RobotId} {a b : AisleId} {r : Robot} {x : Holder} {run before after : List AisleId}

theorem exec_robotLeft {node seq : Nat} (taken : s.Takes (.robotLeft node seq)) :
    exec (.robotLeft node seq) s = .next ((s.copyReport (.robotLeft node seq)).takeRobotLeft (robotAt node)) :=
  congrArg Host.Outcome.next (State.report_accepted taken)

/-! ### A release on its way to the AOU, which takes it before it grants (R108; log 3) -/

theorem State.aouReady_release (out : s.NoneFlying aouFirst) : (s.emit (.robotRelease k a)).aouReady = s.takeRobotRelease k a :=
  (State.takeMatching_one (l := []) out rfl (by simp)).trans (congrArg (State.takeRobotRelease k a) State.inFlight_append_nil)

theorem State.robotGrant_settled (out : s.aouReady.NoneFlying aouFirst) : s.robotGrant k a = s.aouReady.robotGrant k a := by
  rw [State.robotGrant, State.robotGrant, State.aouReady_none out]

theorem State.grantAlong_settled (out : s.aouReady.NoneFlying aouFirst) (due : run ≠ [] ∨ s.aouReady = s) :
    s.grantAlong k run = s.aouReady.grantAlong k run := by
  cases run with
  | nil =>
    obtain due | due := due
    · exact absurd rfl due
    · rw [due]
  | cons b rest => rw [State.grantAlong, State.grantAlong, State.aouReady_none out]

/-! ### Grants to a robot that holds no aisle, its record aside -/

section

variable (settled : q.aouReady = u.setRobot k r) (out : u.NoneFlying aouFirst)

include settled out

theorem State.robotGrant_apart (unheld : u.aisleOf k = none) (holder : (u.aisleRecord b).holder = .none)
    (open' : (u.aisleRecord b).reservedBy = none) :
    q.robotGrant k b = (true, (u.setHolder b (.robot k)).setRobot k r) := by
  have out' : (u.setRobot k r).NoneFlying aouFirst := out
  rw [State.robotGrant_settled (by rw [settled]; exact out), settled, State.robotGrant_free out' holder open',
    State.granted_new (s := u.setRobot k r) unheld]
  rfl

theorem State.robotGrant_apart_refused (unheld : u.aisleOf k = none)
    (taken : ¬((u.aisleRecord b).holder = .none ∧ (u.aisleRecord b).reservedBy = none)) :
    q.robotGrant k b = (false, u.setRobot k r) := by
  have out' : (u.setRobot k r).NoneFlying aouFirst := out
  rw [State.robotGrant_settled (by rw [settled]; exact out), settled,
    State.robotGrant_refused out' (State.aisleOf_eq_none.1 unheld b) taken]

theorem State.grantAlong_apart (unheld : u.aisleOf k = none) (split : run = before ++ b :: after)
    (skipped : ∀ x ∈ before, u.qualifies k x ≠ true) (first : u.qualifies k b = true) :
    q.grantAlong k run = (some b, (u.setHolder b (.robot k)).setRobot k r) := by
  have out' : (u.setRobot k r).NoneFlying aouFirst := out
  rw [State.grantAlong_settled (by rw [settled]; exact out) (.inl (by rw [split]; simp)), settled,
    State.grantAlong_first out' split skipped first, State.granted_new (s := u.setRobot k r) unheld]
  rfl

theorem State.grantAlong_apart_none (none : ∀ x ∈ run, u.qualifies k x ≠ true) (due : run ≠ [] ∨ q.aouReady = q) :
    q.grantAlong k run = (Option.none, u.setRobot k r) := by
  have out' : (u.setRobot k r).NoneFlying aouFirst := out
  rw [State.grantAlong_settled (by rw [settled]; exact out) due, settled, State.grantAlong_none out' none]

end

theorem State.startMove_apart (node kind : Nat) (payload : List Byte) :
    ((u.setRobot k r).sendFloor node kind payload).startMove k b =
      (u.sendFloor node kind payload).setRobot k (r.moving b (u.robotDeadline k)) := by
  rw [State.startMove_sendFloor, State.sendFloor_setRobot, State.setRobot_setRobot, State.robot_setRobot]
  rfl

theorem State.park_apart : (sendLeave k none (u.setRobot k r)).modRobot k (fun r => { r with state := .parked }) =
    (sendLeave k none u).setRobot k { r with state := .parked } := by
  rw [sendLeave, State.sendFloor_setRobot, State.modRobot_setRobot]

/-! ### A robot that has left its aisle -/

/-- A robot that has left its aisle. -/
def Robot.left (r : Robot) : Robot := { r with aisle := none, leaveTarget := none, deadline := none }

theorem State.takeRobotLeft_stale (calls : s.NoneFlying pcdBefore) (h : (s.robot k).state ≠ .leaving) :
    s.takeRobotLeft k = s.countStale := by
  rw [State.takeRobotLeft, State.pcdReady_none calls]
  exact if_neg h

/-- A robot that has left is sent to the first aisle of its list that can be granted, or parked (R85, R102). -/
def State.sendOn (k : RobotId) (q : State) : State :=
  match q.grantAlong k (q.patrol (q.robotZone k)) with
  | (some b, s) => (sendMove k b s).startMove k b
  | (none, s) => ((sendLeave k none s).modRobot k fun r => { r with state := .parked }).reevaluate (s.robotZone k)

section

variable (settled : q.aouReady = u.setRobot k r) (out : u.NoneFlying aouFirst) (floor : u.SameFloor q)

include settled out floor

theorem State.sendOn_first (unheld : u.aisleOf k = none) (split : u.patrol (u.robotZone k) = before ++ b :: after)
    (skipped : ∀ x ∈ before, u.qualifies k x ≠ true) (first : u.qualifies k b = true) :
    q.sendOn k = (sendMove k b (u.setHolder b (.robot k))).setRobot k (r.moving b (u.robotDeadline k)) := by
  have granted := State.grantAlong_apart settled out unheld split skipped first
  rw [State.sendOn, floor.robotZone, floor.patrol, granted]
  exact State.startMove_apart _ _ _

theorem State.sendOn_none (none : ∀ x ∈ u.patrol (u.robotZone k), u.qualifies k x ≠ true)
    (due : u.patrol (u.robotZone k) ≠ [] ∨ q.aouReady = q) :
    q.sendOn k = ((sendLeave k Option.none u).setRobot k { r with state := .parked }).reevaluate (u.robotZone k) := by
  have refused := State.grantAlong_apart_none settled out none due
  rw [State.sendOn, floor.robotZone, floor.patrol, refused]
  dsimp only
  rw [State.park_apart]
  rfl

end

section

variable (calls : s.NoneFlying pcdBefore) (out : s.NoneFlying aouFirst) (leaving : (s.robot k).state = .leaving)
  (aisle : (s.robot k).aisle = some a)

include calls out leaving aisle

/-- The leave of a robot ends with its release on its way, and then its target is granted or it is sent on. -/
theorem State.takeRobotLeft_released : ∃ q : State,
    q.aouReady = (s.takeRobotRelease k a).setRobot k (s.robot k).left ∧ s.SameFloor q
      ∧ s.takeRobotLeft k = match (s.robot k).leaveTarget with
        | some b => match q.robotGrant k b with
          | (true, t) => t.startMove k b
          | (false, t) => t.sendOn k
        | none => q.sendOn k := by
  have gone : (s.modRobot k fun r => { r with deadline := none, leaveTarget := none }).giveUpAisle k =
      (s.setRobot k (s.robot k).left).emit (.robotRelease k a) := by
    rw [State.modRobot, State.giveUpAisle_some (by rw [State.robot_setRobot]; exact aisle), State.setRobot_setRobot,
      State.robot_setRobot]
    rfl
  refine ⟨(s.setRobot k (s.robot k).left).emit (.robotRelease k a), ?_, ⟨rfl, rfl, rfl, rfl, rfl, rfl, rfl⟩, ?_⟩
  · have out' : (s.setRobot k (s.robot k).left).NoneFlying aouFirst := out
    rw [State.aouReady_release out', State.takeRobotRelease_setRobot]
  · rw [State.takeRobotLeft, State.pcdReady_none calls]
    refine (if_pos leaving).trans ?_
    rw [gone]
    cases (s.robot k).leaveTarget with
    | none => rfl
    | some b =>
      dsimp only
      obtain ⟨granted, t⟩ := ((s.setRobot k (s.robot k).left).emit (.robotRelease k a)).robotGrant k b
      cases granted <;> rfl

variable (holds : ∀ x, (s.aisleRecord x).holder = .robot k ↔ x = a)

include holds

theorem State.takeRobotLeft_target (target : (s.robot k).leaveTarget = some b) (other : b ≠ a)
    (holder : (s.aisleRecord b).holder = .none) (open' : (s.aisleRecord b).reservedBy = none) :
    s.takeRobotLeft k = ((s.takeRobotRelease k a).setHolder b (.robot k)).setRobot k
      ((s.robot k).left.moving b (s.robotDeadline k)) := by
  obtain ⟨q, settled, -, taken⟩ := State.takeRobotLeft_released calls out leaving aisle
  have out' : (s.takeRobotRelease k a).NoneFlying aouFirst := out.takeRobotRelease (fun _ _ => rfl) fun _ => rfl
  have mine := (holds a).2 rfl
  have granted := State.robotGrant_apart settled out' (State.aisleOf_released holds) (b := b)
    (by rw [State.holder_released mine open', if_neg other]; exact holder) (by rw [State.reservedBy_released mine]; exact open')
  have deadline : (s.takeRobotRelease k a).robotDeadline k = s.robotDeadline k := State.SameFloor.released.robotDeadline k
  rw [taken, target]
  dsimp only
  rw [granted, ← deadline]
  exact (State.modRobot_setRobot (s := (s.takeRobotRelease k a).setHolder b (.robot k)) _ _)

variable (refused : ∀ x, (s.robot k).leaveTarget = some x →
  (s.aisleRecord x).reservedBy ≠ none ∨ (x ≠ a ∧ (s.aisleRecord x).holder ≠ .none))

include refused

/-- A robot with no target, or with one that is refused, is sent on. -/
theorem State.takeRobotLeft_refused : ∃ q : State,
    q.aouReady = (s.takeRobotRelease k a).setRobot k (s.robot k).left ∧ s.SameFloor q
      ∧ ((s.robot k).leaveTarget ≠ none → q.aouReady = q) ∧ s.takeRobotLeft k = q.sendOn k := by
  obtain ⟨q, settled, floor, taken⟩ := State.takeRobotLeft_released calls out leaving aisle
  have out' : (s.takeRobotRelease k a).NoneFlying aouFirst := out.takeRobotRelease (fun _ _ => rfl) fun _ => rfl
  cases target : (s.robot k).leaveTarget with
  | none =>
    rw [target] at taken
    exact ⟨q, settled, floor, fun h => absurd rfl h, taken⟩
  | some x =>
    have mine := (holds a).2 rfl
    have away : ¬(((s.takeRobotRelease k a).aisleRecord x).holder = .none
        ∧ ((s.takeRobotRelease k a).aisleRecord x).reservedBy = none) := by
      rintro ⟨holder, open'⟩
      rw [State.reservedBy_released mine] at open'
      rw [State.holder_released mine open'] at holder
      obtain reserved | ⟨other, held⟩ := refused x target
      · exact reserved open'
      · rw [if_neg other] at holder
        exact held holder
    have grant := State.robotGrant_apart_refused settled out' (State.aisleOf_released holds) away
    rw [target] at taken
    dsimp only at taken
    rw [grant] at taken
    have ready : ((s.takeRobotRelease k a).setRobot k (s.robot k).left).aouReady =
        (s.takeRobotRelease k a).setRobot k (s.robot k).left := State.aouReady_none out'
    exact ⟨_, ready, State.SameFloor.released.trans ⟨rfl, rfl, rfl, rfl, rfl, rfl, rfl⟩, fun _ => ready, taken⟩

theorem State.takeRobotLeft_first (split : s.patrol (s.robotZone k) = before ++ b :: after)
    (skipped : ∀ x ∈ before, (s.takeRobotRelease k a).qualifies k x ≠ true)
    (first : (s.takeRobotRelease k a).qualifies k b = true) :
    s.takeRobotLeft k = (sendMove k b ((s.takeRobotRelease k a).setHolder b (.robot k))).setRobot k
      ((s.robot k).left.moving b (s.robotDeadline k)) := by
  obtain ⟨q, settled, floor, -, taken⟩ := State.takeRobotLeft_refused calls out leaving aisle holds refused
  have freed : s.SameFloor (s.takeRobotRelease k a) := .released
  have out' : (s.takeRobotRelease k a).NoneFlying aouFirst := out.takeRobotRelease (fun _ _ => rfl) fun _ => rfl
  rw [← freed.robotZone, ← freed.patrol] at split
  rw [taken, State.sendOn_first settled out' (freed.symm.trans floor) (State.aisleOf_released holds) split skipped first,
    freed.robotDeadline]

theorem State.takeRobotLeft_none (none : ∀ x ∈ s.patrol (s.robotZone k), (s.takeRobotRelease k a).qualifies k x ≠ true)
    (due : s.patrol (s.robotZone k) ≠ [] ∨ (s.robot k).leaveTarget ≠ Option.none) :
    s.takeRobotLeft k = ((sendLeave k Option.none (s.takeRobotRelease k a)).setRobot k
      { (s.robot k).left with state := .parked }).reevaluate (s.robotZone k) := by
  obtain ⟨q, settled, floor, given, taken⟩ := State.takeRobotLeft_refused calls out leaving aisle holds refused
  have freed : s.SameFloor (s.takeRobotRelease k a) := .released
  have out' : (s.takeRobotRelease k a).NoneFlying aouFirst := out.takeRobotRelease (fun _ _ => rfl) fun _ => rfl
  rw [← freed.robotZone, ← freed.patrol] at none due
  rw [taken, State.sendOn_none settled out' (freed.symm.trans floor) none (due.imp_right given), freed.robotZone]

end

/-- Of the aisles that can be granted behind a release: the released one, and those without holder. -/
theorem State.qualifies_released (holds : (s.aisleRecord a).holder = .robot k) :
    (s.takeRobotRelease k a).qualifies k b = true ↔ (b = a ∨ (s.aisleRecord b).holder = .none)
      ∧ (s.aisleRecord b).reservedBy = none ∧ s.candidates (s.robotZone k) b ≠ [] := by
  have reserved := State.reservedBy_released holds (b := b)
  have floor : s.SameFloor (s.takeRobotRelease k a) := .released
  rw [State.qualifies_iff, floor.robotZone, floor.candidates _ reserved, reserved]
  by_cases open' : (s.aisleRecord b).reservedBy = none
  · rw [State.holder_released holds open']
    by_cases same : b = a <;> simp [same]
  · simp [open']

end Sys2Proof.Machine
end

section
/-! Recalls and leaves, as the rows of the command table take them (R101, R102). -/

namespace Sys2Proof.Machine

/-- What a release makes of the state that a report has been copied in. -/
theorem State.released_copyReport {s : State} {c : Instr} {k : RobotId} {a : AisleId}
    (holds : (s.aisleRecord a).holder = .robot k) :
    (match (s.aisleRecord a).reservedBy with
      | none => { ((s.copyReport c).setHolder a .none) with inFlight := s.inFlight ++ [.freeAisleNotice a] }
      | some d => ((s.copyReport c).setHolder a .none).holdStep d) = (s.copyReport c).takeRobotRelease k a := by
  have record := State.aisleRecord_copyReport (s := s) c a
  cases reserved : (s.aisleRecord a).reservedBy with
  | none =>
    rw [State.takeRobotRelease_free (by rw [record, holds]) (by rw [record, reserved]), ← State.copyReport_inFlight s c]
    rfl
  | some d => rw [State.takeRobotRelease_reserved (by rw [record, holds]) (by rw [record, reserved])]

/-- Settles O28: a recall by the state of the robot and the target of its leave; ROBOT-LEFT by the target that is granted or
refused, the release being taken before any grant. -/
theorem recallAndLeave : Obligations.RecallAndLeave := by
  unfold Obligations.RecallAndLeave
  refine ⟨?_, ?_, ?_, ?_, ?_⟩
  · intro k a s c r s1 away next sound out
    have out1 : s1.NoneFlying aouFirst := out.drop c
    have target : s1.leaveTarget k a = none := State.leaveTarget_noBroken (sound.of_smu rfl)
    refine ⟨fun idle => ?_, fun x piecing assigned => ?_, fun other => ?_⟩
    · rw [exec_robotRecall next, State.recall_leaves (s := s.drop c) idle, State.leave_chosen out1 target]
      rfl
    · have withdrawn : r.withdrawn = if x.satisfied = true then [] else [.withdrawRequest x.frame x.side x.index] := by
        rw [Robot.withdrawn, assigned]
      rw [exec_robotRecall next, State.recall_working out1 target piecing, ← withdrawn]
      rfl
    · rw [exec_robotRecall next, State.recall_away (s := s1) other]
  · intro node seq a s c k r _ left taken quiet
    obtain ⟨s1, copied⟩ : ∃ s1, s1 = s.copyReport c := ⟨_, rfl⟩
    have floor : s.SameFloor s1 := by rw [copied]; exact .copyReport c
    have records (x : AisleId) : s1.aisleRecord x = s.aisleRecord x := by rw [copied, State.aisleRecord_copyReport]
    have robot : s1.robot k = r := by rw [copied]; exact State.robot_copyReport c k
    obtain ⟨sound, out, calls⟩ : s1.Quiet := by rw [copied]; exact quiet.copyReport c
    rw [exec_robotLeft taken, ← copied]
    refine ⟨fun h => ?_, fun leaving aisle holds => ?_⟩
    · rw [State.takeRobotLeft_stale calls (by rw [robot]; exact h), copied]
      rfl
    · have holds1 : ∀ x, (s1.aisleRecord x).holder = .robot k ↔ x = a := by simpa only [records] using holds
      have released : left = s1.takeRobotRelease k a := by rw [copied]; exact State.released_copyReport ((holds a).2 rfl)
      have sound' : (s1.takeRobotRelease k a).NoBroken := sound.of_smu State.SameFloor.released.smu
      have out' : (s1.takeRobotRelease k a).NoneFlying aouFirst := out.takeRobotRelease (fun _ _ => rfl) fun _ => rfl
      rw [← robot] at leaving aisle
      rw [released, ← robot]
      refine ⟨fun target patrol => ?_, fun b target other holder open' => ?_⟩
      · rw [State.takeRobotLeft_none calls out leaving aisle holds1 (fun x hx => by rw [target] at hx; cases hx)
          (fun x _ => by simp [State.qualifies_noBroken sound'])
          (.inl (by rw [floor.robotZone, floor.patrol]; exact patrol))]
        refine congrArg Host.Outcome.next (State.reevaluate_noBroken (sound'.of_smu ?_) ?_ _)
        · exact State.sendFloor_smu _ _ _ _
        · exact out'.sendFloor _ _ _
      · rw [State.takeRobotLeft_target calls out leaving aisle holds1 target other (by rw [records]; exact holder)
          (by rw [records]; exact open'), floor.robotDeadline]
        rfl
  · intro k a b run before after s c r patrol ok next out cyclic split skipped first away
    have out1 : (s.drop c).NoneFlying aouFirst := out.drop c
    have qualifies (x : AisleId) : ok x ↔ (s.drop c).qualifies k x = true := State.qualifies_iff.symm
    have target : (s.drop c).leaveTarget k a = some b := State.leaveTarget_first (cycleAfter_eq cyclic) split
      (fun x hx h => skipped x hx ((qualifies x).2 h)) ((qualifies b).1 first)
    refine ⟨fun idle => ?_, fun x piecing assigned => ?_⟩
    · rw [exec_robotRecall next, State.recall_leaves (s := s.drop c) idle, State.leave_chosen out1 target]
      rfl
    · have withdrawn : r.withdrawn = if x.satisfied = true then [] else [.withdrawRequest x.frame x.side x.index] := by
        rw [Robot.withdrawn, assigned]
      rw [exec_robotRecall next, State.recall_working out1 target piecing, ← withdrawn]
      rfl
  · intro node seq a s c k r patrol ok left taken calls out leaving aisle holds refused
    obtain ⟨s1, copied⟩ : ∃ s1, s1 = s.copyReport c := ⟨_, rfl⟩
    have floor : s.SameFloor s1 := by rw [copied]; exact .copyReport c
    have records (x : AisleId) : s1.aisleRecord x = s.aisleRecord x := by rw [copied, State.aisleRecord_copyReport]
    have robot : s1.robot k = r := by rw [copied]; exact State.robot_copyReport c k
    have calls1 : s1.NoneFlying pcdBefore := by rw [copied]; exact calls.copyReport c
    have out1 : s1.NoneFlying aouFirst := by rw [copied]; exact out.copyReport c
    have holds1 : ∀ x, (s1.aisleRecord x).holder = .robot k ↔ x = a := by simpa [records] using holds
    have refused1 : ∀ x, (s1.robot k).leaveTarget = some x →
        (s1.aisleRecord x).reservedBy ≠ none ∨ (x ≠ a ∧ (s1.aisleRecord x).holder ≠ .none) := by
      simpa only [records, robot] using refused
    have released : left = s1.takeRobotRelease k a := by rw [copied]; exact State.released_copyReport ((holds a).2 rfl)
    have qualifies (x : AisleId) : ok x ↔ (s1.takeRobotRelease k a).qualifies k x = true := by
      rw [State.qualifies_released ((holds1 a).2 rfl), records, floor.robotZone,
        floor.candidates _ (congrArg Aisle.reservedBy (records x))]
    have patrols : s1.patrol (s1.robotZone k) = patrol := by rw [floor.robotZone, floor.patrol]
    rw [exec_robotLeft taken, ← copied, released]
    rw [← robot] at leaving aisle
    refine ⟨fun before b after split skipped first => ?_, fun none due => ?_⟩
    · rw [State.takeRobotLeft_first calls1 out1 leaving aisle holds1 refused1 (patrols.trans split)
        (fun x hx h => skipped x hx ((qualifies x).2 h)) ((qualifies b).1 first), robot, floor.robotDeadline]
      rfl
    · rw [State.takeRobotLeft_none calls1 out1 leaving aisle holds1 refused1
        (fun x hx h => none x (patrols ▸ hx) ((qualifies x).2 h)) (by rw [patrols, robot]; exact due), robot, floor.robotZone]
      rfl
  · intro d s free
    refine ⟨fun h => State.holdStep_waits ?_, fun f a empty reserved claims => ?_⟩
    · obtain held | none := h
      · simp only [free, not_forall] at held
        obtain ⟨a, reserved, held⟩ := held
        exact .inl ⟨a, reserved, held⟩
      · exact .inr none
    · have notices : s.heldNotices d = [.aislesHeldNotice d f] := by rw [State.heldNotices, claims]
      refine ⟨_, rfl, fun b => ?_, ?_⟩
      · rw [State.holdStep_holds reserved empty]
        refine State.aisleRecord_setHolders.trans (ite_congr (propext State.mem_reservedFor) (fun mine => ?_) fun _ => rfl)
        rw [← mine]
      · rw [State.holdStep_holds reserved empty, notices, State.setHolders_aside]
        rfl

end Sys2Proof.Machine
end

section
/-! ROBOT-POS and ROBOT-READY (R85, R87 to R89). -/

namespace Sys2Proof.Machine

variable {s u q : State} {k : RobotId} {a b : AisleId} {p : Nat} {r : Robot} {run before after : List AisleId}

/-! ### ROBOT-POS (R89) -/

theorem exec_robotPos {node seq aisle position : Nat} (taken : s.Takes (.robotPos node seq aisle position)) :
    exec (.robotPos node seq aisle position) s = .next
      ((s.copyReport (.robotPos node seq aisle position)).takeRobotPos (robotAt node) (Fin.ofNat 64 aisle) position) :=
  congrArg Host.Outcome.next (State.report_accepted taken)

section

variable (calls : s.NoneFlying pcdBefore)

include calls

theorem State.takeRobotPos_arrived (moving : (s.robot k).state = .moving) (aisle : (s.robot k).aisle = some a) :
    s.takeRobotPos k a p =
      (s.setRobot k { s.robot k with state := .idle, position := p, deadline := none }).reevaluate (s.robotZone k) := by
  rw [State.takeRobotPos, State.pcdReadyRobot_none calls]
  refine (if_pos aisle).trans ?_
  rw [moving]
  rfl

theorem State.takeRobotPos_there (state : (s.robot k).state = .idle ∨ (s.robot k).state = .piecing)
    (aisle : (s.robot k).aisle = some a) : s.takeRobotPos k a p = s.setRobot k { s.robot k with position := p } := by
  rw [State.takeRobotPos, State.pcdReadyRobot_none calls]
  refine (if_pos aisle).trans ?_
  obtain state | state := state <;> rw [state] <;> rfl

theorem State.takeRobotPos_stale (h : (s.robot k).aisle ≠ some a ∨ (s.robot k).state = .offline ∨ (s.robot k).state = .parked
    ∨ (s.robot k).state = .leaving ∨ (s.robot k).state = .unresponsive) : s.takeRobotPos k a p = s.countStale := by
  rw [State.takeRobotPos, State.pcdReadyRobot_none calls]
  by_cases aisle : (s.robot k).aisle = some a
  · refine (if_pos aisle).trans ?_
    obtain state | state | state | state := h.resolve_left (not_not_intro aisle) <;> rw [state]
  · exact if_neg aisle

end

/-! ### A robot that is ready (R87) -/

theorem exec_robotReady {node seq aisle position : Nat} (taken : s.Takes (.robotReady node seq aisle position)) :
    exec (.robotReady node seq aisle position) s = .next
      ((s.copyReport (.robotReady node seq aisle position)).takeRobotReady (robotAt node) (Fin.ofNat 64 aisle) position) :=
  congrArg Host.Outcome.next (State.report_accepted taken)

/-- A robot that is ready at a position. -/
def Robot.standing (r : Robot) (p : Nat) : Robot := { r with position := p, sweep := .up }

/-- A robot that is ready is sent to the first aisle of a run that can be granted, or parked (R83, R87). -/
def State.sendFrom (k : RobotId) (run : List AisleId) (q : State) : State :=
  match q.grantAlong k run with
  | (some b, s) => (sendLeave k (some b) s).startMove k b
  | (none, s) => ((sendLeave k none s).modRobot k fun r => { r with state := .parked }).reevaluate (s.robotZone k)

section

variable {t : State} (ready : s.setRobot k ((s.robot k).standing p) = q)

include ready

theorem State.robotIsReady_of_grant (listed : a ∈ q.patrol (q.robotZone k)) (granted : q.robotGrant k a = (true, t)) :
    s.robotIsReady k a p =
      (t.setRobot k { t.robot k with state := .idle, aisle := some a }).reevaluate (t.robotZone k) := by
  have contains : (q.patrol (q.robotZone k)).contains a = true := List.contains_iff_mem.2 listed
  subst ready
  unfold Robot.standing at granted contains
  unfold State.robotIsReady State.modRobot
  dsimp only
  rw [if_pos contains, granted]

theorem State.robotIsReady_of_refusal (refused : a ∉ q.patrol (q.robotZone k) ∧ t = q
      ∨ a ∈ q.patrol (q.robotZone k) ∧ q.robotGrant k a = (false, t)) :
    s.robotIsReady k a p = t.sendFrom k (cycleAfter (q.patrol (q.robotZone k)) (some a)) := by
  have answer : (if (q.patrol (q.robotZone k)).contains a = true then q.robotGrant k a else (false, q)) = (false, t) := by
    obtain ⟨absent, rfl⟩ | ⟨listed, refused⟩ := refused
    · exact if_neg fun h => absent (List.contains_iff_mem.1 h)
    · rw [if_pos (List.contains_iff_mem.2 listed), refused]
  subst ready
  unfold Robot.standing at answer
  unfold State.robotIsReady State.modRobot
  dsimp only
  rw [answer]
  rfl

end

section

variable (settled : q.aouReady = u.setRobot k r) (out : u.NoneFlying aouFirst)

include settled out

theorem State.sendFrom_first (unheld : u.aisleOf k = none) (split : run = before ++ b :: after)
    (skipped : ∀ x ∈ before, u.qualifies k x ≠ true) (first : u.qualifies k b = true) :
    q.sendFrom k run = (sendLeave k (some b) (u.setHolder b (.robot k))).setRobot k (r.moving b (u.robotDeadline k)) := by
  have granted := State.grantAlong_apart settled out unheld split skipped first
  rw [State.sendFrom, granted]
  exact State.startMove_apart _ _ _

theorem State.sendFrom_none (none : ∀ x ∈ run, u.qualifies k x ≠ true) (due : run ≠ [] ∨ q.aouReady = q) :
    q.sendFrom k run = ((sendLeave k Option.none u).setRobot k { r with state := .parked }).reevaluate (u.robotZone k) := by
  have refused := State.grantAlong_apart_none settled out none due
  rw [State.sendFrom, refused]
  dsimp only
  rw [State.park_apart]
  rfl

variable (unheld : u.aisleOf k = none) (floor : u.SameFloor q)

include unheld floor

theorem State.robotIsReady_granted (listed : a ∈ u.patrol (u.robotZone k)) (holder : (u.aisleRecord a).holder = .none)
    (open' : (u.aisleRecord a).reservedBy = none) :
    q.robotIsReady k a p = ((u.setHolder a (.robot k)).setRobot k
      { r.standing p with state := .idle, aisle := some a }).reevaluate (u.robotZone k) := by
  have robot : q.robot k = r := by rw [← State.keeps_aouReady.robot k, settled, State.robot_setRobot]
  have standing : (q.setRobot k (r.standing p)).aouReady = u.setRobot k (r.standing p) := by
    rw [State.aouReady_setRobot, settled, State.setRobot_setRobot]
  have granted := State.robotGrant_apart standing out unheld holder open'
  rw [← floor.robotZone, ← floor.patrol] at listed
  rw [State.robotIsReady_of_grant (q := q.setRobot k (r.standing p)) (by rw [robot]) listed granted, State.robot_setRobot,
    State.setRobot_setRobot]
  rfl

/-- A robot that is not granted the aisle it stands in is sent to another of its list, or parked. -/
theorem State.robotIsReady_refused (refused : a ∉ u.patrol (u.robotZone k)
      ∨ ¬((u.aisleRecord a).holder = .none ∧ (u.aisleRecord a).reservedBy = none)) :
    ∃ t : State, t.aouReady = u.setRobot k (r.standing p)
      ∧ (a ∈ u.patrol (u.robotZone k) ∨ q.aouReady = q → t.aouReady = t)
      ∧ q.robotIsReady k a p = t.sendFrom k (cycleAfter (u.patrol (u.robotZone k)) (some a)) := by
  have robot : q.robot k = r := by rw [← State.keeps_aouReady.robot k, settled, State.robot_setRobot]
  have standing : (q.setRobot k (r.standing p)).aouReady = u.setRobot k (r.standing p) := by
    rw [State.aouReady_setRobot, settled, State.setRobot_setRobot]
  have list : (q.setRobot k (r.standing p)).patrol ((q.setRobot k (r.standing p)).robotZone k) =
      u.patrol (u.robotZone k) := by
    rw [← floor.robotZone, ← floor.patrol]
    rfl
  by_cases listed : a ∈ u.patrol (u.robotZone k)
  · have grant := State.robotGrant_apart_refused standing out unheld (refused.resolve_left (not_not_intro listed))
    have ready : (u.setRobot k (r.standing p)).aouReady = u.setRobot k (r.standing p) := State.aouReady_none out
    refine ⟨_, ready, fun _ => ready, ?_⟩
    rw [State.robotIsReady_of_refusal (q := q.setRobot k (r.standing p)) (by rw [robot]) (.inr ⟨list ▸ listed, grant⟩), list]
  · refine ⟨_, standing, fun due => ?_, ?_⟩
    · rw [State.aouReady_setRobot, due.resolve_left listed]
    · rw [State.robotIsReady_of_refusal (q := q.setRobot k (r.standing p)) (by rw [robot]) (.inl ⟨list ▸ listed, rfl⟩), list]

end

theorem State.setRobot_self : s.setRobot k (s.robot k) = s := by rw [State.setRobot, State.robot, Tab.set_self]

/-! ### A robot that has restarted (R88) -/

/-- A robot that has restarted: its assignment, its leave target, its deadline and its aisle are dropped. -/
def Robot.restarted (r : Robot) : Robot := { r with assignment := none, leaveTarget := none, deadline := none, aisle := none }

/-- An unsatisfied assignment of a robot that has restarted is withdrawn, and its aisle released. -/
def State.restarted (k : RobotId) (s : State) : State :=
  match (s.robot k).aisle with
  | some a => (s.emitAll (s.robot k).withdrawn).takeRobotRelease k a
  | none => s.emitAll (s.robot k).withdrawn

theorem State.restarted_there (aisle : (s.robot k).aisle = some a) :
    s.restarted k = (s.emitAll (s.robot k).withdrawn).takeRobotRelease k a := by rw [State.restarted, aisle]

theorem State.restarted_nowhere (aisle : (s.robot k).aisle = none) : s.restarted k = s.emitAll (s.robot k).withdrawn := by
  rw [State.restarted, aisle]

theorem State.takeRobotReady_away (calls : s.NoneFlying pcdBefore)
    (away : (s.robot k).state = .offline ∨ (s.robot k).state = .unresponsive) :
    s.takeRobotReady k a p = s.robotIsReady k a p := by
  rw [State.takeRobotReady, State.pcdReadyRobot_none calls]
  obtain away | away := away <;> rw [away]

theorem Robot.withdrawn_aou : ∀ c ∈ r.withdrawn, aouFirst c = false := by
  intro c hc
  obtain ⟨f, side, i, rfl⟩ := Robot.mem_withdrawn hc
  rfl

theorem State.SameFloor.restarted : s.SameFloor (s.restarted k) := by
  have told : s.SameFloor (s.emitAll (s.robot k).withdrawn) := ⟨rfl, rfl, rfl, rfl, rfl, rfl, rfl⟩
  unfold State.restarted
  split
  · exact told.trans .released
  · exact told

section

variable (out : s.NoneFlying aouFirst)

include out

theorem State.NoneFlying.restarted : (s.restarted k).NoneFlying aouFirst := by
  have told : (s.emitAll (s.robot k).withdrawn).NoneFlying aouFirst := out.append rfl Robot.withdrawn_aou
  unfold State.restarted
  split
  · exact told.takeRobotRelease (fun _ _ => rfl) fun _ => rfl
  · exact told

omit out in
theorem State.aisleOf_restarted (holds : ∀ x, (s.aisleRecord x).holder = .robot k ↔ (s.robot k).aisle = some x) :
    (s.restarted k).aisleOf k = none := by
  cases aisle : (s.robot k).aisle with
  | some b =>
    rw [State.restarted_there aisle]
    refine State.aisleOf_released fun x => (holds x).trans ?_
    rw [aisle, Option.some_inj, eq_comm]
  | none =>
    rw [State.restarted_nowhere aisle]
    refine State.aisleOf_eq_none.2 fun x hx => ?_
    rw [(holds x).1 hx] at aisle
    cases aisle

theorem State.takeRobotReady_restarted (calls : s.NoneFlying pcdBefore)
    (state : (s.robot k).state = .parked ∨ (s.robot k).state = .moving ∨ (s.robot k).state = .idle
      ∨ (s.robot k).state = .piecing ∨ (s.robot k).state = .leaving) :
    ∃ q : State, q.aouReady = (s.restarted k).setRobot k (s.robot k).restarted ∧ s.SameFloor q
      ∧ ((s.robot k).aisle = none → q.aouReady = q) ∧ s.takeRobotReady k a p = q.robotIsReady k a p := by
  obtain ⟨told, told_eq⟩ : ∃ u, u = s.emitAll (s.robot k).withdrawn := ⟨_, rfl⟩
  obtain ⟨freed, freed_eq⟩ : ∃ r : Robot, r = { s.robot k with assignment := none, leaveTarget := none, deadline := none } :=
    ⟨_, rfl⟩
  have out' : told.NoneFlying aouFirst := by
    rw [told_eq]
    exact out.append rfl Robot.withdrawn_aou
  have floor : s.SameFloor told := by
    rw [told_eq]
    exact ⟨rfl, rfl, rfl, rfl, rfl, rfl, rfl⟩
  have withdrawn : (s.withdraw k).modRobot k
      (fun r => { r with assignment := none, leaveTarget := none, deadline := none }) = told.setRobot k freed := by
    rw [State.withdraw_eq, told_eq, freed_eq]
    rfl
  have taken : s.takeRobotReady k a p = ((told.setRobot k freed).giveUpAisle k).robotIsReady k a p := by
    rw [State.takeRobotReady, State.pcdReadyRobot_none calls, ← withdrawn]
    obtain state | state | state | state | state := state <;> rw [state]
  cases aisle : (s.robot k).aisle with
  | some b =>
    have there : freed.aisle = some b := by rw [freed_eq, ← aisle]
    rw [State.giveUpAisle_some (by rw [State.robot_setRobot, there]), State.robot_setRobot, State.setRobot_setRobot] at taken
    refine ⟨(told.setRobot k { freed with aisle := none }).emit (.robotRelease k b), ?_,
      floor.trans ⟨rfl, rfl, rfl, rfl, rfl, rfl, rfl⟩, nofun, taken⟩
    have out'' : (told.setRobot k { freed with aisle := none }).NoneFlying aouFirst := out'
    rw [State.aouReady_release out'', State.takeRobotRelease_setRobot, State.restarted_there aisle, freed_eq, ← told_eq]
    rfl
  | none =>
    have nowhere : freed = (s.robot k).restarted := by
      rw [freed_eq, Robot.restarted, ← aisle]
    rw [State.giveUpAisle_none (by rw [State.robot_setRobot, nowhere]; rfl), nowhere] at taken
    have ready : (told.setRobot k (s.robot k).restarted).aouReady = told.setRobot k (s.robot k).restarted :=
      State.aouReady_none out'
    rw [State.restarted_nowhere aisle, ← told_eq]
    exact ⟨_, ready, floor.trans ⟨rfl, rfl, rfl, rfl, rfl, rfl, rfl⟩, fun _ => ready, taken⟩

end

/-- Settles O26: ROBOT-POS by the state of the robot; ROBOT-READY of a robot that held no aisle, and of one that has restarted,
whose release is taken before any grant. -/
theorem robotReadyAndPosition : Obligations.RobotReadyAndPosition := by
  unfold Obligations.RobotReadyAndPosition
  refine ⟨?_, ?_, fun z s sound out => State.reevaluate_noBroken sound out z⟩
  · intro node seq aisle position s c k r a s1 taken calls
    have calls1 : s1.NoneFlying pcdBefore := calls.copyReport c
    have robot : s1.robot k = r := State.robot_copyReport c k
    have zone : s1.robotZone k = s.robotZone k := State.robotZone_copyReport c k
    rw [exec_robotPos taken]
    refine ⟨fun moving there => ?_, fun state there => ?_, fun stale => ?_⟩
    · rw [State.takeRobotPos_arrived calls1 (by rw [robot, moving]) (by rw [robot, there]), robot, zone]
    · rw [State.takeRobotPos_there calls1 (by rw [robot]; exact state) (by rw [robot, there]), robot]
    · rw [State.takeRobotPos_stale calls1 (by rw [robot]; exact stale)]
      rfl
  · intro node seq aisle position s c k z r a patrol ready told left taken calls out
    obtain ⟨s1, copied⟩ : ∃ s1, s1 = s.copyReport c := ⟨_, rfl⟩
    have floor : s.SameFloor s1 := by rw [copied]; exact .copyReport c
    have records (x : AisleId) : s1.aisleRecord x = s.aisleRecord x := by rw [copied, State.aisleRecord_copyReport]
    have robot : s1.robot k = r := by rw [copied]; exact State.robot_copyReport c k
    have calls1 : s1.NoneFlying pcdBefore := by rw [copied]; exact calls.copyReport c
    have out1 : s1.NoneFlying aouFirst := by rw [copied]; exact out.copyReport c
    have runs : exec c s = .next (s1.takeRobotReady k a position) := by rw [copied]; exact exec_robotReady taken
    have answer {rec : Robot} {u q : State} (settled : q.aouReady = u.setRobot k rec) (out : u.NoneFlying aouFirst)
        (unheld : u.aisleOf k = none) (from' : s.SameFloor u) (to' : s.SameFloor q) (due : patrol ≠ [] ∨ q.aouReady = q)
        (takes : s1.takeRobotReady k a position = q.robotIsReady k a position) : ready rec u := by
      have patrols : u.patrol (u.robotZone k) = patrol := by rw [from'.robotZone, from'.patrol]
      have qualifies (x : AisleId) : ((u.aisleRecord x).holder = .none ∧ (u.aisleRecord x).reservedBy = none)
          ∧ u.candidates z x ≠ [] ↔ u.qualifies k x = true := by
        rw [State.qualifies_iff, from'.robotZone, and_assoc]
      rw [takes] at runs
      refine ⟨fun listed free => ?_, fun run refused cyclic => ?_⟩
      · rw [runs, State.robotIsReady_granted settled out unheld (from'.symm.trans to') (patrols ▸ listed) free.1 free.2,
          from'.robotZone]
        rfl
      · obtain ⟨t, standing, given, sends⟩ := State.robotIsReady_refused settled out unheld (from'.symm.trans to')
          (p := position) (a := a) (by rw [patrols]; exact refused)
        rw [patrols] at given
        rw [patrols, cycleAfter_eq cyclic] at sends
        refine ⟨fun before b after split skipped first => ?_, fun none => ?_⟩
        · rw [runs, sends, State.sendFrom_first standing out unheld split
            (fun x hx h => skipped x hx ((qualifies x).2 h)) ((qualifies b).1 first), from'.robotDeadline]
          rfl
        · have due' : run ≠ [] ∨ t.aouReady = t := by
            obtain ⟨-, whole⟩ | ⟨p1, p2, list, -, -⟩ := cyclic
            · rw [whole]
              exact due.imp_right fun h => given (.inr h)
            · exact .inr (given (.inl (by simp [list])))
          rw [runs, sends, State.sendFrom_none standing out (fun x hx h => none x hx ((qualifies x).2 h)) due', from'.robotZone]
          rfl
    refine ⟨fun away unheld => ?_, fun state holds due => ?_⟩
    · rw [← copied]
      have ready1 : s1.aouReady = s1.setRobot k r := by
        rw [State.aouReady_none out1, ← robot, State.setRobot_self]
      exact answer ready1 out1 (State.aisleOf_eq_none.2 fun x => by rw [records]; exact unheld x) floor floor
        (.inr (State.aouReady_none out1)) (State.takeRobotReady_away calls1 (by rw [robot]; exact away))
    · have holds1 : ∀ x, (s1.aisleRecord x).holder = .robot k ↔ (s1.robot k).aisle = some x := by
        simpa only [records, robot] using holds
      obtain ⟨q, settled, to', given, takes⟩ := State.takeRobotReady_restarted out1 calls1 (p := position) (a := a)
        (by rw [robot]; exact state)
      have told_eq : told = s1.emitAll r.withdrawn := by
        rw [copied]
        rfl
      have left_eq : left = s1.restarted k := by
        cases there : r.aisle with
        | none =>
          rw [State.restarted_nowhere (by rw [robot, there]), robot, ← told_eq]
          simp only [left, there]
        | some b =>
          rw [State.restarted_there (by rw [robot, there]), robot, ← told_eq]
          have record : told.aisleRecord b = s.aisleRecord b := by
            rw [← records, told_eq]
            rfl
          have holder : (told.aisleRecord b).holder = .robot k := by
            rw [record]
            exact (holds b).2 there
          cases reserved : (s.aisleRecord b).reservedBy with
          | none =>
            rw [State.takeRobotRelease_free holder (by rw [record, reserved])]
            simp only [left, there, reserved]
          | some d =>
            rw [State.takeRobotRelease_reserved holder (by rw [record, reserved])]
            simp only [left, there, reserved]
      rw [left_eq]
      rw [robot] at settled given
      exact answer settled out1.restarted (State.aisleOf_restarted holds1) (floor.trans .restarted) (floor.trans to')
        (due.imp_right given) takes

end Sys2Proof.Machine
end

section
/-! STOPPED, "aisles held" and the start of a doff (R111, R125, R127, R128). -/

namespace Sys2Proof.Machine

variable {s : State} {f : FrameId} {d : DofferId} {r : FrameCycle} {q : Doffer}

/-! ### The start of a doff (R128) -/

theorem State.setCycle_self : s.setCycle f (s.cycle f) = s := by rw [State.setCycle, State.cycle, Tab.set_self]

/-- A frame that stands enters another such state: no cancel is due. -/
theorem State.enterFrameState_stood {st : FrameState} (stood : (s.cycle f).state.spins = false) (stands : st.spins = false) :
    s.enterFrameState f st = s.setCycle f { s.cycle f with state := st } := by
  have noCancels : s.spinCancels f = [] := if_neg fun spins => Bool.eq_false_iff.1 stood (FrameState.spins_iff.2 spins)
  rw [State.enterFrameState_stands stands, noCancels]
  exact State.inFlight_append_nil

/-- DOFF-GO is sent, and frame and doffer, whose records were `r` and `q`, are DOFFING with the doff timer set. -/
def State.doffStarted (d : DofferId) (f : FrameId) (r : FrameCycle) (q : Doffer) (s : State) : State :=
  { sendDoffGo d f s with
    dcu := { s.dcu with
      frames := s.dcu.frames.set f { r with state := .doffing }
      doffers := s.dcu.doffers.set d
        { q with state := .doffing, timer := some (s.timer + 60000 * (s.store.doffers.get d).timeout) } } }

/-- The doff of a frame that stands, its record and its doffer's written before. -/
theorem State.startDoff_written (stands : r.state.spins = false) :
    ((s.setCycle f r).setDoffer d q).startDoff d f = s.doffStarted d f r q := by
  obtain ⟨v, hv⟩ : ∃ v, v = sendDoffGo d f ((s.setCycle f r).setDoffer d q) := ⟨_, rfl⟩
  have told : v = (sendDoffGo d f s).telling ((s.setCycle f r).setDoffer d q) :=
    hv.trans (State.sendFloor_telling (s := s) ((s.setCycle f r).setDoffer d q) _ _ _)
  have cycle : v.cycle f = r := by
    rw [told]
    exact Tab.get_set_self _ _ _
  have doffer : v.doffer d = q := by
    rw [told]
    exact Tab.get_set_self _ _ _
  have timeouts : v.store.doffers = s.store.doffers := by
    rw [told]
    exact State.sendFloor_store_doffers _ _ _ _
  have entered : v.enterFrameState f .doffing = v.setCycle f { r with state := .doffing } := by
    rw [State.enterFrameState_stood (by rwa [cycle]) rfl, cycle]
  have started : ((s.setCycle f r).setDoffer d q).startDoff d f =
      (v.setCycle f { r with state := .doffing }).setDoffer d
        { q with state := .doffing, timer := some (v.timer + minutes (v.store.doffers.get d).timeout) } := by
    rw [State.startDoff, ← hv, entered, State.modDoffer, State.doffer_setCycle, doffer]
    rfl
  have spoken : sendDoffGo d f s = (sendDoffGo d f s).telling s := (State.spoken_sendFloor _ _ _).eq_telling
  rw [started, timeouts, told, State.doffStarted, spoken, ← Tab.set_set s.dcu.frames f r,
    ← Tab.set_set s.dcu.doffers d q]
  rfl

/-! ### STOPPED (R125) -/

/-- A frame whose stop is confirmed: its stop timer is gone, and it waits for its doffer. -/
def FrameCycle.stopped (r : FrameCycle) : FrameCycle := { r with state := .doffWait, stopTimer := none }

theorem State.enterDoffWait (stopping : s.frameState f = .stopping) :
    (s.modCycle f fun r => { r with stopTimer := none }).enterFrameState f .doffWait =
      s.setCycle f (s.cycle f).stopped := by
  have cycle : (s.modCycle f fun r => { r with stopTimer := none }).cycle f = { s.cycle f with stopTimer := none } :=
    State.cycle_setCycle _ _ _
  have stood : { s.cycle f with stopTimer := none }.state.spins = false := congrArg FrameState.spins stopping
  rw [State.enterFrameState_stood (by rw [cycle, stood]) rfl, cycle, State.modCycle, State.setCycle_setCycle]
  rfl

section

variable (ready : s.dcuReady f = s)

include ready

theorem State.takeStopped_other (other : s.frameState f ≠ .stopping) : s.takeStopped f = s.bump .stoppedFrame := by
  rw [State.takeStopped, ready]
  exact if_neg other

/-- A frame whose doffer does not hold its aisles yet, or that has none, waits. -/
theorem State.takeStopped_waits (stopping : s.frameState f = .stopping)
    (waits : ∀ d, (s.cycle f).claim = some d → (s.doffer d).held = false) :
    s.takeStopped f = s.setCycle f (s.cycle f).stopped := by
  rw [State.takeStopped, ready, if_pos stopping, State.enterDoffWait stopping]
  dsimp only
  split
  · next d claimed =>
    rw [State.cycle_setCycle] at claimed
    exact if_neg (by simp [waits d claimed])
  · rfl

theorem State.takeStopped_starts (stopping : s.frameState f = .stopping) (claimed : (s.cycle f).claim = some d)
    (held : (s.doffer d).held = true) : s.takeStopped f = s.doffStarted d f (s.cycle f).stopped (s.doffer d) := by
  have claim : (s.cycle f).stopped.claim = some d := claimed
  have written : s.setCycle f (s.cycle f).stopped = (s.setCycle f (s.cycle f).stopped).setDoffer d (s.doffer d) :=
    (State.setDoffer_self (s := s.setCycle f (s.cycle f).stopped)).symm
  rw [State.takeStopped, ready, if_pos stopping, State.enterDoffWait stopping]
  dsimp only
  rw [State.cycle_setCycle, claim]
  refine (if_pos held).trans ?_
  rw [written]
  exact State.startDoff_written rfl

/-! ### The notice "aisles held" (R127) -/

theorem State.takeHeldNotice_former
    (former : (s.doffer d).state ≠ .claiming ∨ (s.doffer d).frame ≠ some f ∨ .dofferReservation d f ∈ s.inFlight) :
    s.takeHeldNotice d f = s := by
  rw [State.takeHeldNotice, ready]
  refine if_neg fun ⟨claiming, frame, out⟩ => ?_
  obtain other | other | asked := former
  · exact other claiming
  · exact other frame
  · simp [asked] at out

theorem State.takeHeldNotice_claimed (claiming : (s.doffer d).state = .claiming) (frame : (s.doffer d).frame = some f)
    (taken : .dofferReservation d f ∉ s.inFlight) :
    s.takeHeldNotice d f =
      if s.frameState f = .doffWait then (s.setDoffer d { s.doffer d with held := true }).startDoff d f
      else s.setDoffer d { s.doffer d with held := true } := by
  rw [State.takeHeldNotice, ready, if_pos ⟨claiming, frame, by simpa using taken⟩]
  rfl

end

/-- Settles O36: both orders end in the same start of the doff, once the frame is DOFF-WAIT and its doffer has its aisles. -/
theorem doffStartsOnBoth : Obligations.DoffStartsOnBoth := by
  intro node seq d s c f n stopped at_ dau spu
  refine ⟨fun takes => ?_, fun on => ?_⟩
  · have ready : (s.copyReport c).dcuReady f = s.copyReport c :=
      State.dcuReady_none (dau.copyReport c) (spu.copyReport c)
    have taken : exec c s = .next ((s.copyReport c).takeStopped f) :=
      congrArg Host.Outcome.next (State.report_accepted takes)
    have frameState : (s.copyReport c).frameState f = s.frameState f := State.frameState_copyReport c f
    refine ⟨fun other => ?_, fun stopping unclaimed => ?_, fun stopping claimed => ⟨fun waits => ?_, fun held => ?_⟩⟩
    · rw [taken, State.takeStopped_other ready (by rwa [frameState])]
    · rw [taken, State.takeStopped_waits ready (by rwa [frameState]) (by simp [unclaimed]), State.cycle_copyReport]
      rfl
    · rw [taken, State.takeStopped_waits ready (by rwa [frameState]) (by simp [claimed, waits]), State.cycle_copyReport]
      rfl
    · have known : s.doffer d = { s.doffer d with held := true } := by rw [← held]
      rw [taken, State.takeStopped_starts ready (by rwa [frameState]) (by rwa [State.cycle_copyReport])
        (by rwa [State.doffer_copyReport]), State.cycle_copyReport, State.doffer_copyReport, known, State.doffStarted,
        State.copyReport_dcu, State.copyReport_timer, State.copyReport_store_doffers]
      rfl
  · have ready : (s.drop n).dcuReady f = s.drop n := State.dcuReady_none (dau.drop n) (spu.drop n)
    have taken : exec n s = .next ((s.drop n).takeHeldNotice d f) := congrArg Host.Outcome.next (State.handoff_on on)
    have asked : .dofferReservation d f ∈ (s.drop n).inFlight ↔ .dofferReservation d f ∈ s.inFlight :=
      List.mem_erase_of_ne nofun
    refine ⟨fun former => ?_, fun claiming frame out => ?_⟩
    · rw [taken, State.takeHeldNotice_former ready (by rwa [asked])]
    · rw [taken, State.takeHeldNotice_claimed (s := s.drop n) ready claiming frame (by rwa [asked])]
      refine ⟨fun waits => ?_, fun other => ?_⟩
      · have stands : (s.cycle f).state.spins = false := congrArg FrameState.spins waits
        have started : ((s.drop n).setDoffer d { s.doffer d with held := true }).startDoff d f = at_ (s.drop n) (s.cycle f) := by
          conv_lhs => rw [← State.setCycle_self (s := s.drop n) (f := f)]
          exact State.startDoff_written stands
        exact congrArg Host.Outcome.next ((if_pos waits).trans started)
      · exact congrArg Host.Outcome.next (if_neg other)

end Sys2Proof.Machine
end

section
/-! Reservations of aisles for doffers, claims that end, and the scan of the pending list (R108 to R113, R115). -/

namespace Sys2Proof.Machine

variable {s t : State} {k : RobotId} {a b : AisleId} {d e : DofferId} {f : FrameId} {l set : List AisleId}
  {o : Option DofferId} {p q : PendingReservation} {rest w : List PendingReservation}

/-! ### Aisles reserved or freed together, and the hold step aside (R109, R111, R112) -/

/-- Some aisles reserved for the same doffer, or for none. -/
def State.setReservations (l : List AisleId) (o : Option DofferId) (s : State) : State :=
  l.foldl (fun u a => u.setReserved a o) s

theorem State.setReservations_aside :
    s.setReservations l o = { s with aou := { s.aou with aisles := (s.setReservations l o).aou.aisles } } := by
  induction l generalizing s with
  | nil => rfl
  | cons a rest ih => exact ih (s := s.setReserved a o)

theorem State.aisleRecord_setReservations :
    (s.setReservations l o).aisleRecord b =
      if b ∈ l then { s.aisleRecord b with reservedBy := o } else s.aisleRecord b := by
  induction l generalizing s with
  | nil => exact (if_neg List.not_mem_nil).symm
  | cons a rest ih =>
    refine (ih (s := s.setReserved a o)).trans ?_
    by_cases same : a = b
    · subst same
      rw [if_pos List.mem_cons_self, State.setReserved, State.aisleRecord_setAisle, ite_self]
    · rw [State.setReserved, State.aisleRecord_setAisle_ne _ same]
      simp [Ne.symm same]

/-- Every aisle reserved for a doffer, held by it. -/
theorem State.aisleRecord_setHolders_reserved : (s.setHolders (s.reservedFor d) (.doffer d)).aisleRecord b =
    if (s.aisleRecord b).reservedBy = some d then { holder := .doffer d, reservedBy := some d } else s.aisleRecord b := by
  rw [State.aisleRecord_setHolders]
  by_cases mine : (s.aisleRecord b).reservedBy = some d
  · rw [if_pos (State.mem_reservedFor.2 mine), if_pos mine, ← mine]
  · rw [if_neg (mt State.mem_reservedFor.1 mine), if_neg mine]

theorem State.holdStep_aside :
    s.holdStep d =
      { s with aou := { s.aou with aisles := (s.holdStep d).aou.aisles }, inFlight := (s.holdStep d).inFlight } := by
  obtain same | holds := State.holdStep_cases d s
  · rw [same]
  · rw [holds, State.setHolders_aside]
    rfl

/-! ### A robot's release (R108, R111) -/

theorem exec_robotRelease (next : s.Next aouFirst (.robotRelease k a)) :
    exec (.robotRelease k a) s = .next ((s.drop (.robotRelease k a)).takeRobotRelease k a) :=
  congrArg Host.Outcome.next (State.handoffInOrder_next next)

section

variable (holds : (s.aisleRecord a).holder = .robot k) (reserved : (s.aisleRecord a).reservedBy = some d)
  (empty : ∀ b, b ≠ a → (s.aisleRecord b).reservedBy = some d → (s.aisleRecord b).holder = .none)

include holds reserved empty

/-- The last robot to leave the aisles reserved for a doffer hands them to it. -/
theorem State.takeRobotRelease_last : s.takeRobotRelease k a =
    ((s.setHolder a .none).setHolders ((s.setHolder a .none).reservedFor d) (.doffer d)).emitAll (s.heldNotices d) := by
  rw [State.takeRobotRelease_reserved holds reserved, State.holdStep_holds (State.reservedBy_setHolder.trans reserved)]
  · rfl
  · intro b mine
    rw [State.reservedBy_setHolder] at mine
    rw [State.holder_setHolder]
    split
    · rfl
    · next other => exact empty b other mine

theorem State.aisleRecord_takeRobotRelease_last : (s.takeRobotRelease k a).aisleRecord b =
    if (s.aisleRecord b).reservedBy = some d then { holder := .doffer d, reservedBy := some d } else s.aisleRecord b := by
  rw [State.takeRobotRelease_last holds reserved empty]
  refine State.aisleRecord_setHolders_reserved.trans ?_
  rw [State.reservedBy_setHolder]
  refine ite_congr rfl (fun _ => rfl) fun other => ?_
  exact State.aisleRecord_setAisle_ne _ (fun (same : a = b) => other (same ▸ reserved)) _

theorem State.takeRobotRelease_last_aside (claim : s.aou.claims.get d = some f) :
    s.takeRobotRelease k a =
      { s with
        aou := { s.aou with aisles := (s.takeRobotRelease k a).aou.aisles }
        inFlight := s.inFlight ++ [.aislesHeldNotice d f] } := by
  have notices : s.heldNotices d = [.aislesHeldNotice d f] := by rw [State.heldNotices, claim]
  rw [State.takeRobotRelease_last holds reserved empty, notices, State.setHolders_aside]
  rfl

end

/-! ### A reservation (R109, R110) -/

/-- The recall of the robot, if any, that holds an aisle. -/
def Holder.recall (a : AisleId) : Holder → Option Instr
  | .robot k => some (.robotRecall k a)
  | _ => Option.none

theorem Holder.recall_eq_some {x : Holder} {c : Instr} : x.recall a = some c ↔ ∃ k, x = .robot k ∧ c = .robotRecall k a := by
  cases x <;> simp [Holder.recall, eq_comm]

/-- The recalls of the robots that hold aisles of a set. -/
def State.recalls (s : State) (set : List AisleId) : List Instr := set.filterMap fun a => (s.aisleRecord a).holder.recall a

theorem State.mem_recalls {c : Instr} :
    c ∈ s.recalls set ↔ ∃ k, ∃ a ∈ set, (s.aisleRecord a).holder = .robot k ∧ c = .robotRecall k a := by
  simp only [State.recalls, List.mem_filterMap, Holder.recall_eq_some]
  exact ⟨fun ⟨a, mem, k, h⟩ => ⟨k, a, mem, h⟩, fun ⟨k, a, mem, h⟩ => ⟨a, mem, k, h⟩⟩

/-- Recalls are made in ascending aisle number. -/
theorem State.recalls_ascend (ascending : set.Pairwise (· < ·)) :
    (s.recalls set).Pairwise fun x y => ∀ k a k' a', x = .robotRecall k a → y = .robotRecall k' a' → a < a' := by
  refine List.pairwise_filterMap.2 (ascending.imp fun {a a'} less x hx y hy => ?_)
  obtain ⟨k, -, rfl⟩ := Holder.recall_eq_some.1 hx
  obtain ⟨k', -, rfl⟩ := Holder.recall_eq_some.1 hy
  intro j b j' b' hx hy
  cases hx
  cases hy
  exact less

theorem State.recalls_empty (empty : ∀ a ∈ set, (s.aisleRecord a).holder = .none) : s.recalls set = [] :=
  List.filterMap_eq_nil_iff.2 fun a mem => by rw [empty a mem]; rfl

/-- A set reserved for a doffer and its robots recalled, before the hold step. -/
def State.requested (d : DofferId) (f : FrameId) (set : List AisleId) (s : State) : State :=
  ((s.setReservations set (some d)).setClaimed d (some f)).emitAll (s.recalls set)

theorem State.aisleRecord_requested : (s.requested d f set).aisleRecord b =
    if b ∈ set then { s.aisleRecord b with reservedBy := some d } else s.aisleRecord b :=
  State.aisleRecord_setReservations

theorem State.requested_aside :
    s.requested d f set =
      { s with
        aou := { s.aou with
          aisles := (s.requested d f set).aou.aisles
          claims := s.aou.claims.set d (some f) }
        inFlight := s.inFlight ++ s.recalls set } := by
  unfold State.requested
  rw [State.setReservations_aside]
  rfl

theorem State.reserveSet_eq : s.reserveSet d f set = (s.requested d f set).holdStep d := by
  have holders (a : AisleId) :
      (((s.setReservations set (some d)).setClaimed d (some f)).aisleRecord a).holder = (s.aisleRecord a).holder := by
    refine (congrArg Aisle.holder State.aisleRecord_setReservations).trans ?_
    split <;> rfl
  have recalls : ((s.setReservations set (some d)).setClaimed d (some f)).recalls set = s.recalls set := by
    simp only [State.recalls, holders]
  rw [State.requested, ← recalls]
  rfl

theorem State.reserveSet_aside :
    s.reserveSet d f set =
      { s with
        aou := { s.aou with
          aisles := (s.reserveSet d f set).aou.aisles
          claims := s.aou.claims.set d (some f) }
        inFlight := (s.reserveSet d f set).inFlight } := by
  rw [State.reserveSet_eq, State.holdStep_aside, State.requested_aside]

theorem State.reserveSet_in_aou : s.reserveSet d f set =
    { s with aou := (s.reserveSet d f set).aou, inFlight := (s.reserveSet d f set).inFlight } := by
  rw [State.reserveSet_aside]

section

variable (unclaimed : ∀ a, (s.aisleRecord a).reservedBy ≠ some d)

include unclaimed

theorem State.reservedBy_requested : ((s.requested d f set).aisleRecord b).reservedBy = some d ↔ b ∈ set := by
  rw [State.aisleRecord_requested]
  split <;> simp_all

/-- A set without holders is held at once. -/
theorem State.reserveSet_empty (nonempty : set ≠ []) (empty : ∀ a ∈ set, (s.aisleRecord a).holder = .none) :
    s.reserveSet d f set =
      ((s.requested d f set).setHolders ((s.requested d f set).reservedFor d) (.doffer d)).emit (.aislesHeldNotice d f) := by
  obtain ⟨a, mem⟩ := List.exists_mem_of_ne_nil set nonempty
  have notices : (s.requested d f set).heldNotices d = [.aislesHeldNotice d f] := by
    have claim : (s.requested d f set).aou.claims.get d = some f := by
      rw [State.requested_aside]
      exact Tab.get_set_self _ _ _
    rw [State.heldNotices, claim]
  rw [State.reserveSet_eq, State.holdStep_holds ((State.reservedBy_requested unclaimed).2 mem), notices]
  · rfl
  · intro b reserved
    have mem := (State.reservedBy_requested unclaimed).1 reserved
    rw [State.aisleRecord_requested, if_pos mem]
    exact empty b mem

theorem State.aisleRecord_reserveSet_empty (nonempty : set ≠ []) (empty : ∀ a ∈ set, (s.aisleRecord a).holder = .none) :
    (s.reserveSet d f set).aisleRecord b =
      if b ∈ set then { holder := .doffer d, reservedBy := some d } else s.aisleRecord b := by
  rw [State.reserveSet_empty unclaimed nonempty empty]
  refine State.aisleRecord_setHolders_reserved.trans ?_
  refine if_ctx_congr (State.reservedBy_requested unclaimed) (fun _ => rfl) fun outside => ?_
  rw [State.aisleRecord_requested, if_neg outside]

theorem State.inFlight_reserveSet_empty (nonempty : set ≠ []) (empty : ∀ a ∈ set, (s.aisleRecord a).holder = .none) :
    (s.reserveSet d f set).inFlight = s.inFlight ++ [.aislesHeldNotice d f] := by
  rw [State.reserveSet_empty unclaimed nonempty empty, State.setHolders_aside, State.requested_aside,
    State.recalls_empty empty, List.append_nil]
  rfl

/-- With a holder in the set the doffer waits. -/
theorem State.reserveSet_waits (taken : ¬∀ a ∈ set, (s.aisleRecord a).holder = .none) :
    s.reserveSet d f set = s.requested d f set := by
  push Not at taken
  obtain ⟨a, mem, held⟩ := taken
  refine State.reserveSet_eq.trans (State.holdStep_waits (.inl ⟨a, (State.reservedBy_requested unclaimed).2 mem, ?_⟩))
  rwa [State.aisleRecord_requested, if_pos mem]

end

/-! ### The scan of the pending list (R113) -/

theorem State.setOpen_iff : s.setOpen d set = true ↔
    ∀ a ∈ set, (s.aisleRecord a).reservedBy = none ∨ (s.aisleRecord a).reservedBy = some d := by
  refine List.all_eq_true.trans (forall₂_congr fun a _ => ?_)
  cases (s.aisleRecord a).reservedBy <;> simp

theorem State.setOpen_iff_not_blocked : s.setOpen d set = true ↔
    ¬∃ a ∈ set, ∃ e, (s.aisleRecord a).reservedBy = some e ∧ e ≠ d := by
  rw [State.setOpen_iff]
  push Not
  refine forall₂_congr fun a _ => ?_
  cases (s.aisleRecord a).reservedBy <;> simp

theorem State.holdStep_setWaiting : (s.setWaiting w).holdStep d = (s.holdStep d).setWaiting w := by
  by_cases waits : (∃ a, (s.aisleRecord a).reservedBy = some d ∧ (s.aisleRecord a).holder ≠ .none)
      ∨ ∀ a, (s.aisleRecord a).reservedBy ≠ some d
  · rw [State.holdStep_waits waits, State.holdStep_waits (s := s.setWaiting w) waits]
  · push Not at waits
    obtain ⟨empty, a, reserved⟩ := waits
    have held : (s.setWaiting w).setHolders (s.reservedFor d) (.doffer d) =
        (s.setHolders (s.reservedFor d) (.doffer d)).setWaiting w := List.foldl_hom (State.setWaiting w) fun _ _ => rfl
    rw [State.holdStep_holds reserved empty, State.holdStep_holds (s := s.setWaiting w) reserved empty]
    exact congrArg (State.emitAll (s.heldNotices d)) held

theorem State.reserveSet_setWaiting : (s.setWaiting w).reserveSet d f set = (s.reserveSet d f set).setWaiting w := by
  have reserved : (s.setWaiting w).setReservations set (some d) = (s.setReservations set (some d)).setWaiting w :=
    List.foldl_hom (State.setWaiting w) fun _ _ => rfl
  have requested : (s.setWaiting w).requested d f set = (s.requested d f set).setWaiting w := by
    rw [State.requested, reserved]
    rfl
  rw [State.reserveSet_eq, requested, State.holdStep_setWaiting, State.reserveSet_eq]

theorem State.waiting_reserveSet : (s.reserveSet d f set).aou.waiting = s.aou.waiting := by rw [State.reserveSet_aside]

/-- What the scan does at one entry. -/
def State.scanEntry (s : State) (p : PendingReservation) : State :=
  if s.setOpen p.doffer p.aisles then (s.setWaiting (s.aou.waiting.erase p)).reserveSet p.doffer p.frame p.aisles else s

theorem State.scan_eq : s.scan = s.aou.waiting.foldl State.scanEntry s := rfl

/-- The pending list with an entry put before it. -/
def State.behind (p : PendingReservation) (s : State) : State := s.setWaiting (p :: s.aou.waiting)

/-- The scan of an entry does not look at another one before it. -/
theorem State.scanEntry_behind (other : p ≠ q) : (s.behind p).scanEntry q = (s.scanEntry q).behind p := by
  have same : (s.behind p).setOpen q.doffer q.aisles = s.setOpen q.doffer q.aisles := rfl
  have erased : (s.behind p).aou.waiting.erase q = p :: s.aou.waiting.erase q :=
    List.erase_cons_tail (by simpa using other)
  rw [State.scanEntry, State.scanEntry, same, erased]
  split
  · rw [State.behind, State.behind, State.reserveSet_setWaiting, State.reserveSet_setWaiting, State.reserveSet_setWaiting]
    rfl
  · rfl

theorem State.scanEntries_behind (absent : p ∉ rest) :
    rest.foldl State.scanEntry (s.behind p) = (rest.foldl State.scanEntry s).behind p := by
  induction rest generalizing s with
  | nil => rfl
  | cons q rest ih =>
    rw [List.mem_cons, not_or] at absent
    obtain ⟨other, absent⟩ := absent
    rw [List.foldl_cons, List.foldl_cons, State.scanEntry_behind other, ih absent]

theorem State.scan_open (head : s.aou.waiting = p :: rest) (free : s.setOpen p.doffer p.aisles = true) :
    s.scan = ((s.setWaiting rest).reserveSet p.doffer p.frame p.aisles).scan := by
  have first : s.scanEntry p = (s.setWaiting rest).reserveSet p.doffer p.frame p.aisles := by
    rw [State.scanEntry, if_pos free, head, List.erase_cons_head]
  rw [State.scan_eq, head, List.foldl_cons, first, State.scan_eq, State.waiting_reserveSet]
  rfl

theorem State.scan_blocked (head : s.aou.waiting = p :: rest) (blocked : ¬s.setOpen p.doffer p.aisles = true)
    (once : p ∉ rest) : s.scan = (s.setWaiting rest).scan.behind p := by
  have first : s.scanEntry p = (s.setWaiting rest).behind p := by
    rw [State.scanEntry, if_neg blocked]
    exact congrArg (fun w => { s with aou := { s.aou with waiting := w } }) head
  rw [State.scan_eq, head, List.foldl_cons, first, State.scanEntries_behind once]
  rfl

/-! ### A claim ends (R112) -/

theorem State.mem_heldBy : a ∈ s.heldBy d ↔ (s.aisleRecord a).holder = .doffer d := by simp [State.heldBy]

/-- A doffer's pending entry, holds and reservations are gone. -/
def State.unclaimed (d : DofferId) (s : State) : State :=
  (((s.setWaiting (s.aou.waiting.filter fun p => p.doffer != d)).setHolders (s.heldBy d) .none).setReservations
    (s.reservedFor d) none).setClaimed d none

theorem State.endClaim_eq : s.endClaim d = if s.reservedFor d ≠ [] then (s.unclaimed d).scan else s.unclaimed d := rfl

theorem State.reservedFor_ne_nil : s.reservedFor d ≠ [] ↔ ∃ a, (s.aisleRecord a).reservedBy = some d := by
  rw [Ne, List.eq_nil_iff_forall_not_mem]
  push Not
  exact exists_congr fun a => State.mem_reservedFor

theorem State.heldBy_ne_nil : s.heldBy d ≠ [] ↔ ∃ a, (s.aisleRecord a).holder = .doffer d := by
  rw [Ne, List.eq_nil_iff_forall_not_mem]
  push Not
  exact exists_congr fun a => State.mem_heldBy

theorem State.aisleRecord_unclaimed : (s.unclaimed d).aisleRecord a =
    { holder := if (s.aisleRecord a).holder = .doffer d then .none else (s.aisleRecord a).holder,
      reservedBy := if (s.aisleRecord a).reservedBy = some d then none else (s.aisleRecord a).reservedBy } := by
  refine State.aisleRecord_setReservations.trans ?_
  rw [State.aisleRecord_setHolders]
  simp only [State.mem_reservedFor, State.mem_heldBy, State.aisleRecord_setWaiting]
  split <;> split <;> rfl

theorem State.unclaimed_aside :
    s.unclaimed d =
      { s with
        aou := { s.aou with
          aisles := (s.unclaimed d).aou.aisles
          waiting := s.aou.waiting.filter fun p => p.doffer != d
          claims := s.aou.claims.set d none } } := by
  unfold State.unclaimed
  rw [State.setReservations_aside, State.setHolders_aside]
  rfl

/-! ### A doffer's release and its request (R109, R112, R115) -/

/-- The free-aisle notices of a claim that has ended: of the aisles that `s` shows the doffer to have held or reserved, those
that `t` shows free. -/
def State.freed (d : DofferId) (s t : State) : List Instr :=
  ((List.finRange 64).filter fun a =>
    (decide ((s.aisleRecord a).holder = .doffer d) || decide ((s.aisleRecord a).reservedBy = some d))
      && decide ((t.aisleRecord a).holder = .none) && decide ((t.aisleRecord a).reservedBy = none)).map
    Instr.freeAisleNotice

theorem State.freeNotices_claimedBy : t.freeNotices (s.claimedBy d) = s.freed d t := by
  unfold State.freeNotices State.claimedBy State.freed
  rw [List.filter_filter]
  refine congrArg (List.map Instr.freeAisleNotice) (List.filter_congr fun a _ => ?_)
  rw [Bool.eq_iff_iff]
  simp only [Bool.and_eq_true, Bool.or_eq_true, List.contains_iff_mem, State.mem_heldBy, State.mem_reservedFor, beq_iff_eq,
    decide_eq_true_eq]
  tauto

theorem exec_dofferRelease (next : s.Next dcuToAou (.dofferRelease d)) :
    exec (.dofferRelease d) s = .next ((s.drop (.dofferRelease d)).takeDofferRelease d) :=
  congrArg Host.Outcome.next (State.handoffInOrder_next next)

theorem exec_dofferReservation (next : s.Next dcuToAou (.dofferReservation d f)) :
    exec (.dofferReservation d f) s = .next ((s.drop (.dofferReservation d f)).takeReservation d f) :=
  congrArg Host.Outcome.next (State.handoffInOrder_next next)

theorem State.takeDofferRelease_eq :
    s.takeDofferRelease d = (s.endClaim d).emitAll (s.freed d (s.endClaim d)) := by
  rw [State.takeDofferRelease, State.freeNotices_claimedBy]

theorem State.hasClaim_iff : s.hasClaim d = true ↔
    (∃ a, (s.aisleRecord a).reservedBy = some d ∨ (s.aisleRecord a).holder = .doffer d)
      ∨ ∃ p ∈ s.aou.waiting, p.doffer = d := by
  simp only [State.hasClaim, Bool.or_eq_true, bne_iff_ne, State.reservedFor_ne_nil, State.heldBy_ne_nil, List.any_eq_true,
    beq_iff_eq, exists_or]

/-- The "aisles held" notices of a doffer's former claims are gone. -/
def State.unnotified (d : DofferId) (s : State) : State :=
  { s with inFlight := s.inFlight.filter fun h => !heldNoticeOf d h }

theorem State.takeReservation_new (new : ¬(s.unnotified d).hasClaim d = true) :
    s.takeReservation d f = (s.unnotified d).placeClaim d f := if_neg new

theorem State.takeReservation_again (again : (s.unnotified d).hasClaim d = true) :
    s.takeReservation d f =
      (((s.unnotified d).endClaim d).placeClaim d f).emitAll (s.freed d ((s.unnotified d).endClaim d)) := by
  refine (if_pos again).trans ?_
  rw [State.freeNotices_claimedBy]
  rfl

theorem State.entry_endClaim : (s.endClaim d).entry f = s.entry f := by
  rw [State.entry, (State.Calm.refl.endClaim d).frames, State.entry]

/-- A set joins the reservations, or the pending list where one of its aisles is reserved for another doffer. -/
theorem State.placeClaim_eq {e : FrameEntry} (entry : s.entry f = e) :
    s.placeClaim d f =
      if ∀ a ∈ e.aisleSet, (s.aisleRecord a).reservedBy = none ∨ (s.aisleRecord a).reservedBy = some d
      then s.reserveSet d f e.aisleSet
      else s.setWaiting (s.aou.waiting ++ [{ doffer := d, frame := f, aisles := e.aisleSet }]) := by
  subst entry
  exact if_congr State.setOpen_iff rfl rfl

/-- The aisles that a frame faces are those of its present sides. -/
theorem FrameEntry.mem_aisleSet {e : FrameEntry} : a ∈ e.aisleSet ↔
    (0 < e.lengthA ∧ e.aisle .A = a) ∨ (0 < e.lengthB ∧ e.aisle .B = a) := by
  have onSide : (∃ side, 0 < e.length side ∧ e.aisle side = a) ↔
      (0 < e.lengthA ∧ e.aisle .A = a) ∨ (0 < e.lengthB ∧ e.aisle .B = a) :=
    ⟨fun ⟨side, h⟩ => by cases side; exacts [.inl h, .inr h], fun h => h.elim (⟨.A, ·⟩) (⟨.B, ·⟩)⟩
  have present (side : Side) : side ∈ e.presentSides ↔ 0 < e.length side := by
    cases side <;> simp [FrameEntry.presentSides, sides]
  simp only [FrameEntry.aisleSet, List.mem_filter, List.mem_finRange, true_and, List.contains_iff_mem, List.mem_map, present]
  exact onSide

theorem FrameEntry.aisleSet_ascends (e : FrameEntry) : e.aisleSet.Pairwise (· < ·) :=
  (List.pairwise_lt_finRange 64).filter _

/-- Settles O33: releases and requests by their equations, each with what it leaves aside, and the scan as a fold in which a
blocked entry stays before the rest. -/
theorem aisleOccupancy : Obligations.AisleOccupancy := by
  refine ⟨fun k a s => ?_, fun d f set s => ?_, fun d s => ?_, fun p rest s => ?_, fun d f s => ?_, fun d s => ?_⟩
  · intro c s1 next
    have taken := exec_robotRelease next
    refine ⟨fun other => ?_, fun holds free => ?_,
      fun d holds reserved => ⟨fun b other mine held => ?_, fun f empty claim => ?_⟩⟩
    · rw [taken, State.takeRobotRelease_other (s := s1) other]
    · have left : s1.setHolder a .none = s1.setAisle a { holder := .none, reservedBy := none } := by
        rw [← free]
        rfl
      rw [taken, State.takeRobotRelease_free (s := s1) holds free, left]
      rfl
    · have left : s1.setHolder a .none = s1.setAisle a { holder := .none, reservedBy := some d } := by
        rw [← reserved]
        rfl
      rw [taken, State.takeRobotRelease_reserved (s := s1) holds reserved, ← left, State.holdStep_waits]
      refine .inl ⟨b, State.reservedBy_setHolder.trans mine, ?_⟩
      rw [State.holder_setHolder, if_neg other]
      exact held
    · exact ⟨_, taken, fun b => State.aisleRecord_takeRobotRelease_last (s := s1) holds reserved empty,
        State.takeRobotRelease_last_aside (s := s1) holds reserved empty claim⟩
  · intro t empty nonempty ascending unclaimed
    have unreserved := fun a => (unclaimed a).1
    have claims : t.aou.claims = s.aou.claims.set d (some f) := congrArg (fun v : State => v.aou.claims) State.reserveSet_aside
    refine ⟨fun empty a => ?_, fun empty => ?_, fun taken a => ?_, fun taken => ?_, ?_, fun e other => ?_,
      State.waiting_reserveSet, ?_⟩
    · exact State.aisleRecord_reserveSet_empty unreserved nonempty empty
    · exact State.inFlight_reserveSet_empty unreserved nonempty empty
    · exact (congrArg (fun v : State => v.aisleRecord a) (State.reserveSet_waits unreserved taken)).trans
        State.aisleRecord_requested
    · refine ⟨s.recalls set, ?_, fun h => State.mem_recalls, State.recalls_ascend ascending⟩
      refine (congrArg State.inFlight (State.reserveSet_waits unreserved taken)).trans ?_
      rw [State.requested_aside]
    · rw [claims, Tab.get_set_self]
    · rw [claims, Tab.get_set_ne _ other.symm]
    · exact State.reserveSet_in_aou
  · intro t
    refine ⟨s.unclaimed d, fun a => State.aisleRecord_unclaimed, ?_, ?_, fun e other => ?_, ?_, fun reserved => ?_,
      fun unreserved => ?_⟩
    · rw [State.unclaimed_aside]
    · rw [State.unclaimed_aside]
      exact Tab.get_set_self _ _ _
    · rw [State.unclaimed_aside]
      exact Tab.get_set_ne _ other.symm _
    · rw [State.unclaimed_aside]
    · exact State.endClaim_eq.trans (if_pos (State.reservedFor_ne_nil.2 reserved))
    · exact State.endClaim_eq.trans (if_neg fun claimed => (State.reservedFor_ne_nil.1 claimed).elim unreserved)
  · intro blocked
    refine ⟨fun nil => ?_, fun head free => ?_, fun head taken once => ?_⟩
    · rw [State.scan_eq, nil]
      rfl
    · exact State.scan_open head (State.setOpen_iff_not_blocked.2 free)
    · exact State.scan_blocked head (fun free => State.setOpen_iff_not_blocked.1 free taken) once
  · intro c faces set u claims place w next
    have taken := exec_dofferReservation next
    have claimed : u.hasClaim d = true ↔ claims := State.hasClaim_iff
    refine ⟨fun a => FrameEntry.mem_aisleSet, FrameEntry.aisleSet_ascends _, fun new => ?_, fun again => ?_⟩
    · rw [taken, State.takeReservation_new (s := s.drop c) (mt claimed.1 new)]
      exact congrArg Host.Outcome.next (State.placeClaim_eq (s := u) rfl)
    · rw [taken, State.takeReservation_again (s := s.drop c) (claimed.2 again)]
      exact congrArg (fun v : State => Host.Outcome.next (v.emitAll (s.freed d w)))
        (State.placeClaim_eq (s := w) (State.entry_endClaim (s := u)))
  · intro c w next
    rw [exec_dofferRelease next, State.takeDofferRelease_eq]
    rfl

end Sys2Proof.Machine
end
